-- ==== Sys2Proof/Word.lean ====
section
/-! DEFINITION. The word types of the AZ9: a byte, a byte string, a 64-bit Pier link block (R21, R173). -/

namespace Sys2Proof

/-- One byte of a message, a DOMAIN value or a table. -/
abbrev Byte := BitVec 8

/-- A byte string in transmission order: the lowest offset first (R21). -/
abbrev Bytes := List Byte

/-- A 64-bit block of the Pier link (a STAT block as it is received). -/
abbrev Block := BitVec 64

end Sys2Proof
end

