-- ==== Sys2Proof/Syntax.lean ====
section
/-! DEFINITION. The commands and events of the AZ9 (the rows of spec/opcode_table.json) and the types of their operands. -/

namespace Sys2Proof

/-- The roles of a session (R329). -/
inductive Role where
  | x | o | s | v
  deriving DecidableEq, Repr

/-- Who makes a dictionary access: the session's context number and its role (R329, R331). -/
structure Caller where
  sess : Nat
  role : Role
  deriving DecidableEq, Repr

/-- The two islands (R25). -/
inductive Side where
  | host | field
  deriving DecidableEq, Repr

/-- The header of a CSI-2 packet as it is received: virtual channel, its extension bits, data type, word count (of a Frame Start or Frame
End the frame number) and the result of the header's ECC: 0 good, 1 a single-bit error, 2 uncorrectable (R239). -/
structure PacketHeader where
  vc : Nat
  vcx : Nat
  dt : Nat
  wordCount : Nat
  ecc : Nat
  deriving DecidableEq, Repr

/-- A packet at a camera port (R239). -/
structure PortPacket where
  port : Nat
  hdr : PacketHeader
  deriving DecidableEq, Repr

/-- What the I²C bus showed of one record (R245, R247): a NACK, a lost arbitration, the longest clock stretch in 0.1 ns, and the bytes that
went over the bus before a bus error. -/
structure BusReport where
  nack : Bool
  lost : Bool
  stretch : Nat
  sent : Nat
  deriving DecidableEq, Repr

/-- What an uncorrectable DRAM read hits, by the region it lies in (R291, R306): a strip; a line slot of a head, read into staging or by
the renderer; a slot of a camera's ring; a head's fired-line record; a preview; an archive block of a channel's job by its place in the output; a firmware image copy;
the fault-log mirror; or the training area, which holds nothing. -/
inductive EccHit where
  | strip (plane job page firstLine firstCol : Nat)
  | trestle (head : Nat) (line : Int) (staging : Bool)
  | ring (camera slot : Nat)
  | record (head : Nat)
  | preview
  | archive (chan job block : Nat)
  | firmware (image : Nat)
  | log
  | training
  deriving DecidableEq, Repr

/-- A receiver that matches rates: of a head port, of a Span channel, of a Stay lane (R185, R381, R471). -/
inductive RxLane where
  | pier (h : Nat)
  | span (c : Nat)
  | stay (l : Nat)
  deriving DecidableEq, Repr

/-- The IDLE blocks that a receiver has inserted and deleted since the last control cycle. -/
structure IdleCount where
  lane : RxLane
  ins : Nat
  del : Nat
  deriving DecidableEq, Repr

/-- What a control cycle finds: the readings of the die sensors (R463) and the IDLE counts of the receivers. -/
structure CycleReport where
  temps : List Nat
  idles : List IdleCount
  deriving DecidableEq, Repr

/-- What a poll of MR4 finds (R296, R298): whether each rank is hot, and how long after it the next command opportunity comes, in 0.1 ns. -/
structure PollReport where
  hots : List Bool
  wait : Nat
  deriving DecidableEq, Repr

/-- The burst of a corrected read (R290): its address, and whether a write to it is queued already. -/
structure BurstRead where
  addr : Nat
  queued : Bool
  deriving DecidableEq, Repr

/-- One lane's result of a retrain: read window and write window in delay steps, each from its first to its last passing step (R301). -/
structure LaneSweep where
  readLo : Nat
  readHi : Nat
  writeLo : Nat
  writeHi : Nat
  deriving DecidableEq, Repr

/-- What one lane's sweeps show in full training (R293): for each Vref value in ascending order the delay steps that pass, bit i for step i,
of the read sweep and of the write sweep. -/
structure LaneEyes where
  read : List Nat
  write : List Nat
  deriving DecidableEq, Repr

/-- The result of full training of one subchannel (R293-R295): its lanes' sweeps and the ms that steps 2 to 5 have taken. -/
structure TrainResult where
  lanes : List LaneEyes
  steps : List Nat
  deriving DecidableEq, Repr

/-- What a compression channel's input read returned: the block's bytes, or an uncorrectable read (R310, R320). -/
inductive SourceRead where
  | data (b : Bytes)
  | uncorrectable
  deriving DecidableEq, Repr

/-- One measured timing path at an operating point (R461, R462). -/
structure PathMargin where
  mv : Nat
  mhz : Nat
  ps : Int
  deriving DecidableEq, Repr

/-- A PTP event message at a host port: its type, direction, the stamp point and the correction it carries (R401, R402). -/
structure PtpMessage where
  kind : Nat
  transmit : Bool
  seq : Nat
  domain : Nat
  origin : Int
  correction : Int
  deriving DecidableEq, Repr

/-- What the network layers found in a received frame (R355): 0 UDP, 1 ARP or neighbour request, 2 echo request; IPv6; options
or extension headers; a fragment; the 802.1Q tags and the tag's VLAN; the UDP destination port; the UDP checksum. -/
structure FrameHead where
  proto : Nat
  v6 : Bool
  extra : Bool
  frag : Bool
  tags : Nat
  vlan : Nat
  dport : Nat
  sumOk : Bool
  deriving DecidableEq, Repr

/-- What a DEBUG_REQ asks of the field island (R502). -/
inductive DebugAct where
  | observe
  | halt
  | resume
  | reset
  | write
  deriving DecidableEq, Repr

/-- The kinds of block that a block reset waits for (R437, R438). -/
inductive BlockKind where
  | pier | camera | channel | engine | ring
  deriving DecidableEq, Repr

/-- The commands and events of the AZ9: one constructor per row of spec/opcode_table.json.
The operand `t` is the physical instant of the command in units of 0.1 ns (log entry 1). -/
inductive Instr where
  /-- `OBJECT_WRITE` (R328). A write to a dictionary object that has no row of its own is checked, then takes effect or is staged according to its access mode. -/
  | objectWrite (t : Nat) (a : Caller) (ix : Nat) (sub : Nat) (ty : Nat) (v : Bytes)
  /-- `RWL_WRITE` (R99). A write to an RWL object is accepted as pending and bound to the first unopened line of its plane. -/
  | rwlWrite (t : Nat) (a : Caller) (ix : Nat) (sub : Nat) (ty : Nat) (v : Bytes)
  /-- `ENCODER_EDGE` (R43). An edge on an encoder input is stamped, validated and, when accepted, counted. -/
  | encoderEdge (t : Nat) (e : Nat) (la : Bool) (lb : Bool) (lz : Bool)
  /-- `STANDSTILL` (R59). With no accepted edge for StandstillTimeout, the speed is forced to 0 and the edge history is discarded. -/
  | standstill (t : Nat) (e : Nat)
  /-- `PREDICTION_LIMIT` (R72). When the time since the last edge exceeds 2/v, extrapolation stops and predictions are withdrawn. -/
  | predictionLimit (t : Nat)
  /-- `SPS_REQUEST` (R56). A refresh tick starts a serial-sensor word request and samples the primary counter, or is skipped and counted. -/
  | spsRequest (t : Nat)
  /-- `SPS_WORD` (R56). A received sensor word is checked by CRC and error bit and stored as good or discarded as bad. -/
  | spsWord (t : Nat) (word : Nat) (crc : Nat)
  /-- `SPS_WORD_TIMEOUT` (R56). A start bit that does not arrive within WordTimeout makes the word bad. -/
  | spsWordTimeout (t : Nat)
  /-- `CONTROL_CYCLE` (R33). Every 25,000 ns of the field time base, the control loops, mirroring and periodic checks run. -/
  | controlCycle (t : Nat) (rep : CycleReport)
  /-- `COUNTER_PRESET` (R48). Sets an encoder counter and the schedule position while every plane is disabled. -/
  | counterPreset (t : Nat) (a : Caller) (e : Nat) (v : Bytes)
  /-- `LOAD_FROM_SPS` (R57). Arms loading of the primary counter from the next good sensor word, while every plane is disabled. -/
  | loadFromSps (t : Nat) (a : Caller) (v : Bytes)
  /-- `INDEX_ARM` (R540). Arms or re-arms the index function of a channel. -/
  | indexArm (t : Nat) (a : Caller) (e : Nat) (v : Bytes)
  /-- `CHECK_RESET` (R63). Takes a new cross-check reference. -/
  | checkReset (t : Nat) (a : Caller) (v : Bytes)
  /-- `UNCERTAIN_CLEAR` (R66). Clears the latched uncertain state when its conditions have gone, and is refused otherwise. -/
  | uncertainClear (t : Nat) (a : Caller) (v : Bytes)
  /-- `LINE_LOAD` (R69). Sets a disabled plane's accumulator to a line with phase 0. -/
  | lineLoad (t : Nat) (a : Caller) (k : Nat) (v : Bytes)
  /-- `PRIMARY_SOURCE_WRITE` (R76). A write of PrimarySource while planes are disabled changes the source, ends scaled counting and sets the schedule position. -/
  | primarySourceWrite (t : Nat) (a : Caller) (v : Bytes)
  /-- `SCHEDULE_INSERT` (R88). Checks 1 to 256 schedule entries and inserts all of them atomically, or refuses the whole write. -/
  | scheduleInsert (t : Nat) (a : Caller) (v : Bytes)
  /-- `CANCEL_TAG` (R98). Removes every armed, unbound entry that carries the tag. -/
  | cancelTag (t : Nat) (a : Caller) (v : Bytes)
  /-- `CANCEL_ALL` (R98). Removes every armed, unbound entry. -/
  | cancelAll (t : Nat) (a : Caller) (v : Bytes)
  /-- `CAMERA_TRIGGER_COMMIT` (R82). When a trigger prediction lies 2 µs or less ahead, the pulse is committed and placed. -/
  | cameraTriggerCommit (t : Nat) (seq : Nat)
  /-- `CAMERA_TRIGGER_PULSE` (R241). At the placed instant, CAMc_TRIG goes active, the pulse is stamped and an expectation is created. -/
  | cameraTriggerPulse (t : Nat) (c : Nat)
  /-- `TRIGGER_PULSE_END` (R241). After TrigWidth, the trigger output returns inactive. -/
  | triggerPulseEnd (t : Nat) (c : Nat)
  /-- `PLANE_ENABLE` (R118). A write of true to a plane's Enable runs the geometry check, allocates the trestle block and opens lines. -/
  | planeEnable (t : Nat) (a : Caller) (k : Nat) (v : Bytes)
  /-- `PLANE_DISABLE` (R134). A write of false to a plane's Enable disables the plane at once, acting as PageAbort 2. -/
  | planeDisable (t : Nat) (a : Caller) (k : Nat) (v : Bytes)
  /-- `CHECK_PLANE` (R118). Runs the geometry check on current and staged values without enabling, and reports FaultReason. -/
  | checkPlane (t : Nat) (a : Caller) (v : Bytes)
  /-- `DEPOSIT` (R127). The deposit engine checks a strip container, stores or refuses it, and returns a status. -/
  | deposit (t : Nat) (body : Bytes)
  /-- `DEPOSIT_ABORT` (R385). A partly received deposit ends TRUNCATED. -/
  | depositAbort (t : Nat) (body : Bytes)
  /-- `PAGE_APPEND` (R130). Checks a page descriptor, appends it to the plane's queue and binds matching orphans. -/
  | pageAppend (t : Nat) (a : Caller) (k : Nat) (v : Bytes)
  /-- `PAGE_ABORT_AT_LINE` (R134). PageAbort 1 blanks the active page from the first unopened line. -/
  | pageAbortAtLine (t : Nat) (a : Caller) (k : Nat) (v : Bytes)
  /-- `PAGE_ABORT_NOW` (R134). PageAbort 2 also withholds uncommitted strobes of opened lines and records them aborted. -/
  | pageAbortNow (t : Nat) (a : Caller) (k : Nat) (v : Bytes)
  /-- `FLUSH_JOB` (R135). Removes the queued pages of a job from all queues, with their strips and orphans. -/
  | flushJob (t : Nat) (a : Caller) (v : Bytes)
  /-- `FLUSH_ORPHANS` (R128). Frees every orphan strip. -/
  | flushOrphans (t : Nat) (a : Caller) (v : Bytes)
  /-- `PAGE_QUEUE_RESUME` (R141). Clears a plane's HOLD so that the head page can start as WAIT. -/
  | pageQueueResume (t : Nat) (a : Caller) (k : Nat) (v : Bytes)
  /-- `INFLATE_DISPATCH` (R137). An eligible strip is dispatched to the lowest free engine of its plane's mask, in deadline order. -/
  | inflateDispatch (t : Nat)
  /-- `INFLATE_COMPLETE` (R138). An engine ends a strip, which is verified or fails with cause INFLATE or CRC. -/
  | inflateComplete (t : Nat) (e : Nat)
  /-- `INFLATE_ENGINE_RESET` (R142). A write of Reset stops an engine and clears it; its strip returns or faults. -/
  | inflateEngineReset (t : Nat) (a : Caller) (e : Nat) (v : Bytes)
  /-- `INFLATE_ENGINE_FAULT` (R143). An engine that produces no byte for 100 µs while a buffer is free, or reports an internal error, is stalled and reset. -/
  | inflateEngineFault (t : Nat) (e : Nat)
  /-- `SCREEN_LINE` (R146). An opened line passes through the contone or dot stages, and its drop codes are written into the trestle. -/
  | screenLine (t : Nat) (k : Nat)
  /-- `NOZZLE_WRITE` (R155). Writes whole nozzle-table blocks, which take effect from each plane's next opened line. -/
  | nozzleWrite (t : Nat) (a : Caller) (v : Bytes)
  /-- `LINE_STAT` (R208). A LINE STAT record confirms or rejects strobed lines, updates the temperature and evaluates the thermal state. -/
  | lineStat (t : Nat) (h : Nat) (w : Block)
  /-- `MEASURE_STAT` (R221). A MEASURE STAT stores and classifies one nozzle's measured value. -/
  | measureStat (t : Nat) (h : Nat) (w : Block)
  /-- `IDENTITY_STAT` (R192). IDENTITY STATs give the carrier's identity, and NozzleCount is compared with the head records. -/
  | identityStat (t : Nat) (h : Nat) (w : Block)
  /-- `OWNER_STAT` (R191). An OWNER STAT reports the held epoch and owner, and makes the port UP, NOT_OWNER or lost. -/
  | ownerStat (t : Nat) (h : Nat) (w : Block)
  /-- `LINK_STAT` (R193). A LINK STAT reports the carrier's lock, inversion and alignment, and can take the port DOWN. -/
  | linkStat (t : Nat) (h : Nat) (w : Block)
  /-- `CONTROL_BLOCK_DISCARD` (R175). A received control block with an unknown type, a bad Check or a nonzero reserved field is discarded and counted. -/
  | controlBlockDiscard (t : Nat) (h : Nat) (w : Block)
  /-- `BRING_UP_ATTEMPT` (R189). A bring-up attempt starts on a port or bonded link, driving HTX out of electrical idle. -/
  | bringUpAttempt (t : Nat) (h : Nat)
  /-- `HRX_LOCK` (R189). Bit lock, block or comma lock and polarity are reached on HRX, and the attempt advances. -/
  | hrxLock (t : Nat) (h : Nat) (inv : Bool)
  /-- `BRING_UP_STAGE_TIMEOUT` (R190). A bring-up stage passes its bound, the attempt fails, and the port falls back or enters DOWN. -/
  | bringUpStageTimeout (t : Nat) (h : Nat)
  /-- `RETRY_INTERVAL` (R190). A DOWN port retries bring-up from the main path after RetryInterval. -/
  | retryInterval (t : Nat) (h : Nat)
  /-- `LOSS_OF_SIGNAL` (R193). HRX amplitude below the LOS threshold for 1 µs takes the port DOWN and starts a new attempt. -/
  | lossOfSignal (t : Nat) (h : Nat)
  /-- `LOSS_OF_LOCK` (R193). Too many invalid headers or code violations on HRX take the port DOWN. -/
  | lossOfLock (t : Nat) (h : Nat)
  /-- `STAT_TIMEOUT` (R193). No LINE STAT for 100 µs takes the port DOWN. -/
  | statTimeout (t : Nat) (h : Nat)
  /-- `MARK_DUE` (R186). A MARK falls due every 16,384 blocks on each HTX lane, and is deferred past a frame. -/
  | markDue (t : Nat) (h : Nat)
  /-- `PIER_RESET` (R196). Brings the pier's ports DOWN and starts bring-up at once. -/
  | pierReset (t : Nat) (a : Caller) (p : Nat) (v : Bytes)
  /-- `PIER_OUT_OF_SERVICE` (R196). Service 1 puts the lanes in electrical idle and holds the pier's heads. -/
  | pierOutOfService (t : Nat) (a : Caller) (p : Nat) (v : Bytes)
  /-- `PIER_IN_SERVICE` (R196). Service 0 starts bring-up of the pier. -/
  | pierInService (t : Nat) (a : Caller) (p : Nat) (v : Bytes)
  /-- `STROBE_COMMIT` (R199). Once a prediction lies CommitLead or less ahead, the strobe instant is fixed and the dropping rule applied. -/
  | strobeCommit (t : Nat) (h : Nat)
  /-- `STROBE` (R197). At t_s, HSTBh rises, the carrier fires its armed frame, and the confirmation window opens. -/
  | strobe (t : Nat) (h : Nat)
  /-- `STROBE_END` (R197). After StrobeWidth, HSTBh is driven low. -/
  | strobeEnd (t : Nat) (h : Nat)
  /-- `FRAME_WINDOW_OPEN` (R203). The holdoff after the head's previous resolution ends, and the frame window of the next line opens. -/
  | frameWindowOpen (t : Nat) (h : Nat)
  /-- `FRAME_SEND` (R203). Once the codes are staged and the link is free, LSTART, the payload blocks and LEND are sent. -/
  | frameSend (t : Nat) (h : Nat)
  /-- `FRAME_DEADLINE` (R204). A frame not complete by t_s − tSETUP is ended with LABORT, its strobe is withheld and the line is BLANK_LATE. -/
  | frameDeadline (t : Nat) (h : Nat)
  /-- `LINE_WITHHELD_RESOLVED` (R203). A withheld line is resolved at the later of its decision and t_s − CommitLead. -/
  | lineWithheldResolved (t : Nat) (h : Nat)
  /-- `CONFIRMATION_WINDOW_END` (R208). At t_s + 4 µs, an unconfirmed strobed entry becomes REJECTED, BLANK_THERMAL or FIRED_UNCONFIRMED. -/
  | confirmationWindowEnd (t : Nat) (h : Nat)
  /-- `MEASURE_CHUNK_START` (R219). When a head is idle enough, a MEASURE chunk of up to MeasureChunk nozzles is sent. -/
  | measureChunkStart (t : Nat) (h : Nat)
  /-- `SWEEP_START` (R220). A sweep starts after SweepInterval, or when a new CarrierId is seen. -/
  | sweepStart (t : Nat) (h : Nat)
  /-- `SWEEP_NOW` (R220). Starts a sweep of the head. -/
  | sweepNow (t : Nat) (a : Caller) (h : Nat) (v : Bytes)
  /-- `PROBE_HOLDOFF` (R232). After ProbeHoldoff, an applied entry with an in-limits resistance value enters probe. -/
  | probeHoldoff (t : Nat) (n : Nat)
  /-- `PENDING_TIMEOUT` (R227). A pending entry without a valid window for PendingTimeout is removed. -/
  | pendingTimeout (t : Nat) (n : Nat)
  /-- `DEFECT_CONFIRM` (R227). Applies a proposed defect entry. -/
  | defectConfirm (t : Nat) (a : Caller) (v : Bytes)
  /-- `DEFECT_REMOVE` (R233). Removes the defect entry of a channel. -/
  | defectRemove (t : Nat) (a : Caller) (v : Bytes)
  /-- `DEFECT_WRITE` (R233). Creates or replaces manual defect entries, applied at once. -/
  | defectWrite (t : Nat) (a : Caller) (v : Bytes)
  /-- `FRAME_START` (R240). A Frame Start is stamped, numbered and matched to an expectation, or its frame is discarded. -/
  | frameStart (t : Nat) (c : Nat) (hdr : PacketHeader) (fnum : Nat)
  /-- `IMAGE_LINE` (R239). A CSI-2 long packet is checked and stored as a valid or invalid line. -/
  | imageLine (t : Nat) (c : Nat) (hdr : PacketHeader) (data : Bytes) (crcOk : Bool)
  /-- `PACKET_DISCARD` (R239). A packet with an uncorrectable header, a wrong channel or a wrong type is discarded and counted. -/
  | packetDiscard (t : Nat) (c : Nat) (hdr : PacketHeader)
  /-- `FRAME_END` (R243). A frame ends, is judged short or long, and yields statistics and outputs. -/
  | frameEnd (t : Nat) (p : PortPacket)
  /-- `FRAME_TIMEOUT` (R243). A frame with no packet for FrameTimeout ends. -/
  | frameTimeout (t : Nat) (c : Nat)
  /-- `TRIGGER_MISSED` (R242). An expectation unmatched at tp + WindowMax expires and raises TriggerMissed. -/
  | triggerMissed (t : Nat) (c : Nat)
  /-- `FRAME_PROCESS` (R251). A through-memory frame starts pipeline processing in StartStamp order. -/
  | frameProcess (t : Nat)
  /-- `GENERATION_WRITE` (R246). Creates and queues a generation of sensor register records. -/
  | generationWrite (t : Nat) (a : Caller) (c : Nat) (v : Bytes)
  /-- `GENERATION_RECORD` (R247). One I²C record of a generation completes at its STOP, possibly completing the generation. -/
  | generationRecord (t : Nat) (c : Nat) (start : Nat) (bus : BusReport) (rdata : Bytes)
  /-- `CAMERA_ENABLE` (R240). Enables a camera port after the cover check, with frame numbering from 0. -/
  | cameraEnable (t : Nat) (a : Caller) (c : Nat) (v : Bytes)
  /-- `CAMERA_DISABLE` (R266). Discards the frame in progress, clears expectations and idles the port. -/
  | cameraDisable (t : Nat) (a : Caller) (c : Nat) (v : Bytes)
  /-- `CAMERA_RESET` (R266). Disables the port, clears the ring and the generation queue, and re-enables it. -/
  | cameraReset (t : Nat) (a : Caller) (c : Nat) (v : Bytes)
  /-- `IN_LINE_CAMERA` (R252). Changes the in-line camera from the next Frame Start. -/
  | inLineCamera (t : Nat) (a : Caller) (v : Bytes)
  /-- `WINDOW_CLOSE` (R274). A window of a plane closes for a camera, giving scores, findings and estimates. -/
  | windowClose (t : Nat) (k : Nat) (c : Nat)
  /-- `PLANE_MASK` (R284). Starts or stops inspection analysis of planes, allocating render extensions. -/
  | planeMask (t : Nat) (a : Caller) (v : Bytes)
  /-- `REFAB_DUE` (R297). A REFab falls due on a subchannel grid, and is issued or postponed. -/
  | refabDue (t : Nat) (u : Nat) (fill : Nat)
  /-- `OWED_REFRESH` (R297). When staging rises to PostponeBelow, the owed REFab are issued one after another. -/
  | owedRefresh (t : Nat) (u : Nat) (fill : Nat)
  /-- `TEMP_POLL` (R296). MR4 of every rank is read and the refresh interval is chosen. -/
  | tempPoll (t : Nat) (u : Nat) (rep : PollReport)
  /-- `ROW_ACTIVATE` (R302). An ACT updates the bank's row-hammer table and may queue a neighbour refresh. -/
  | rowActivate (t : Nat) (u : Nat) (rank : Nat) (bank : Nat) (row : Nat)
  /-- `CORRECTED_READ` (R290). A correctable ECC error is corrected, rewritten and counted. -/
  | correctedRead (t : Nat) (u : Nat) (rd : BurstRead)
  /-- `UNCORRECTABLE_READ` (R291). An uncorrectable read is counted and contained by region. -/
  | uncorrectableRead (t : Nat) (u : Nat) (addr : Nat) (hit : EccHit)
  /-- `FULL_TRAINING` (R293). Full DRAM training runs at start-up and the region map is laid out. -/
  | fullTraining (t : Nat) (ok : List TrainResult) (inits : List Nat)
  /-- `DRAM_RETRAIN` (R301). A retrain re-sweeps the read and write delays of a subchannel while staging covers the stall. -/
  | dramRetrain (t : Nat) (u : Nat) (fill : Nat)
  /-- `DRAM_RETRAIN_DONE` (R455). A finished retrain is accepted or rejected against the plausibility limits. -/
  | dramRetrainDone (t : Nat) (u : Nat) (lanes : List LaneSweep)
  /-- `COMPRESSION_SUBMIT` (R319). Checks a job descriptor, allots its archive blocks and queues it. -/
  | compressionSubmit (t : Nat) (a : Caller) (ch : Nat) (v : Bytes)
  /-- `JOB_START` (R320). A channel takes its oldest queued job. -/
  | jobStart (t : Nat) (ch : Nat)
  /-- `INPUT_BLOCK` (R310). An input block is compressed, verified and written into the allotment. -/
  | inputBlock (t : Nat) (ch : Nat) (src : SourceRead)
  /-- `COMPRESSION_RESUME` (R317). Gives a STOPPED job a new allotment. -/
  | compressionResume (t : Nat) (a : Caller) (v : Bytes)
  /-- `RESUME_TIMEOUT` (R317). A STOPPED job not resumed within ResumeTimeout ends TIMEOUT. -/
  | resumeTimeout (t : Nat) (ch : Nat)
  /-- `COMPRESSION_CANCEL` (R324). Ends a job of the session as CANCELLED at the end of the block in progress. -/
  | compressionCancel (t : Nat) (a : Caller) (v : Bytes)
  /-- `CHANNEL_RESET` (R324). Ends the channel's running job RESET and its queued jobs CANCELLED. -/
  | channelReset (t : Nat) (a : Caller) (ch : Nat) (v : Bytes)
  /-- `STAGING_WRITE` (R336). A write to an RWS object is staged in the session's commit group. -/
  | stagingWrite (t : Nat) (a : Caller) (ix : Nat) (sub : Nat) (ty : Nat) (v : Bytes)
  /-- `GROUP_COMMIT` (R337). Commits a group at once, applying every staged value or none. -/
  | groupCommit (t : Nat) (a : Caller) (g : Nat) (v : Bytes)
  /-- `GROUP_DISCARD` (R336). Empties a commit group. -/
  | groupDiscard (t : Nat) (a : Caller) (g : Nat) (v : Bytes)
  /-- `BINDING_WRITE` (R335). Rebinds an empty commit group to a plane or to none. -/
  | bindingWrite (t : Nat) (a : Caller) (g : Nat) (v : Bytes)
  /-- `DOMAIN_WRITE_BLOCK` (R341). A DOMAIN write block extends an open transfer; the last block applies or stages the value. -/
  | domainWriteBlock (t : Nat) (a : Caller) (block : Bytes)
  /-- `DOMAIN_READ_BLOCK` (R342). Returns one block of a DOMAIN object with its ChangeCount. -/
  | domainReadBlock (t : Nat) (a : Caller) (block : Bytes)
  /-- `DOMAIN_TRANSFER_TIMEOUT` (R341). More than 1 s between blocks ends the transfer, keeping nothing. -/
  | domainTransferTimeout (t : Nat) (sess : Nat) (ix : Nat) (sub : Nat)
  /-- `IMAGE_SAVE` (R349). Starts writing the unselected Renvos copy with the next Sequence. -/
  | imageSave (t : Nat) (a : Caller) (v : Bytes)
  /-- `IMAGE_SAVED` (R349). The flash write ends, raising ImageSaved or ImageSaveFailed. -/
  | imageSaved (t : Nat) (good : Bool)
  /-- `IMAGE_INVALIDATE` (R352). Erases the header of a Renvos copy. -/
  | imageInvalidate (t : Nat) (a : Caller) (v : Bytes)
  /-- `DATAGRAM` (R358). An Ngalis datagram is reassembled into a message, verified by its tag and checked for replay. -/
  | datagram (t : Nat) (port : Nat) (hd : FrameHead) (peer : Bytes) (data : Bytes)
  /-- `REASSEMBLY_TIMEOUT` (R358). A message still incomplete 10 ms after its first part is discarded. -/
  | reassemblyTimeout (t : Nat) (sess : Nat) (seq : Nat)
  /-- `HELLO` (R361). Reserves a session context and answers with the device's ephemeral key and signature. -/
  | hello (t : Nat) (port : Nat) (peer : Bytes) (body : Bytes)
  /-- `KEYX` (R361). Checks the host's credential and signature and answers with a status. -/
  | keyx (t : Nat) (sess : Nat) (seq : Nat) (body : Bytes)
  /-- `OPEN` (R362). Grants a role, binds rings and opens the session. -/
  | openSession (t : Nat) (sess : Nat) (seq : Nat) (body : Bytes)
  /-- `HANDSHAKE_TIMEOUT` (R361). A handshake not complete within HandshakeTimeout frees its context. -/
  | handshakeTimeout (t : Nat) (sess : Nat)
  /-- `READ` (R366). Reads one object and returns its value. -/
  | read (t : Nat) (a : Caller) (ix : Nat) (sub : Nat)
  /-- `ACCESS_PASSED` (R367). After ReorderHold, missing lower Sequences become passed and waiting accesses run. -/
  | accessPassed (t : Nat) (sess : Nat)
  /-- `STRIP` (R368). Places a strip container on the Span as a deposit. -/
  | strip (t : Nat) (sess : Nat) (seq : Nat) (body : Bytes)
  /-- `PING` (R370). Answers with the Token and the AZ9's time. -/
  | ping (t : Nat) (sess : Nat) (seq : Nat) (body : Bytes)
  /-- `HEARTBEAT` (R370). The AZ9 sends PING on a session on which it has sent nothing for HeartbeatPeriod. -/
  | heartbeat (t : Nat) (sess : Nat)
  /-- `SESSION_TIMEOUT` (R370). No verified message for SessionTimeout closes the session. -/
  | sessionTimeout (t : Nat) (sess : Nat)
  /-- `CLOSE` (R371). Closes a session, freeing its rings, transfers and jobs. -/
  | close (t : Nat) (sess : Nat) (body : Bytes)
  /-- `SESSION_CLOSE` (R378). A write of Close ends another session with reason 2. -/
  | sessionClose (t : Nat) (a : Caller) (sess : Nat) (v : Bytes)
  /-- `RING_RESET` (R374). Discards a ring's descriptors and leaves it bound. -/
  | ringReset (t : Nat) (a : Caller) (r : Nat) (v : Bytes)
  /-- `DESCRIPTOR_LAUNCH` (R375). An egress descriptor leaves its port at its launch time, flagged Late when it leaves late. -/
  | descriptorLaunch (t : Nat) (r : Nat) (port : Nat)
  /-- `HOST_LINK_CHANGE` (R353). A host port's link goes down or up. -/
  | hostLinkChange (t : Nat) (port : Nat) (up : Bool) (speed : Nat) (fec : Nat)
  /-- `SPAN_CELL` (R384). A cell arrives, is checked and reordered, and completes a message or discards it. -/
  | spanCell (t : Nat) (chan : Nat) (ctrl : Block) (data : Bytes) (crc : Nat)
  /-- `CELL_MISSING` (R384). A CellSeq still missing 100 ns after a later cell is a cell error. -/
  | cellMissing (t : Nat) (dir : Side) (cls : Nat)
  /-- `DICT_REQ` (R385). A dictionary access crosses to field firmware with the caller's role. -/
  | dictReq (t : Nat) (body : Bytes)
  /-- `TIME` (R404). The slave time base compares with the master and steps or trims its increment. -/
  | time (t : Nat) (body : Bytes)
  /-- `BOOT_DATA` (R385). Firmware data lands in the firmware region. -/
  | bootData (t : Nat) (body : Bytes)
  /-- `BOOT_CTRL_VERIFY` (R498). The field boot loader checks the received image and answers BOOT_STATUS. -/
  | bootCtrlVerify (t : Nat) (body : Bytes)
  /-- `BOOT_CTRL_ACTIVATE` (R466). Activates a verified field image. -/
  | bootCtrlActivate (t : Nat) (body : Bytes)
  /-- `BOOT_CTRL_ABORT` (R385). Abandons the boot transfer. -/
  | bootCtrlAbort (t : Nat) (body : Bytes)
  /-- `DEBUG_REQ` (R502). A field debug command runs at the unlocked level. -/
  | debugReq (t : Nat) (body : Bytes) (act : DebugAct)
  /-- `SESSION_NOTE` (R387). Tells the field island a session opened, closed or changed streams. -/
  | sessionNote (t : Nat) (body : Bytes)
  /-- `STREAM_CREDIT` (R386). Updates the free-descriptor credit of a ring on the field side. -/
  | streamCredit (t : Nat) (body : Bytes)
  /-- `CONTROL_FIELD_RESET` (R432). CONTROL opcode 1 asserts a warm ISLAND reset of the field island. -/
  | controlFieldReset (t : Nat) (body : Bytes)
  /-- `CONTROL_POWER_STATE` (R427). CONTROL opcode 2 requests a field power state. -/
  | controlPowerState (t : Nat) (body : Bytes)
  /-- `CONTROL_CLOSE_DEBUG` (R427). CONTROL opcode 3 closes field debug above OBSERVE. -/
  | controlCloseDebug (t : Nat) (body : Bytes)
  /-- `CONTROL_LOSS_TIMEOUT` (R395). CONTROL opcode 4 sets LossTimeout on the field island. -/
  | controlLossTimeout (t : Nat) (body : Bytes)
  /-- `DICT_RESP` (R386). The host island returns a field access result to its session. -/
  | dictResp (t : Nat) (body : Bytes)
  /-- `DEPOSIT_ACK` (R386). The host island maps a deposit status to its STRIP and sends STRIPACK. -/
  | depositAck (t : Nat) (body : Bytes)
  /-- `EVENT` (R345). Field event records are routed to the sessions that receive them. -/
  | event (t : Nat) (body : Bytes)
  /-- `STREAM` (R369). Stream data is routed to an egress ring. -/
  | stream (t : Nat) (body : Bytes)
  /-- `BOOT_REQ` (R385). The host island sends the requested firmware as BOOT_DATA. -/
  | bootReq (t : Nat) (body : Bytes)
  /-- `BOOT_STATUS` (R443). The host island learns the verification result, and field boot proceeds or fails. -/
  | bootStatus (t : Nat) (body : Bytes)
  /-- `DEBUG_RESP` (R385). A field debug result returns to the host. -/
  | debugResp (t : Nat) (body : Bytes)
  /-- `FIELD_STATUS` (R386). The host island updates the field power state, flags and duplex role. -/
  | fieldStatus (t : Nat) (body : Bytes)
  /-- `TIME_ECHO` (R405). The slave stamp of a TIME returns for SlaveError. -/
  | timeEcho (t : Nat) (body : Bytes)
  /-- `CONTROL_RESP` (R385). Reports the result of a CONTROL opcode. -/
  | controlResp (t : Nat) (body : Bytes)
  /-- `LINK_STATE` (R389). The sender learns channel health and stops or resumes using channels. -/
  | linkState (t : Nat) (side : Side) (body : Bytes)
  /-- `LINK_TEST` (R390). A test cell on a failed channel counts toward its return to use. -/
  | linkTest (t : Nat) (side : Side) (body : Bytes) (good : Bool)
  /-- `SPAN_PERIODIC_SEND` (R386). Once per ms, each island sends TIME or FIELD_STATUS and LINK_STATE. -/
  | spanPeriodicSend (t : Nat)
  /-- `SPAN_CHANNEL_LOCK_LOSS` (R389). A receiver losing block lock marks the channel failed. -/
  | spanChannelLockLoss (t : Nat) (chan : Nat)
  /-- `SPAN_CHANNEL_RETEST` (R390). A failed channel sends one LINK_TEST every RetestInterval. -/
  | spanChannelRetest (t : Nat) (chan : Nat)
  /-- `SPAN_LOST_FIELD` (R392). No host message for LossTimeout: pages finish, deposits stop, then HOLD. -/
  | spanLostField (t : Nat)
  /-- `SPAN_LOST_HOST` (R393). No field message for LossTimeout: field accesses are refused and pending STRIPs answered TRUNCATED. -/
  | spanLostHost (t : Nat)
  /-- `INCREMENT_WRITE` (R397). Changes the master increment from the next tick. -/
  | incrementWrite (t : Nat) (a : Caller) (v : Bytes)
  /-- `OFFSET_ADJUST` (R398). Steps the master time base by a signed offset. -/
  | offsetAdjust (t : Nat) (a : Caller) (v : Bytes)
  /-- `TIME_SET` (R398). Loads the master Seconds and Nanoseconds. -/
  | timeSet (t : Nat) (a : Caller) (v : Bytes)
  /-- `TIME_HOLDOVER` (R405). No TIME for 3 ms puts the slave in HOLDOVER. -/
  | timeHoldover (t : Nat)
  /-- `PTP_EVENT_MESSAGE` (R401). An IEEE 1588 event message is stamped on ingress or egress, and the servo runs. -/
  | ptpEventMessage (t : Nat) (port : Nat) (msg : PtpMessage)
  /-- `CAPTURE_EVENT` (R408). A capture unit stamps its selected event into its FIFO. -/
  | captureEvent (t : Nat) (u : Nat) (falling : Bool)
  /-- `CAPTURE_RECORDS_READ` (R408). Returns and removes every held capture record. -/
  | captureRecordsRead (t : Nat) (a : Caller) (u : Nat)
  /-- `PPS_OUT` (R409). PPS_OUT rises at each second. -/
  | ppsOut (t : Nat)
  /-- `EVT_OUT` (R409). An event output rises at its one-shot or periodic target. -/
  | evtOut (t : Nat) (n : Nat)
  /-- `TIME_OUTPUT_END` (R409). A time output falls after its width. -/
  | timeOutputEnd (t : Nat) (n : Nat)
  /-- `XTAL_WINDOW` (R411). A crystal counting window ends and is judged good or not. -/
  | xtalWindow (t : Nat) (isl : Side) (count : Nat)
  /-- `XTAL_FAILED` (R412). No acceptance within 500 ms raises XtalFailed. -/
  | xtalFailed (t : Nat) (isl : Side)
  /-- `XTAL_LOST` (R413). A crystal lost moves domains to the oscillator, stops the others and enters HOLD. -/
  | xtalLost (t : Nat) (isl : Side)
  /-- `DOMAIN_SOURCE_SWITCH` (R415). Switches a clock domain to a ready source. -/
  | domainSourceSwitch (t : Nat) (a : Caller) (d : Nat) (v : Bytes)
  /-- `CLOCK_SWITCH_FORCED` (R416). After 64 target cycles without an edge of the old source, the multiplexer switches anyway. -/
  | clockSwitchForced (t : Nat) (d : Nat)
  /-- `GATE_WRITE` (R417). Opens or closes block clock gates, subject to per-block refusals. -/
  | gateWrite (t : Nat) (a : Caller) (isl : Side) (v : Bytes)
  /-- `GATE_FORCED` (R418). A gate waiting on a busy port for 256 cycles closes and aborts the access. -/
  | gateForced (t : Nat) (isl : Side) (bit : Nat) (sess : Nat)
  /-- `METER_START` (R419). Starts a frequency count. -/
  | meterStart (t : Nat) (a : Caller) (isl : Side) (v : Bytes)
  /-- `METER_DONE` (R419). The count ends and Frequency is computed. -/
  | meterDone (t : Nat) (isl : Side) (count : Nat)
  /-- `OP_TARGET` (R421). A write of OpTarget is checked against the need and starts a DVFS transition. -/
  | opTarget (t : Nat) (a : Caller) (v : Bytes)
  /-- `AVS_STATUS` (R423). The regulator's status answer to a voltage write arrives. -/
  | avsStatus (t : Nat) (good : Bool)
  /-- `AVS_VOLTAGE_POLL` (R423). Every 10 µs the voltage is read until it is within 10 mV of target. -/
  | avsVoltagePoll (t : Nat) (mv : Nat)
  /-- `DVFS_PLL_LOCK` (R423). The idle DVFS PLL locks at the new frequency. -/
  | dvfsPllLock (t : Nat)
  /-- `SETTLE_TIME_END` (R423). After SettleTime with the PLL locked, FCORE switches to the new PLL. -/
  | settleTimeEnd (t : Nat)
  /-- `DVFS_STEP_TIMEOUT` (R424). A DVFS step past its bound restores the voltage and raises DvfsFailed. -/
  | dvfsStepTimeout (t : Nat)
  /-- `POWER_REQUEST_RUN` (R427). PowerRequest RUN is carried to the field island. -/
  | powerRequestRun (t : Nat) (a : Caller) (v : Bytes)
  /-- `POWER_REQUEST_HOLD` (R427). PowerRequest HOLD is carried to the field island. -/
  | powerRequestHold (t : Nat) (a : Caller) (v : Bytes)
  /-- `POWER_REQUEST_STANDBY` (R427). PowerRequest STANDBY is carried to the field island. -/
  | powerRequestStandby (t : Nat) (a : Caller) (v : Bytes)
  /-- `POWER_REQUEST_OFF` (R427). PowerRequest OFF is carried to the field island. -/
  | powerRequestOff (t : Nat) (a : Caller) (v : Bytes)
  /-- `POWER_ON_RESET` (R432). A rail below power-good asserts HPOR or FPOR, a COLD reset. -/
  | powerOnReset (t : Nat) (isl : Side) (on : Bool)
  /-- `RAIL_DIP` (R536). A rail below power-good for more than 2 µs asserts the island's power-on source. -/
  | railDip (t : Nat) (isl : Side) (dur : Nat)
  /-- `RESET_PIN` (R432). HRST_N or FRST_N held low asserts an ISLAND reset. -/
  | resetPin (t : Nat) (isl : Side) (low : Bool)
  /-- `ISLAND_WATCHDOG` (R432). An unserviced island watchdog asserts an ISLAND reset. -/
  | islandWatchdog (t : Nat) (isl : Side)
  /-- `BOOT_WATCHDOG` (R447). Expiry counts a boot attempt and asserts a WARM reset. -/
  | bootWatchdog (t : Nat)
  /-- `THERMAL_TRIP` (R432). A die temperature at 125 °C asserts a WARM reset until below 115 °C. -/
  | thermalTrip (t : Nat) (temp : Int)
  /-- `WARM_RESET` (R432). WarmReset 1 asserts a software WARM reset of both islands. -/
  | warmReset (t : Nat) (a : Caller) (v : Bytes)
  /-- `HOST_ISLAND_RESET` (R432). WarmReset 2 asserts an ISLAND reset of the host island. -/
  | hostIslandReset (t : Nat) (a : Caller) (v : Bytes)
  /-- `FIELD_ISLAND_RESET` (R432). WarmReset 3 asserts an ISLAND reset of the field island. -/
  | fieldIslandReset (t : Nat) (a : Caller) (v : Bytes)
  /-- `RESET_RELEASE` (R434). The last source of an episode releases, and the sequence of its effective reach runs. -/
  | resetRelease (t : Nat) (isl : Side)
  /-- `HOST_BOOT` (R443). After the host crystal is accepted, host firmware boots, loads the image and brings up the ports. -/
  | hostBoot (t : Nat)
  /-- `FIELD_BOOT` (R443). After the field crystal and Span lock, field firmware is requested, verified and run. -/
  | fieldBoot (t : Nat) (margins : List PathMargin)
  /-- `START_COMPLETE` (R446). Start-up reaches step 10 and sets StartComplete, stopping the boot watchdog. -/
  | startComplete (t : Nat)
  /-- `CONFIRM_START` (R446). Host confirmation allows StartComplete in mode 1. -/
  | confirmStart (t : Nat) (a : Caller) (v : Bytes)
  /-- `RECOVERY_EXIT` (R449). Clears the boot-attempt counter and asserts a WARM reset. -/
  | recoveryExit (t : Nat) (a : Caller) (v : Bytes)
  /-- `BLOCK_IDLE_TIMEOUT` (R437). A block not idle within IdleTimeout is reset anyway and counted. -/
  | blockIdleTimeout (t : Nat) (kind : BlockKind) (inst : Nat)
  /-- `CAL_RUN_NOW` (R451). Queues a calibration run of a subject on an instance. -/
  | calRunNow (t : Nat) (a : Caller) (subj : Nat) (v : Bytes)
  /-- `LANE_ADAPTATION` (R454). Within an idle window, a link's HRX lanes are retuned in turn and accepted or restored. -/
  | laneAdaptation (t : Nat) (h : Nat) (widths : List Nat)
  /-- `FLAT_FIELD_TIMEOUT` (R460). Too few good frames within 10 s reject the run. -/
  | flatFieldTimeout (t : Nat) (c : Nat)
  /-- `CALIBRATION_OVERDUE` (R452). A subject without a window for DeferWarn raises CalibrationOverdue. -/
  | calibrationOverdue (t : Nat) (subj : Nat) (inst : Nat)
  /-- `RO_MEASURE` (R461). Ring oscillators are measured once per second. -/
  | roMeasure (t : Nat) (shifts : List Int)
  /-- `REPLAN_NOW` (R462). Runs margin re-planning over the operating points in HOLD. -/
  | replanNow (t : Nat) (a : Caller) (v : Bytes) (margins : List PathMargin)
  /-- `ACTIVATION_ARM` (R466). Stops page starts so that a new field image can be activated. -/
  | activationArm (t : Nat) (a : Caller) (v : Bytes)
  /-- `ACTIVATION_TIMEOUT` (R466). A new image not reporting within 400 ms raises ActivationFailed and resets the field island. -/
  | activationTimeout (t : Nat)
  /-- `MIRROR` (R480). A STANDBY applies a mirror record: position, tail, thermal, journal and health. -/
  | mirror (t : Nat) (rec : Bytes)
  /-- `RELINQUISH` (R489). A Synced STANDBY takes over, claiming with a new epoch. -/
  | relinquish (t : Nat) (body : Bytes)
  /-- `STATUS` (R469). The peer's STATUS drives election, acknowledgements and snapshots. -/
  | status (t : Nat) (body : Bytes)
  /-- `PROBE` (R473). Answers with PROBE_ECHO and its turnaround. -/
  | probe (t : Nat) (body : Bytes)
  /-- `PROBE_ECHO` (R473). Updates StayLatency. -/
  | probeEcho (t : Nat) (body : Bytes)
  /-- `STAY_LANE_LOCK_LOSS` (R471). A Stay lane loses lock. -/
  | stayLaneLockLoss (t : Nat) (l : Nat)
  /-- `DUPLEX_MODE_PAIR` (R470). DuplexMode 1 makes a SOLO part ACTIVE or STANDBY. -/
  | duplexModePair (t : Nat) (a : Caller) (v : Bytes)
  /-- `DUPLEX_MODE_SOLO` (R470). DuplexMode 0 returns an ACTIVE or STANDBY part to SOLO. -/
  | duplexModeSolo (t : Nat) (a : Caller) (v : Bytes)
  /-- `FORCE_ACTIVE` (R469). Makes the part ACTIVE unless the peer is ACTIVE. -/
  | forceActive (t : Nat) (a : Caller) (v : Bytes)
  /-- `SWITCH_OVER` (R492). A planned relinquish with cause 7. -/
  | switchOver (t : Nat) (a : Caller) (v : Bytes)
  /-- `PAIR_TIMEOUT` (R469). With no peer STATUS for PairTimeout and AloneStart, the part becomes ACTIVE. -/
  | pairTimeout (t : Nat)
  /-- `SILENT_TAKEOVER` (R491). 75 µs without mirror or LastLine change makes a Synced STANDBY take over. -/
  | silentTakeover (t : Nat)
  /-- `LOCKSTEP_MISMATCH` (R487). A field core pair mismatch relinquishes an ACTIVE part or fails a STANDBY. -/
  | lockstepMismatch (t : Nat)
  /-- `LIFECYCLE_PROVISIONED` (R495). Advances BLANK to PROVISIONED. -/
  | lifecycleProvisioned (t : Nat) (a : Caller) (v : Bytes)
  /-- `LIFECYCLE_FIELD` (R495). Advances PROVISIONED to FIELD. -/
  | lifecycleField (t : Nat) (a : Caller) (v : Bytes)
  /-- `LIFECYCLE_RETURN` (R495). Advances FIELD to RETURN. -/
  | lifecycleReturn (t : Nat) (a : Caller) (v : Bytes)
  /-- `LIFECYCLE_SCRAPPED` (R495). Advances to SCRAPPED. -/
  | lifecycleScrapped (t : Nat) (a : Caller) (v : Bytes)
  /-- `LIFECYCLE_FUSES_BLOWN` (R495). The new state takes effect: debug to NONE, sessions closed, and holds and erasures as due. -/
  | lifecycleFusesBlown (t : Nat)
  /-- `DEBUG_CHALLENGE` (R503). Returns a new challenge nonce. -/
  | debugChallenge (t : Nat) (a : Caller) (jtag : Bool)
  /-- `DEBUG_RESPONSE` (R503). Checks a signed unlock and grants a debug level. -/
  | debugResponse (t : Nat) (a : Caller) (v : Bytes) (jtag : Bool)
  /-- `DEBUG_LOCK` (R503). Ends the debug grant. -/
  | debugLock (t : Nat) (a : Caller) (v : Bytes)
  /-- `GRANT_EXPIRY` (R503). The grant's Duration ends. -/
  | grantExpiry (t : Nat)
  /-- `ROLLBACK_COMMIT` (R499). Raises an anti-rollback counter to the running image's version. -/
  | rollbackCommit (t : Nat) (a : Caller) (v : Bytes)
  /-- `FIRMWARE_IMAGE_WRITE` (R499). Erases a firmware slot and writes a new image. -/
  | firmwareImageWrite (t : Nat) (a : Caller) (slot : Nat) (v : Bytes)
  /-- `FAULT_LOG_WRITE` (R513). One queued entry is written to the log every 256 ns. -/
  | faultLogWrite (t : Nat) (isl : Side)
  /-- `QUIET_TIME` (R514). QuietTime after the last error ends an instance's handling. -/
  | quietTime (t : Nat) (subsys : Nat) (inst : Nat)
  /-- `HANDLER_OVERRUN` (R518). A fault-machinery failure asserts FAULT_N and enters HOLD. -/
  | handlerOverrun (t : Nat) (isl : Side)
  /-- `FAULT_ACK` (R519). Releases the FAULT_N latch. -/
  | faultAck (t : Nat) (a : Caller) (v : Bytes)
  /-- `POWER_CYCLE_REQUEST` (R520). Logs the request, mirrors the log, enters HOLD and asserts FAULT_N. -/
  | powerCycleRequest (t : Nat) (a : Caller) (v : Bytes)
  /-- `LOG_CLEAR` (R511). Empties a part of the fault log. -/
  | logClear (t : Nat) (a : Caller) (v : Bytes)
  /-- `SPAN_BLOCK_LOCK` (R380). A Span crossing channel gains block lock after 64 consecutive valid sync headers and enters use. -/
  | spanBlockLock (t : Nat) (chan : Nat)
  /-- `STAY_LANE_LOCK` (R473). A Stay link lane gains block lock, and the part sends PROBE at that lock. -/
  | stayLaneLock (t : Nat) (l : Nat)
  /-- `DECK_MEMORY_ECC_ERROR` (R487). An uncorrectable ECC error in deck memory relinquishes an ACTIVE part, or makes a STANDBY FAILED. -/
  | deckMemoryEccError (t : Nat)
  /-- `FUSE_LOAD_END` (R439). A 40 µs fuse load ends, its bank CRCs are judged, and the load is repeated, accepted as the release point, or becomes a fuse fault. -/
  | fuseLoadEnd (t : Nat) (isl : Side) (fails : List Bool) (differ : Bool)
  /-- `ACTIVATION_DONE` (R466). The newly activated field image reports within 400 ms, ActivationState becomes done and pages may start again. -/
  | activationDone (t : Nat)
  deriving DecidableEq, Repr

end Sys2Proof
end

