-- ==== Sys2Proof/Decode.lean ====
section
/-! DEFINITION. The command that a word spells. spec/opcode_table.json gives no row bits, so no word spells a command. -/

namespace Sys2Proof

/-- The command that `nbits` bits `w` spell by the table: none (no row of the table has bits). -/
def decodeTableWord (_nbits _w : Nat) : Option Instr := none

end Sys2Proof
end

