-- ==== Sys2Proof/Machine/Events.lean ====
section
/-! DEFINITION. The events of the AZ9 (R507, R508): each name is its EventCode and its class (0 INFO, 1 WARN, 2 ERROR, 3 FATAL,
R509). -/

namespace Sys2Proof.Machine

/-- spec/02_web_position.md. -/
def Ev.indexSlip : Nat × Nat := (0x3001, 1)
/-- spec/02_web_position.md. -/
def Ev.indexStuck : Nat × Nat := (0x3002, 1)
/-- spec/02_web_position.md. -/
def Ev.spsFailed : Nat × Nat := (0x3003, 1)
/-- spec/02_web_position.md. -/
def Ev.spsRecovered : Nat × Nat := (0x3083, 0)
/-- spec/02_web_position.md. -/
def Ev.encoderDisagree : Nat × Nat := (0x3004, 2)
/-- spec/02_web_position.md. -/
def Ev.positionUncertain : Nat × Nat := (0x3005, 2)
/-- spec/02_web_position.md. -/
def Ev.reversal : Nat × Nat := (0x3006, 0)
/-- spec/02_web_position.md. -/
def Ev.standstill : Nat × Nat := (0x3007, 0)
/-- spec/02_web_position.md. -/
def Ev.webSlow : Nat × Nat := (0x3008, 0)
/-- spec/02_web_position.md. -/
def Ev.linesDropped : Nat × Nat := (0x3009, 1)
/-- spec/02_web_position.md. -/
def Ev.disagreeResolved : Nat × Nat := (0x300A, 1)
/-- spec/02_web_position.md. -/
def Ev.dropRunEnded : Nat × Nat := (0x300B, 0)
/-- spec/03_position_schedule.md. -/
def Ev.scheduleLate : Nat × Nat := (0x3101, 1)
/-- spec/03_position_schedule.md. -/
def Ev.scheduleExecuted : Nat × Nat := (0x3102, 0)
/-- spec/03_position_schedule.md. -/
def Ev.scheduleMarker : Nat × Nat := (0x3103, 0)
/-- spec/03_position_schedule.md. -/
def Ev.closureOverrun : Nat × Nat := (0x3104, 1)
/-- spec/03_position_schedule.md. -/
def Ev.scheduleFailed : Nat × Nat := (0x3105, 2)
/-- spec/05_strips_and_decompression.md. -/
def Ev.stripMismatch : Nat × Nat := (0x5001, 1)
/-- spec/05_strips_and_decompression.md. -/
def Ev.stripFailed : Nat × Nat := (0x5102, 1)
/-- spec/05_strips_and_decompression.md. -/
def Ev.stripFault : Nat × Nat := (0x5003, 2)
/-- spec/05_strips_and_decompression.md. -/
def Ev.pageMissed : Nat × Nat := (0x5004, 2)
/-- spec/05_strips_and_decompression.md. -/
def Ev.pageTruncated : Nat × Nat := (0x5005, 1)
/-- spec/05_strips_and_decompression.md. -/
def Ev.pageAborted : Nat × Nat := (0x5006, 1)
/-- spec/05_strips_and_decompression.md. -/
def Ev.pageDone : Nat × Nat := (0x5007, 0)
/-- spec/05_strips_and_decompression.md. -/
def Ev.planeHeld : Nat × Nat := (0x5008, 2)
/-- spec/05_strips_and_decompression.md. -/
def Ev.storeFull : Nat × Nat := (0x5009, 1)
/-- spec/05_strips_and_decompression.md. -/
def Ev.inflateEngineFault : Nat × Nat := (0x510A, 2)
/-- spec/07_pier_link.md. -/
def Ev.pierLinkLoss : Nat × Nat := (0x4201, 2)
/-- spec/07_pier_link.md. -/
def Ev.pierLinkDown : Nat × Nat := (0x4202, 2)
/-- spec/07_pier_link.md. -/
def Ev.noCarrier : Nat × Nat := (0x4203, 0)
/-- spec/07_pier_link.md. -/
def Ev.pierFallback : Nat × Nat := (0x4204, 1)
/-- spec/07_pier_link.md. -/
def Ev.headMismatch : Nat × Nat := (0x4205, 2)
/-- spec/07_pier_link.md. -/
def Ev.frameRejected : Nat × Nat := (0x4206, 1)
/-- spec/07_pier_link.md. -/
def Ev.epochExhausted : Nat × Nat := (0x4207, 2)
/-- spec/07_pier_link.md. -/
def Ev.controlCheckError : Nat × Nat := (0x4208, 0)
/-- spec/08_firing.md. -/
def Ev.lateFrame : Nat × Nat := (0x4301, 2)
/-- spec/08_firing.md. -/
def Ev.strobeDeferred : Nat × Nat := (0x4302, 1)
/-- spec/08_firing.md. -/
def Ev.strobeWithdrawn : Nat × Nat := (0x4303, 0)
/-- spec/08_firing.md. -/
def Ev.headSoft : Nat × Nat := (0x4304, 1)
/-- spec/08_firing.md. -/
def Ev.headHard : Nat × Nat := (0x4305, 2)
/-- spec/08_firing.md. -/
def Ev.headHardCleared : Nat × Nat := (0x4306, 0)
/-- spec/08_firing.md. -/
def Ev.lineAtRisk : Nat × Nat := (0x4307, 1)
/-- spec/08_firing.md. -/
def Ev.recordOverwrite : Nat × Nat := (0x4308, 1)
/-- spec/08_firing.md. -/
def Ev.lateRunEnded : Nat × Nat := (0x4309, 0)
/-- spec/09_nozzle_health.md. -/
def Ev.defectApplied : Nat × Nat := (0x4401, 0)
/-- spec/09_nozzle_health.md. -/
def Ev.defectProposed : Nat × Nat := (0x4402, 0)
/-- spec/09_nozzle_health.md. -/
def Ev.defectUnhidden : Nat × Nat := (0x4403, 1)
/-- spec/09_nozzle_health.md. -/
def Ev.defectCleared : Nat × Nat := (0x4404, 0)
/-- spec/09_nozzle_health.md. -/
def Ev.defectReapplied : Nat × Nat := (0x4405, 1)
/-- spec/09_nozzle_health.md. -/
def Ev.defectTableFull : Nat × Nat := (0x4406, 1)
/-- spec/09_nozzle_health.md. -/
def Ev.defectLost : Nat × Nat := (0x4407, 2)
/-- spec/10_cameras_and_pipeline.md. -/
def Ev.shortFrame : Nat × Nat := (0x6001, 1)
/-- spec/10_cameras_and_pipeline.md. -/
def Ev.longFrame : Nat × Nat := (0x6002, 1)
/-- spec/10_cameras_and_pipeline.md. -/
def Ev.triggerMissed : Nat × Nat := (0x6003, 1)
/-- spec/10_cameras_and_pipeline.md. -/
def Ev.untriggeredFrame : Nat × Nat := (0x6004, 0)
/-- spec/10_cameras_and_pipeline.md. -/
def Ev.generationFailed : Nat × Nat := (0x6005, 2)
/-- spec/10_cameras_and_pipeline.md. -/
def Ev.ringOverrun : Nat × Nat := (0x6006, 1)
/-- spec/11_inspection_analysis.md. -/
def Ev.renderOverrun : Nat × Nat := (0x6201, 1)
/-- spec/11_inspection_analysis.md. -/
def Ev.renderSpaceLow : Nat × Nat := (0x6202, 1)
/-- spec/11_inspection_analysis.md. -/
def Ev.inspectionImplausible : Nat × Nat := (0x6203, 1)
/-- spec/11_inspection_analysis.md. -/
def Ev.registrationEstimate : Nat × Nat := (0x6204, 0)
/-- spec/11_inspection_analysis.md. -/
def Ev.loopCorrection : Nat × Nat := (0x6205, 0)
/-- spec/11_inspection_analysis.md. -/
def Ev.loopAtBound : Nat × Nat := (0x6206, 1)
/-- spec/12_dram.md. -/
def Ev.dramUncorrectable : Nat × Nat := (0x7001, 2)
/-- spec/12_dram.md. -/
def Ev.dramTrainingLoss : Nat × Nat := (0x7002, 2)
/-- spec/12_dram.md. -/
def Ev.dramTrainingFailed : Nat × Nat := (0x7003, 3)
/-- spec/12_dram.md. -/
def Ev.dramHot : Nat × Nat := (0x7004, 0)
/-- spec/12_dram.md. -/
def Ev.dramCatchUp : Nat × Nat := (0x7005, 0)
/-- spec/13_compression.md. -/
def Ev.compressVerifyFail : Nat × Nat := (0x7101, 2)
/-- spec/13_compression.md. -/
def Ev.archiveCorrupt : Nat × Nat := (0x7102, 2)
/-- spec/13_compression.md. -/
def Ev.compressTimeout : Nat × Nat := (0x7103, 1)
/-- spec/15_host_network.md. -/
def Ev.sessionOpened : Nat × Nat := (0x1301, 0)
/-- spec/15_host_network.md. -/
def Ev.sessionClosed : Nat × Nat := (0x1302, 0)
/-- spec/15_host_network.md. -/
def Ev.sessionTimeout : Nat × Nat := (0x1303, 1)
/-- spec/15_host_network.md. -/
def Ev.noContext : Nat × Nat := (0x1304, 1)
/-- spec/15_host_network.md. -/
def Ev.authFailure : Nat × Nat := (0x1305, 1)
/-- spec/15_host_network.md. -/
def Ev.hostLinkDown : Nat × Nat := (0x1306, 1)
/-- spec/15_host_network.md. -/
def Ev.hostLinkUp : Nat × Nat := (0x1386, 0)
/-- spec/16_span.md. -/
def Ev.spanChannelFail : Nat × Nat := (0x1501, 1)
/-- spec/16_span.md. -/
def Ev.spanChannelRestored : Nat × Nat := (0x1502, 0)
/-- spec/16_span.md. -/
def Ev.spanFirewallDrop : Nat × Nat := (0x1503, 1)
/-- spec/16_span.md. -/
def Ev.spanLost : Nat × Nat := (0x1504, 2)
/-- spec/16_span.md. -/
def Ev.spanRestored : Nat × Nat := (0x1505, 0)
/-- spec/18_clocks_and_power.md. -/
def Ev.xtalAccepted : Nat × Nat := (0x2001, 0)
/-- spec/18_clocks_and_power.md. -/
def Ev.xtalFailed : Nat × Nat := (0x2002, 3)
/-- spec/18_clocks_and_power.md. -/
def Ev.xtalLost : Nat × Nat := (0x2003, 3)
/-- spec/18_clocks_and_power.md. -/
def Ev.clockSwitchForced : Nat × Nat := (0x2004, 1)
/-- spec/18_clocks_and_power.md. -/
def Ev.gateForced : Nat × Nat := (0x2005, 1)
/-- spec/18_clocks_and_power.md. -/
def Ev.opRaised : Nat × Nat := (0x2106, 0)
/-- spec/18_clocks_and_power.md. -/
def Ev.dvfsFailed : Nat × Nat := (0x2107, 2)
/-- spec/18_clocks_and_power.md. -/
def Ev.pendingEnableFailed : Nat × Nat := (0x2108, 2)
/-- spec/18_clocks_and_power.md. -/
def Ev.powerStateChanged : Nat × Nat := (0x2109, 0)
/-- spec/19_reset_and_startup.md. -/
def Ev.blockIdleTimeout : Nat × Nat := (0x2201, 1)
/-- spec/19_reset_and_startup.md. -/
def Ev.fuseFault : Nat × Nat := (0x2202, 3)
/-- spec/19_reset_and_startup.md. -/
def Ev.startComplete : Nat × Nat := (0x2203, 0)
/-- spec/19_reset_and_startup.md. -/
def Ev.startFailed : Nat × Nat := (0x2204, 2)
/-- spec/19_reset_and_startup.md. -/
def Ev.recoveryEntered : Nat × Nat := (0x2205, 3)
/-- spec/20_calibration_and_ageing.md. -/
def Ev.calibrationRejected : Nat × Nat := (0x2301, 1)
/-- spec/20_calibration_and_ageing.md. -/
def Ev.calibrationOverdue : Nat × Nat := (0x2302, 1)
/-- spec/20_calibration_and_ageing.md. -/
def Ev.heaterDriftTrend : Nat × Nat := (0x2303, 1)
/-- spec/20_calibration_and_ageing.md. -/
def Ev.marginExhausted : Nat × Nat := (0x2304, 2)
/-- spec/20_calibration_and_ageing.md. -/
def Ev.activationFailed : Nat × Nat := (0x2305, 2)
/-- spec/21_duplex.md. -/
def Ev.pairFormed : Nat × Nat := (0x8001, 0)
/-- spec/21_duplex.md. -/
def Ev.syncLost : Nat × Nat := (0x8002, 1)
/-- spec/21_duplex.md. -/
def Ev.relinquished : Nat × Nat := (0x8003, 2)
/-- spec/21_duplex.md. -/
def Ev.tookOver : Nat × Nat := (0x8004, 1)
/-- spec/21_duplex.md. -/
def Ev.silentTakeover : Nat × Nat := (0x8005, 2)
/-- spec/21_duplex.md. -/
def Ev.stayLost : Nat × Nat := (0x8006, 2)
/-- spec/21_duplex.md. -/
def Ev.pairLost : Nat × Nat := (0x8007, 2)
/-- spec/21_duplex.md. -/
def Ev.pairConflict : Nat × Nat := (0x8008, 2)
/-- spec/21_duplex.md. -/
def Ev.pairCountShift : Nat × Nat := (0x8009, 1)
/-- spec/21_duplex.md. -/
def Ev.pierFaultsNoStandby : Nat × Nat := (0x800A, 1)
/-- spec/21_duplex.md. -/
def Ev.stayLaneFail : Nat × Nat := (0x800B, 1)
/-- spec/23_faults.md. -/
def Ev.commitFailed : Nat × Nat := (0x1101, 2)
/-- spec/23_faults.md. -/
def Ev.imageSaved : Nat × Nat := (0x1102, 0)
/-- spec/23_faults.md. -/
def Ev.imageSaveFailed : Nat × Nat := (0x1103, 2)
/-- spec/23_faults.md. -/
def Ev.imageNone : Nat × Nat := (0x1104, 1)
/-- spec/23_faults.md. -/
def Ev.imageValueRefused : Nat × Nat := (0x1105, 1)
/-- spec/23_faults.md. -/
def Ev.imageAbsentSkipped : Nat × Nat := (0x1106, 0)
/-- spec/23_faults.md. -/
def Ev.timeStepped : Nat × Nat := (0x1601, 0)
/-- spec/23_faults.md. -/
def Ev.timeLocked : Nat × Nat := (0x1602, 0)
/-- spec/23_faults.md. -/
def Ev.timeHoldover : Nat × Nat := (0x1603, 1)
/-- spec/23_faults.md. -/
def Ev.handlerOverrun : Nat × Nat := (0xA001, 3)
/-- spec/23_faults.md. -/
def Ev.escalationHeld : Nat × Nat := (0xA002, 2)
/-- spec/23_faults.md. -/
def Ev.powerCycleRequested : Nat × Nat := (0xA003, 3)
/-- spec/23_faults.md. -/
def Ev.faultAcknowledged : Nat × Nat := (0xA004, 0)

end Sys2Proof.Machine
end

