-- ==== Sys2Proof/Config.lean ====
section
/-! DEFINITION. What an implementation fixes and the spec leaves open: the free values (opaque constants with no body) and
the cryptographic functions that the spec takes from other standards. Log entries 6 and 8. -/

namespace Sys2Proof

/-- Free numbers: a value that the spec does not state, named by the state's counter (log entry 6). -/
opaque Config.freeNat : Nat → Nat

/-- Whether a quotient that the spec does not say how to round is rounded up (log entry 6). -/
opaque Config.roundUp : Int → Int → Bool

/-- SHA-384 (FIPS 180-4) of a byte string (log entry 8). -/
opaque Config.sha384 : Bytes → Bytes

/-- Whether an ECDSA P-384 signature (third argument) over a digest (second) verifies under a public key (first, R346). -/
opaque Config.ecdsaVerify : Bytes → Bytes → Bytes → Bool

/-- The ECDSA P-384 signature of a digest under the part's private key `key` (R346, R496). -/
opaque Config.ecdsaSign : Nat → Bytes → Bytes

/-- Whether the AES-256-GCM tag of a datagram verifies: key, nonce, associated data, ciphertext and tag (R363). -/
opaque Config.gcmOk : Bytes → Bytes → Bytes → Bytes → Bool

/-- The AES-256-GCM plaintext of a ciphertext: key, nonce, ciphertext (R363). -/
opaque Config.gcmOpen : Bytes → Bytes → Bytes → Bytes

/-- Byte `i` of what AES-256-GCM makes of a key, a nonce, additional data and a text: the cipher text, then the 16-byte tag (R358, R359;
log entry 8). -/
opaque Config.gcmSeal : Bytes → Bytes → Bytes → Bytes → Nat → Byte

/-- The traffic key that a handshake derives from the shared secret and the transcript hash (R361, R363). -/
opaque Config.sessionKey : Bytes → Bytes → Bytes

/-- The bits after the header of the DEFLATE block that a channel of a kind (false C0-C5, true deep) makes of an input block, given the block
type (1 fixed, 2 dynamic Huffman), the Level, the 32 KiB of input before it, and whether it is the last (R314 leaves the encoder's choices
open). -/
opaque Config.deflateBody : Bool → Nat → Nat → Bytes → Bytes → Bool → List Bool

/-- An open value of a pure computation, named by a tag and by its operands (log entry 6): 1 the mean over an area of no extent (R273), 2 a
colour with no valid line of its parity (R257), 3 which of two lines equally near (R257), 4 the mean of no pixel (R264), 5 the
bytes of a mirror entry that reads as invalid (R291), 6 which of two blocks equally long (R311). -/
opaque Config.openVal : Nat → List Int → Nat

/-- A number that the part's fuses or firmware hold, by the key of the object whose default the spec gives only as "from fuses", "from
firmware" or "from `UniqueId`", with the `UniqueId` (log entry 6). -/
opaque Config.partNum : Nat → Nat → Nat

/-- The same for a byte string. -/
opaque Config.partBytes : Nat → Bytes

end Sys2Proof
end

