-- ==== Sys2Proof/Machine/Objects.lean ====
section
/-! DEFINITION. The object dictionary's catalogue (R326-R330, R343): for every object of the spec's tables its type, access
mode, writing roles, default and range, and a name for its key (index × 256 + subindex). Log entry 4. -/

namespace Sys2Proof.Machine

/-- The types of R327. -/
inductive Ty where
  | bool | u8 | u16 | u32 | u64 | i16 | i32 | i64 | u14 | s14 | q2 | q16 | q48 | stamp | time | str | dom
  deriving DecidableEq, Repr

/-- The access modes of R328. -/
inductive Acc where
  | ro | rw | wo | rws | rwl
  deriving DecidableEq, Repr

/-- An object's value: every fixed-width type as an integer (a Qm.n value as its container's integer, R23; a TIME80 as its
nanoseconds since the epoch), a STRING or DOMAIN as its bytes. -/
inductive Val where
  | num (n : Int)
  | bytes (b : Bytes)
  deriving DecidableEq, Repr

/-- One row of an object table: `subs` consecutive subindexes from `sub` on. `roles` is the Roles column as a mask (bit 0
X, 1 O, 2 S, 3 V); `dflt i j` the default of instance `i`, subindex `sub + j`; `rng` the Range column. -/
structure Desc where
  sub : Nat
  subs : Nat
  ty : Ty
  acc : Acc
  roles : Nat
  dflt : Nat → Nat → Val
  rng : Val → Bool

/-- A record of the dictionary: `count` consecutive indexes from `base` on, one per instance (R326). -/
structure Rec where
  base : Nat
  count : Nat
  objs : List Desc

/-- One row of a table. -/
def ob (sub subs : Nat) (ty : Ty) (acc : Acc) (roles : Nat) (dflt : Nat → Nat → Val) (rng : Val → Bool) : Desc :=
  ⟨sub, subs, ty, acc, roles, dflt, rng⟩

/-- A default that is one number for every instance. -/
def nv (n : Int) : Nat → Nat → Val := fun _ _ => .num n
/-- A default that is one byte string for every instance. -/
def bv (b : Bytes) : Nat → Nat → Val := fun _ _ => .bytes b

/-- No range beyond the type's own. -/
def anyv : Val → Bool := fun _ => true
/-- A number from `lo` to `hi`. -/
def bt (lo hi : Int) : Val → Bool
  | .num n => decide (lo ≤ n ∧ n ≤ hi)
  | .bytes _ => false
/-- One of the listed numbers. -/
def el (l : List Int) : Val → Bool
  | .num n => l.contains n
  | .bytes _ => false
/-- A multiple of `m` from `lo` to `hi`. -/
def mlt (lo hi m : Int) : Val → Bool
  | .num n => decide (lo ≤ n ∧ n ≤ hi ∧ n % m = 0)
  | .bytes _ => false
/-- 0, or a multiple of `m` from `lo` to `hi`. -/
def zm (lo hi m : Int) : Val → Bool
  | .num n => decide (n = 0 ∨ (lo ≤ n ∧ n ≤ hi ∧ n % m = 0))
  | .bytes _ => false
/-- A number from 0 to `hi`, or 0xFF. -/
def ff (hi : Int) : Val → Bool
  | .num n => decide ((0 ≤ n ∧ n ≤ hi) ∨ n = 0xFF)
  | .bytes _ => false
/-- No bit outside the mask `m`. -/
def maskv (m : Nat) : Val → Bool
  | .num n => decide (n.toNat ||| m = m)
  | .bytes _ => false
/-- A byte string of `lo` to `hi` bytes, a multiple of `m`. -/
def len (lo hi m : Nat) : Val → Bool
  | .num _ => false
  | .bytes b => decide (lo ≤ b.length ∧ b.length ≤ hi ∧ b.length % m = 0)
/-- A byte string of one of the listed lengths. -/
def lens (l : List Nat) : Val → Bool
  | .num _ => false
  | .bytes b => l.contains b.length
/-- The little-endian 16-bit words of a byte string (R21). -/
def words16 : Bytes → List Nat
  | a :: b :: r => (a.toNat + 256 * b.toNat) :: words16 r
  | _ => []
/-- A table of `n` 16-bit words, none above `hi`, and the first 0 when `z` holds (R107, R152, R258, R272). -/
def tab16 (n hi : Nat) (z : Bool) : Val → Bool
  | .num _ => false
  | .bytes b => decide (b.length = 2 * n) && (words16 b).all (fun w => decide (w ≤ hi))
      && (!z || decide ((words16 b).headD 0 = 0))
/-- A threshold matrix: 128 × 128 or 256 × 256 U14 words (R160). -/
def matrixTab : Val → Bool
  | .num _ => false
  | .bytes b => (decide (b.length = 32768) || decide (b.length = 131072))
      && (words16 b).all (fun w => decide (w ≤ 0x3FFF))
/-- Four nibbles, each 0 to 4 (R228). -/
def nibbles4 : Val → Bool
  | .num n => let w := n.toNat
      decide (w % 16 ≤ 4 ∧ w / 16 % 16 ≤ 4 ∧ w / 256 % 16 ≤ 4 ∧ w / 4096 % 16 ≤ 4)
  | .bytes _ => false
/-- `RedistWeights`: 2 (r1 + r2) at most 512 (R157, R169). -/
def redist : Val → Bool
  | .num n => decide (2 * (n.toNat % 256 + n.toNat / 256) ≤ 512)
  | .bytes _ => false
/-- `LedWeights`: four bytes of at most 64 that sum to 64 (R162). -/
def ledw : Val → Bool
  | .num n => let w := n.toNat
      let a := w % 256; let b := w / 256 % 256; let c := w / 65536 % 256; let d := w / 16777216
      decide (a ≤ 64 ∧ b ≤ 64 ∧ c ≤ 64 ∧ d ≤ 64 ∧ a + b + c + d = 64)
  | .bytes _ => false
/-- `Increment`: 3.996 to 4.004 ns in Q8.32 (R397). -/
def incr : Val → Bool
  | .num n => decide (3996 * 2 ^ 32 ≤ 1000 * n ∧ 1000 * n ≤ 4004 * 2 ^ 32)
  | .bytes _ => false

/-- `0x1000:00 HighestSub` (spec/00_scope.md). -/
def Obj.Identity.highestSub : Nat := 0x100000
/-- `0x1000:01 PartNumber` (spec/00_scope.md). -/
def Obj.Identity.partNumber : Nat := 0x100000 + 1
/-- `0x1000:02 VariantCode` (spec/00_scope.md). -/
def Obj.Identity.variantCode : Nat := 0x100000 + 2
/-- `0x1000:03 HeadPorts` (spec/00_scope.md). -/
def Obj.Identity.headPorts : Nat := 0x100000 + 3
/-- `0x1000:04 CameraPorts` (spec/00_scope.md). -/
def Obj.Identity.cameraPorts : Nat := 0x100000 + 4
/-- `0x1000:05 DramChannels` (spec/00_scope.md). -/
def Obj.Identity.dramChannels : Nat := 0x100000 + 5
/-- `0x1000:06 NozzleChannels` (spec/00_scope.md). -/
def Obj.Identity.nozzleChannels : Nat := 0x100000 + 6
/-- `0x1000:07 Stepping` (spec/00_scope.md). -/
def Obj.Identity.stepping : Nat := 0x100000 + 7
/-- `0x1000:08 UniqueId` (spec/00_scope.md). -/
def Obj.Identity.uniqueId : Nat := 0x100000 + 8
/-- `0x1000:09 VariantStatus` (spec/00_scope.md). -/
def Obj.Identity.variantStatus : Nat := 0x100000 + 9
/-- `0x1001 + i:01 BankState` (spec/19_reset_and_startup.md). -/
def Obj.FuseStatus.bankState (i : Nat) : Nat := 0x100100 + 256 * i + 1
/-- `0x1001 + i:02 LoadAttempts` (spec/19_reset_and_startup.md). -/
def Obj.FuseStatus.loadAttempts (i : Nat) : Nat := 0x100100 + 256 * i + 2
/-- `0x1001 + i:03 FuseRestarts` (spec/19_reset_and_startup.md). -/
def Obj.FuseStatus.fuseRestarts (i : Nat) : Nat := 0x100100 + 256 * i + 3
/-- `0x1001 + i:04 CopiesDiffer` (spec/19_reset_and_startup.md). -/
def Obj.FuseStatus.copiesDiffer (i : Nat) : Nat := 0x100100 + 256 * i + 4
/-- `0x1100:01 DictionaryVersion` (spec/14_object_dictionary.md). -/
def Obj.DictionaryInfo.dictionaryVersion : Nat := 0x110000 + 1
/-- `0x1100:02 ObjectCount` (spec/14_object_dictionary.md). -/
def Obj.DictionaryInfo.objectCount : Nat := 0x110000 + 2
/-- `0x1110:01 ImageSave` (spec/14_object_dictionary.md). -/
def Obj.ImageControl.imageSave : Nat := 0x111000 + 1
/-- `0x1110:02 ImageInvalidate` (spec/14_object_dictionary.md). -/
def Obj.ImageControl.imageInvalidate : Nat := 0x111000 + 2
/-- `0x1110:03 SaveState` (spec/14_object_dictionary.md). -/
def Obj.ImageControl.saveState : Nat := 0x111000 + 3
/-- `0x1111:01 LoadedCopy` (spec/14_object_dictionary.md). -/
def Obj.ImageStatus.loadedCopy : Nat := 0x111100 + 1
/-- `0x1111:02 LoadedSequence` (spec/14_object_dictionary.md). -/
def Obj.ImageStatus.loadedSequence : Nat := 0x111100 + 2
/-- `0x1111:03 EntriesApplied` (spec/14_object_dictionary.md). -/
def Obj.ImageStatus.entriesApplied : Nat := 0x111100 + 3
/-- `0x1111:04 SkippedAbsent` (spec/14_object_dictionary.md). -/
def Obj.ImageStatus.skippedAbsent : Nat := 0x111100 + 4
/-- `0x1111:05 RefusedValues` (spec/14_object_dictionary.md). -/
def Obj.ImageStatus.refusedValues : Nat := 0x111100 + 5
/-- `0x1111:06 CopyAValid` (spec/14_object_dictionary.md). -/
def Obj.ImageStatus.copyAValid : Nat := 0x111100 + 6
/-- `0x1111:07 CopyBValid` (spec/14_object_dictionary.md). -/
def Obj.ImageStatus.copyBValid : Nat := 0x111100 + 7
/-- `0x1111:08 CopyASequence` (spec/14_object_dictionary.md). -/
def Obj.ImageStatus.copyASequence : Nat := 0x111100 + 8
/-- `0x1111:09 CopyBSequence` (spec/14_object_dictionary.md). -/
def Obj.ImageStatus.copyBSequence : Nat := 0x111100 + 9
/-- `0x1111:0A Foreign` (spec/14_object_dictionary.md). -/
def Obj.ImageStatus.foreign : Nat := 0x111100 + 10
/-- `0x1111:0B ImageBytes` (spec/14_object_dictionary.md). -/
def Obj.ImageStatus.imageBytes : Nat := 0x111100 + 11
/-- `0x1180:01 SessionRole` (spec/14_object_dictionary.md). -/
def Obj.SessionContext.sessionRole : Nat := 0x118000 + 1
/-- `0x1180:02 StagingGroup` (spec/14_object_dictionary.md). -/
def Obj.SessionContext.stagingGroup : Nat := 0x118000 + 2
/-- `0x1180:03 Streams` (spec/14_object_dictionary.md). -/
def Obj.SessionContext.streams : Nat := 0x118000 + 3
/-- `0x1180:04 EventClassMin` (spec/14_object_dictionary.md). -/
def Obj.SessionContext.eventClassMin : Nat := 0x118000 + 4
/-- `0x1180:05 EventsLost` (spec/14_object_dictionary.md). -/
def Obj.SessionContext.eventsLost : Nat := 0x118000 + 5
/-- `0x1180:06 OpenTransfers` (spec/14_object_dictionary.md). -/
def Obj.SessionContext.openTransfers : Nat := 0x118000 + 6
/-- `0x1200 + i:01 Binding` (spec/14_object_dictionary.md). -/
def Obj.CommitGroup.binding (i : Nat) : Nat := 0x120000 + 256 * i + 1
/-- `0x1200 + i:02 Commit` (spec/14_object_dictionary.md). -/
def Obj.CommitGroup.commit (i : Nat) : Nat := 0x120000 + 256 * i + 2
/-- `0x1200 + i:03 Discard` (spec/14_object_dictionary.md). -/
def Obj.CommitGroup.discard (i : Nat) : Nat := 0x120000 + 256 * i + 3
/-- `0x1200 + i:04 StagedCount` (spec/14_object_dictionary.md). -/
def Obj.CommitGroup.stagedCount (i : Nat) : Nat := 0x120000 + 256 * i + 4
/-- `0x1200 + i:05 Contents` (spec/14_object_dictionary.md). -/
def Obj.CommitGroup.contents (i : Nat) : Nat := 0x120000 + 256 * i + 5
/-- `0x1200 + i:06 CommitCount` (spec/14_object_dictionary.md). -/
def Obj.CommitGroup.commitCount (i : Nat) : Nat := 0x120000 + 256 * i + 6
/-- `0x1200 + i:07 LastCommitLine` (spec/14_object_dictionary.md). -/
def Obj.CommitGroup.lastCommitLine (i : Nat) : Nat := 0x120000 + 256 * i + 7
/-- `0x1200 + i:08 LastOutcome` (spec/14_object_dictionary.md). -/
def Obj.CommitGroup.lastOutcome (i : Nat) : Nat := 0x120000 + 256 * i + 8
/-- `0x1200 + i:09 LastAbort` (spec/14_object_dictionary.md). -/
def Obj.CommitGroup.lastAbort (i : Nat) : Nat := 0x120000 + 256 * i + 9
/-- `0x1300 + i:01 Enable` (spec/15_host_network.md). -/
def Obj.HostPort.enable (i : Nat) : Nat := 0x130000 + 256 * i + 1
/-- `0x1300 + i:02 Medium` (spec/15_host_network.md). -/
def Obj.HostPort.medium (i : Nat) : Nat := 0x130000 + 256 * i + 2
/-- `0x1300 + i:03 Fec` (spec/15_host_network.md). -/
def Obj.HostPort.fec (i : Nat) : Nat := 0x130000 + 256 * i + 3
/-- `0x1300 + i:04 MacAddress` (spec/15_host_network.md). -/
def Obj.HostPort.macAddress (i : Nat) : Nat := 0x130000 + 256 * i + 4
/-- `0x1300 + i:05 Mtu` (spec/15_host_network.md). -/
def Obj.HostPort.mtu (i : Nat) : Nat := 0x130000 + 256 * i + 5
/-- `0x1300 + i:06 VlanId` (spec/15_host_network.md). -/
def Obj.HostPort.vlanId (i : Nat) : Nat := 0x130000 + 256 * i + 6
/-- `0x1300 + i:07 Ipv4Address` (spec/15_host_network.md). -/
def Obj.HostPort.ipv4Address (i : Nat) : Nat := 0x130000 + 256 * i + 7
/-- `0x1300 + i:08 Ipv4PrefixLength` (spec/15_host_network.md). -/
def Obj.HostPort.ipv4PrefixLength (i : Nat) : Nat := 0x130000 + 256 * i + 8
/-- `0x1300 + i:09 Ipv4Gateway` (spec/15_host_network.md). -/
def Obj.HostPort.ipv4Gateway (i : Nat) : Nat := 0x130000 + 256 * i + 9
/-- `0x1300 + i:0A Ipv6Address` (spec/15_host_network.md). -/
def Obj.HostPort.ipv6Address (i : Nat) : Nat := 0x130000 + 256 * i + 10
/-- `0x1300 + i:0B Ipv6PrefixLength` (spec/15_host_network.md). -/
def Obj.HostPort.ipv6PrefixLength (i : Nat) : Nat := 0x130000 + 256 * i + 11
/-- `0x1300 + i:0C Ipv6Gateway` (spec/15_host_network.md). -/
def Obj.HostPort.ipv6Gateway (i : Nat) : Nat := 0x130000 + 256 * i + 12
/-- `0x1300 + i:0D LinkState` (spec/15_host_network.md). -/
def Obj.HostPort.linkState (i : Nat) : Nat := 0x130000 + 256 * i + 13
/-- `0x1300 + i:0E LinkSpeed` (spec/15_host_network.md). -/
def Obj.HostPort.linkSpeed (i : Nat) : Nat := 0x130000 + 256 * i + 14
/-- `0x1300 + i:0F FecInUse` (spec/15_host_network.md). -/
def Obj.HostPort.fecInUse (i : Nat) : Nat := 0x130000 + 256 * i + 15
/-- `0x1300 + i:10 RxFrames` (spec/15_host_network.md). -/
def Obj.HostPort.rxFrames (i : Nat) : Nat := 0x130000 + 256 * i + 16
/-- `0x1300 + i:11 TxFrames` (spec/15_host_network.md). -/
def Obj.HostPort.txFrames (i : Nat) : Nat := 0x130000 + 256 * i + 17
/-- `0x1300 + i:12 RxDropped` (spec/15_host_network.md). -/
def Obj.HostPort.rxDropped (i : Nat) : Nat := 0x130000 + 256 * i + 18
/-- `0x1300 + i:13 LinkDrops` (spec/15_host_network.md). -/
def Obj.HostPort.linkDrops (i : Nat) : Nat := 0x130000 + 256 * i + 19
/-- `0x1300 + i:14 RgmiiRxDelay` (spec/15_host_network.md). -/
def Obj.HostPort.rgmiiRxDelay (i : Nat) : Nat := 0x130000 + 256 * i + 20
/-- `0x1340:01 UdpPort` (spec/15_host_network.md). -/
def Obj.Ngalis.udpPort : Nat := 0x134000 + 1
/-- `0x1340:02 HeartbeatPeriod` (spec/15_host_network.md). -/
def Obj.Ngalis.heartbeatPeriod : Nat := 0x134000 + 2
/-- `0x1340:03 SessionTimeout` (spec/15_host_network.md). -/
def Obj.Ngalis.sessionTimeout : Nat := 0x134000 + 3
/-- `0x1340:04 HandshakeTimeout` (spec/15_host_network.md). -/
def Obj.Ngalis.handshakeTimeout : Nat := 0x134000 + 4
/-- `0x1340:05 ReorderHold` (spec/15_host_network.md). -/
def Obj.Ngalis.reorderHold : Nat := 0x134000 + 5
/-- `0x1340:06 OpenSessions` (spec/15_host_network.md). -/
def Obj.Ngalis.openSessions : Nat := 0x134000 + 6
/-- `0x1340:07 Handshaking` (spec/15_host_network.md). -/
def Obj.Ngalis.handshaking : Nat := 0x134000 + 7
/-- `0x1340:08 NoContextRefusals` (spec/15_host_network.md). -/
def Obj.Ngalis.noContextRefusals : Nat := 0x134000 + 8
/-- `0x1340:09 DescriptorsFree` (spec/15_host_network.md). -/
def Obj.Ngalis.descriptorsFree : Nat := 0x134000 + 9
/-- `0x1340:0A Incomplete` (spec/15_host_network.md). -/
def Obj.Ngalis.incomplete : Nat := 0x134000 + 10
/-- `0x1380 + i:01 Session` (spec/15_host_network.md). -/
def Obj.Ring.session (i : Nat) : Nat := 0x138000 + 256 * i + 1
/-- `0x1380 + i:02 Direction` (spec/15_host_network.md). -/
def Obj.Ring.direction (i : Nat) : Nat := 0x138000 + 256 * i + 2
/-- `0x1380 + i:03 Depth` (spec/15_host_network.md). -/
def Obj.Ring.depth (i : Nat) : Nat := 0x138000 + 256 * i + 3
/-- `0x1380 + i:04 StreamMask` (spec/15_host_network.md). -/
def Obj.Ring.streamMask (i : Nat) : Nat := 0x138000 + 256 * i + 4
/-- `0x1380 + i:05 LaunchMode` (spec/15_host_network.md). -/
def Obj.Ring.launchMode (i : Nat) : Nat := 0x138000 + 256 * i + 5
/-- `0x1380 + i:06 LaunchDelay` (spec/15_host_network.md). -/
def Obj.Ring.launchDelay (i : Nat) : Nat := 0x138000 + 256 * i + 6
/-- `0x1380 + i:07 LaunchPhase` (spec/15_host_network.md). -/
def Obj.Ring.launchPhase (i : Nat) : Nat := 0x138000 + 256 * i + 7
/-- `0x1380 + i:08 Occupancy` (spec/15_host_network.md). -/
def Obj.Ring.occupancy (i : Nat) : Nat := 0x138000 + 256 * i + 8
/-- `0x1380 + i:09 Drops` (spec/15_host_network.md). -/
def Obj.Ring.drops (i : Nat) : Nat := 0x138000 + 256 * i + 9
/-- `0x1380 + i:0A LateLaunches` (spec/15_host_network.md). -/
def Obj.Ring.lateLaunches (i : Nat) : Nat := 0x138000 + 256 * i + 10
/-- `0x1380 + i:0C Reset` (spec/15_host_network.md). -/
def Obj.Ring.reset (i : Nat) : Nat := 0x138000 + 256 * i + 12
/-- `0x1400 + i:01 State` (spec/15_host_network.md). -/
def Obj.Session.state (i : Nat) : Nat := 0x140000 + 256 * i + 1
/-- `0x1400 + i:02 Role` (spec/15_host_network.md). -/
def Obj.Session.role (i : Nat) : Nat := 0x140000 + 256 * i + 2
/-- `0x1400 + i:03 Port` (spec/15_host_network.md). -/
def Obj.Session.port (i : Nat) : Nat := 0x140000 + 256 * i + 3
/-- `0x1400 + i:04 Peer` (spec/15_host_network.md). -/
def Obj.Session.peer (i : Nat) : Nat := 0x140000 + 256 * i + 4
/-- `0x1400 + i:05 OpenTime` (spec/15_host_network.md). -/
def Obj.Session.openTime (i : Nat) : Nat := 0x140000 + 256 * i + 5
/-- `0x1400 + i:06 RxMessages` (spec/15_host_network.md). -/
def Obj.Session.rxMessages (i : Nat) : Nat := 0x140000 + 256 * i + 6
/-- `0x1400 + i:07 TxMessages` (spec/15_host_network.md). -/
def Obj.Session.txMessages (i : Nat) : Nat := 0x140000 + 256 * i + 7
/-- `0x1400 + i:08 Duplicates` (spec/15_host_network.md). -/
def Obj.Session.duplicates (i : Nat) : Nat := 0x140000 + 256 * i + 8
/-- `0x1400 + i:09 ReplayDrops` (spec/15_host_network.md). -/
def Obj.Session.replayDrops (i : Nat) : Nat := 0x140000 + 256 * i + 9
/-- `0x1400 + i:0A AuthFailures` (spec/15_host_network.md). -/
def Obj.Session.authFailures (i : Nat) : Nat := 0x140000 + 256 * i + 10
/-- `0x1400 + i:0B PassedRefused` (spec/15_host_network.md). -/
def Obj.Session.passedRefused (i : Nat) : Nat := 0x140000 + 256 * i + 11
/-- `0x1400 + i:0C Migrations` (spec/15_host_network.md). -/
def Obj.Session.migrations (i : Nat) : Nat := 0x140000 + 256 * i + 12
/-- `0x1400 + i:0D Rings` (spec/15_host_network.md). -/
def Obj.Session.rings (i : Nat) : Nat := 0x140000 + 256 * i + 13
/-- `0x1400 + i:0E Close` (spec/15_host_network.md). -/
def Obj.Session.close (i : Nat) : Nat := 0x140000 + 256 * i + 14
/-- `0x1500:01 LossTimeout` (spec/16_span.md). -/
def Obj.SpanControl.lossTimeout : Nat := 0x150000 + 1
/-- `0x1500:02 ErrorLimit` (spec/16_span.md). -/
def Obj.SpanControl.errorLimit : Nat := 0x150000 + 2
/-- `0x1500:03 RetestInterval` (spec/16_span.md). -/
def Obj.SpanControl.retestInterval : Nat := 0x150000 + 3
/-- `0x1500:04 State` (spec/16_span.md). -/
def Obj.SpanControl.state : Nat := 0x150000 + 4
/-- `0x1500:05 CapacityH2F` (spec/16_span.md). -/
def Obj.SpanControl.capacityH2F : Nat := 0x150000 + 5
/-- `0x1500:06 CapacityF2H` (spec/16_span.md). -/
def Obj.SpanControl.capacityF2H : Nat := 0x150000 + 6
/-- `0x1500:07 ChannelsInUse` (spec/16_span.md). -/
def Obj.SpanControl.channelsInUse : Nat := 0x150000 + 7
/-- `0x1500:08 Losses` (spec/16_span.md). -/
def Obj.SpanControl.losses : Nat := 0x150000 + 8
/-- `0x1508 + i:01 State` (spec/16_span.md). -/
def Obj.SpanChannel.state (i : Nat) : Nat := 0x150800 + 256 * i + 1
/-- `0x1508 + i:02 CellsCarried` (spec/16_span.md). -/
def Obj.SpanChannel.cellsCarried (i : Nat) : Nat := 0x150800 + 256 * i + 2
/-- `0x1508 + i:03 CellErrors` (spec/16_span.md). -/
def Obj.SpanChannel.cellErrors (i : Nat) : Nat := 0x150800 + 256 * i + 3
/-- `0x1508 + i:04 LockLosses` (spec/16_span.md). -/
def Obj.SpanChannel.lockLosses (i : Nat) : Nat := 0x150800 + 256 * i + 4
/-- `0x1508 + i:05 IdleInserted` (spec/16_span.md). -/
def Obj.SpanChannel.idleInserted (i : Nat) : Nat := 0x150800 + 256 * i + 5
/-- `0x1508 + i:06 IdleDeleted` (spec/16_span.md). -/
def Obj.SpanChannel.idleDeleted (i : Nat) : Nat := 0x150800 + 256 * i + 6
/-- `0x1508 + i:07 Failures` (spec/16_span.md). -/
def Obj.SpanChannel.failures (i : Nat) : Nat := 0x150800 + 256 * i + 7
/-- `0x1520:01–07 Discards` (spec/16_span.md). -/
def Obj.SpanFirewall.discards (j : Nat) : Nat := 0x152000 + 1 + j
/-- `0x1520:08 HostDiscards` (spec/16_span.md). -/
def Obj.SpanFirewall.hostDiscards : Nat := 0x152000 + 8
/-- `0x1600:01 Now` (spec/17_time_base.md). -/
def Obj.MasterTime.now : Nat := 0x160000 + 1
/-- `0x1600:02 Increment` (spec/17_time_base.md). -/
def Obj.MasterTime.increment : Nat := 0x160000 + 2
/-- `0x1600:03 OffsetAdjust` (spec/17_time_base.md). -/
def Obj.MasterTime.offsetAdjust : Nat := 0x160000 + 3
/-- `0x1600:04 TimeSet` (spec/17_time_base.md). -/
def Obj.MasterTime.timeSet : Nat := 0x160000 + 4
/-- `0x1600:05 Source` (spec/17_time_base.md). -/
def Obj.MasterTime.source : Nat := 0x160000 + 5
/-- `0x1600:06 Steps` (spec/17_time_base.md). -/
def Obj.MasterTime.steps : Nat := 0x160000 + 6
/-- `0x1601:01 Now` (spec/17_time_base.md). -/
def Obj.SlaveTime.now : Nat := 0x160100 + 1
/-- `0x1601:02 State` (spec/17_time_base.md). -/
def Obj.SlaveTime.state : Nat := 0x160100 + 2
/-- `0x1601:03 SlaveError` (spec/17_time_base.md). -/
def Obj.SlaveTime.slaveError : Nat := 0x160100 + 3
/-- `0x1601:04 RateOffset` (spec/17_time_base.md). -/
def Obj.SlaveTime.rateOffset : Nat := 0x160100 + 4
/-- `0x1601:05 StepThreshold` (spec/17_time_base.md). -/
def Obj.SlaveTime.stepThreshold : Nat := 0x160100 + 5
/-- `0x1601:06 Steps` (spec/17_time_base.md). -/
def Obj.SlaveTime.steps : Nat := 0x160100 + 6
/-- `0x1601:07 TimesReceived` (spec/17_time_base.md). -/
def Obj.SlaveTime.timesReceived : Nat := 0x160100 + 7
/-- `0x1608 + i:01 StepMode` (spec/17_time_base.md). -/
def Obj.PtpPort.stepMode (i : Nat) : Nat := 0x160800 + 256 * i + 1
/-- `0x1608 + i:02 IngressLatency` (spec/17_time_base.md). -/
def Obj.PtpPort.ingressLatency (i : Nat) : Nat := 0x160800 + 256 * i + 2
/-- `0x1608 + i:03 EgressLatency` (spec/17_time_base.md). -/
def Obj.PtpPort.egressLatency (i : Nat) : Nat := 0x160800 + 256 * i + 3
/-- `0x1610:01 ServoMode` (spec/17_time_base.md). -/
def Obj.PtpServo.servoMode : Nat := 0x161000 + 1
/-- `0x1610:02 PtpPort` (spec/17_time_base.md). -/
def Obj.PtpServo.ptpPort : Nat := 0x161000 + 2
/-- `0x1610:03 Profile` (spec/17_time_base.md). -/
def Obj.PtpServo.profile : Nat := 0x161000 + 3
/-- `0x1610:04 PtpDomain` (spec/17_time_base.md). -/
def Obj.PtpServo.ptpDomain : Nat := 0x161000 + 4
/-- `0x1610:05 OffsetFromMaster` (spec/17_time_base.md). -/
def Obj.PtpServo.offsetFromMaster : Nat := 0x161000 + 5
/-- `0x1610:06 MeanPathDelay` (spec/17_time_base.md). -/
def Obj.PtpServo.meanPathDelay : Nat := 0x161000 + 6
/-- `0x1610:07 PortState` (spec/17_time_base.md). -/
def Obj.PtpServo.portState : Nat := 0x161000 + 7
/-- `0x1620 + i:01 Source` (spec/17_time_base.md). -/
def Obj.Capture.source (i : Nat) : Nat := 0x162000 + 256 * i + 1
/-- `0x1620 + i:02 Param` (spec/17_time_base.md). -/
def Obj.Capture.param (i : Nat) : Nat := 0x162000 + 256 * i + 2
/-- `0x1620 + i:03 Edge` (spec/17_time_base.md). -/
def Obj.Capture.edge (i : Nat) : Nat := 0x162000 + 256 * i + 3
/-- `0x1620 + i:04 Records` (spec/17_time_base.md). -/
def Obj.Capture.records (i : Nat) : Nat := 0x162000 + 256 * i + 4
/-- `0x1620 + i:05 Lost` (spec/17_time_base.md). -/
def Obj.Capture.lost (i : Nat) : Nat := 0x162000 + 256 * i + 5
/-- `0x1630:01 PpsEnable` (spec/17_time_base.md). -/
def Obj.TimeOutputs.ppsEnable : Nat := 0x163000 + 1
/-- `0x1630:02 PpsWidth` (spec/17_time_base.md). -/
def Obj.TimeOutputs.ppsWidth : Nat := 0x163000 + 2
/-- `0x1630:03, :08 Mode` (spec/17_time_base.md). -/
def Obj.TimeOutputs.mode (j : Nat) : Nat := 0x163000 + 3 + 5 * j
/-- `0x1630:04, :09 Start` (spec/17_time_base.md). -/
def Obj.TimeOutputs.start (j : Nat) : Nat := 0x163000 + 4 + 5 * j
/-- `0x1630:05, :0A Period` (spec/17_time_base.md). -/
def Obj.TimeOutputs.period (j : Nat) : Nat := 0x163000 + 5 + 5 * j
/-- `0x1630:06, :0B Width` (spec/17_time_base.md). -/
def Obj.TimeOutputs.width (j : Nat) : Nat := 0x163000 + 6 + 5 * j
/-- `0x2000 + i:01 IoscTrim` (spec/18_clocks_and_power.md). -/
def Obj.Clocks.ioscTrim (i : Nat) : Nat := 0x200000 + 256 * i + 1
/-- `0x2000 + i:02 XtalState` (spec/18_clocks_and_power.md). -/
def Obj.Clocks.xtalState (i : Nat) : Nat := 0x200000 + 256 * i + 2
/-- `0x2000 + i:03 GoodWindows` (spec/18_clocks_and_power.md). -/
def Obj.Clocks.goodWindows (i : Nat) : Nat := 0x200000 + 256 * i + 3
/-- `0x2000 + i:04 LastCount` (spec/18_clocks_and_power.md). -/
def Obj.Clocks.lastCount (i : Nat) : Nat := 0x200000 + 256 * i + 4
/-- `0x2000 + i:05 XtalTimeout` (spec/18_clocks_and_power.md). -/
def Obj.Clocks.xtalTimeout (i : Nat) : Nat := 0x200000 + 256 * i + 5
/-- `0x2000 + i:06 XtalLosses` (spec/18_clocks_and_power.md). -/
def Obj.Clocks.xtalLosses (i : Nat) : Nat := 0x200000 + 256 * i + 6
/-- `0x2002 + i:01 Source` (spec/18_clocks_and_power.md). -/
def Obj.DomainSwitch.source (i : Nat) : Nat := 0x200200 + 256 * i + 1
/-- `0x2002 + i:02 Ready` (spec/18_clocks_and_power.md). -/
def Obj.DomainSwitch.ready (i : Nat) : Nat := 0x200200 + 256 * i + 2
/-- `0x2002 + i:03 InUse` (spec/18_clocks_and_power.md). -/
def Obj.DomainSwitch.inUse (i : Nat) : Nat := 0x200200 + 256 * i + 3
/-- `0x2002 + i:04 Forced` (spec/18_clocks_and_power.md). -/
def Obj.DomainSwitch.forced (i : Nat) : Nat := 0x200200 + 256 * i + 4
/-- `0x2002 + i:05 Switches` (spec/18_clocks_and_power.md). -/
def Obj.DomainSwitch.switches (i : Nat) : Nat := 0x200200 + 256 * i + 5
/-- `0x2008 + i:01 Target` (spec/18_clocks_and_power.md). -/
def Obj.Meter.target (i : Nat) : Nat := 0x200800 + 256 * i + 1
/-- `0x2008 + i:02 Reference` (spec/18_clocks_and_power.md). -/
def Obj.Meter.reference (i : Nat) : Nat := 0x200800 + 256 * i + 2
/-- `0x2008 + i:03 Window` (spec/18_clocks_and_power.md). -/
def Obj.Meter.window (i : Nat) : Nat := 0x200800 + 256 * i + 3
/-- `0x2008 + i:04 Start` (spec/18_clocks_and_power.md). -/
def Obj.Meter.start (i : Nat) : Nat := 0x200800 + 256 * i + 4
/-- `0x2008 + i:05 Busy` (spec/18_clocks_and_power.md). -/
def Obj.Meter.busy (i : Nat) : Nat := 0x200800 + 256 * i + 5
/-- `0x2008 + i:06 Count` (spec/18_clocks_and_power.md). -/
def Obj.Meter.count (i : Nat) : Nat := 0x200800 + 256 * i + 6
/-- `0x2008 + i:07 Frequency` (spec/18_clocks_and_power.md). -/
def Obj.Meter.frequency (i : Nat) : Nat := 0x200800 + 256 * i + 7
/-- `0x2010:01 Enable` (spec/18_clocks_and_power.md). -/
def Obj.HostGates.enable : Nat := 0x201000 + 1
/-- `0x2010:02 GatesForced` (spec/18_clocks_and_power.md). -/
def Obj.HostGates.gatesForced : Nat := 0x201000 + 2
/-- `0x2011:01 Enable` (spec/18_clocks_and_power.md). -/
def Obj.FieldGates.enable : Nat := 0x201100 + 1
/-- `0x2011:02 GatesForced` (spec/18_clocks_and_power.md). -/
def Obj.FieldGates.gatesForced : Nat := 0x201100 + 2
/-- `0x2100:01 PowerRequest` (spec/18_clocks_and_power.md). -/
def Obj.PowerControl.powerRequest : Nat := 0x210000 + 1
/-- `0x2100:02 PowerState` (spec/18_clocks_and_power.md). -/
def Obj.PowerControl.powerState : Nat := 0x210000 + 2
/-- `0x2100:03 InTransition` (spec/18_clocks_and_power.md). -/
def Obj.PowerControl.inTransition : Nat := 0x210000 + 3
/-- `0x2100:04 HoldCause` (spec/18_clocks_and_power.md). -/
def Obj.PowerControl.holdCause : Nat := 0x210000 + 4
/-- `0x2100:05 PendingPlanes` (spec/18_clocks_and_power.md). -/
def Obj.PowerControl.pendingPlanes : Nat := 0x210000 + 5
/-- `0x2100:06 Transitions` (spec/18_clocks_and_power.md). -/
def Obj.PowerControl.transitions : Nat := 0x210000 + 6
/-- `0x2101:01 OpTarget` (spec/18_clocks_and_power.md). -/
def Obj.Dvfs.opTarget : Nat := 0x210100 + 1
/-- `0x2101:02 OpInForce` (spec/18_clocks_and_power.md). -/
def Obj.Dvfs.opInForce : Nat := 0x210100 + 2
/-- `0x2101:03 NeedMHz` (spec/18_clocks_and_power.md). -/
def Obj.Dvfs.needMHz : Nat := 0x210100 + 3
/-- `0x2101:04 VoltageError` (spec/18_clocks_and_power.md). -/
def Obj.Dvfs.voltageError : Nat := 0x210100 + 4
/-- `0x2101:05 DvfsTransitions` (spec/18_clocks_and_power.md). -/
def Obj.Dvfs.dvfsTransitions : Nat := 0x210100 + 5
/-- `0x2101:06 DvfsFailures` (spec/18_clocks_and_power.md). -/
def Obj.Dvfs.dvfsFailures : Nat := 0x210100 + 6
/-- `0x2101:07 AvsClock` (spec/18_clocks_and_power.md). -/
def Obj.Dvfs.avsClock : Nat := 0x210100 + 7
/-- `0x2101:08 SettleTime` (spec/18_clocks_and_power.md). -/
def Obj.Dvfs.settleTime : Nat := 0x210100 + 8
/-- `0x2108 + i:01 NominalVoltage` (spec/18_clocks_and_power.md). -/
def Obj.OperatingPoint.nominalVoltage (i : Nat) : Nat := 0x210800 + 256 * i + 1
/-- `0x2108 + i:02 Guardband` (spec/18_clocks_and_power.md). -/
def Obj.OperatingPoint.guardband (i : Nat) : Nat := 0x210800 + 256 * i + 2
/-- `0x2108 + i:03 Frequency` (spec/18_clocks_and_power.md). -/
def Obj.OperatingPoint.frequency (i : Nat) : Nat := 0x210800 + 256 * i + 3
/-- `0x2108 + i:04 Derated` (spec/18_clocks_and_power.md). -/
def Obj.OperatingPoint.derated (i : Nat) : Nat := 0x210800 + 256 * i + 4
/-- `0x2200:01 WarmReset` (spec/19_reset_and_startup.md). -/
def Obj.StartControl.warmReset : Nat := 0x220000 + 1
/-- `0x2200:02 StartConfirmMode` (spec/19_reset_and_startup.md). -/
def Obj.StartControl.startConfirmMode : Nat := 0x220000 + 2
/-- `0x2200:03 ConfirmStart` (spec/19_reset_and_startup.md). -/
def Obj.StartControl.confirmStart : Nat := 0x220000 + 3
/-- `0x2200:04 StartComplete` (spec/19_reset_and_startup.md). -/
def Obj.StartControl.startComplete : Nat := 0x220000 + 4
/-- `0x2200:05 BootWatchdog` (spec/19_reset_and_startup.md). -/
def Obj.StartControl.bootWatchdog : Nat := 0x220000 + 5
/-- `0x2200:06 BootAttempts` (spec/19_reset_and_startup.md). -/
def Obj.StartControl.bootAttempts : Nat := 0x220000 + 6
/-- `0x2200:07 RecoveryExit` (spec/19_reset_and_startup.md). -/
def Obj.StartControl.recoveryExit : Nat := 0x220000 + 7
/-- `0x2200:08 RecoveryCause` (spec/19_reset_and_startup.md). -/
def Obj.StartControl.recoveryCause : Nat := 0x220000 + 8
/-- `0x2200:09 StartStage` (spec/19_reset_and_startup.md). -/
def Obj.StartControl.startStage : Nat := 0x220000 + 9
/-- `0x2200:0A StartTime` (spec/19_reset_and_startup.md). -/
def Obj.StartControl.startTime : Nat := 0x220000 + 10
/-- `0x2201 + i:01 Sources` (spec/19_reset_and_startup.md). -/
def Obj.ResetCause.sources (i : Nat) : Nat := 0x220100 + 256 * i + 1
/-- `0x2201 + i:02 Reach` (spec/19_reset_and_startup.md). -/
def Obj.ResetCause.reach (i : Nat) : Nat := 0x220100 + 256 * i + 2
/-- `0x2201 + i:03 FuseRestart` (spec/19_reset_and_startup.md). -/
def Obj.ResetCause.fuseRestart (i : Nat) : Nat := 0x220100 + 256 * i + 3
/-- `0x2201 + i:04 ReleaseStamp` (spec/19_reset_and_startup.md). -/
def Obj.ResetCause.releaseStamp (i : Nat) : Nat := 0x220100 + 256 * i + 4
/-- `0x2201 + i:05 Episodes` (spec/19_reset_and_startup.md). -/
def Obj.ResetCause.episodes (i : Nat) : Nat := 0x220100 + 256 * i + 5
/-- `0x2203:01 PierIdleTimeout` (spec/19_reset_and_startup.md). -/
def Obj.BlockReset.pierIdleTimeout : Nat := 0x220300 + 1
/-- `0x2203:02 CameraIdleTimeout` (spec/19_reset_and_startup.md). -/
def Obj.BlockReset.cameraIdleTimeout : Nat := 0x220300 + 2
/-- `0x2203:03 ChannelIdleTimeout` (spec/19_reset_and_startup.md). -/
def Obj.BlockReset.channelIdleTimeout : Nat := 0x220300 + 3
/-- `0x2203:04 EngineIdleTimeout` (spec/19_reset_and_startup.md). -/
def Obj.BlockReset.engineIdleTimeout : Nat := 0x220300 + 4
/-- `0x2203:05 RingIdleTimeout` (spec/19_reset_and_startup.md). -/
def Obj.BlockReset.ringIdleTimeout : Nat := 0x220300 + 5
/-- `0x2203:06–0A IdleTimeouts` (spec/19_reset_and_startup.md). -/
def Obj.BlockReset.idleTimeouts (j : Nat) : Nat := 0x220300 + 6 + j
/-- `0x2210:01 Direction` (spec/24_package_and_signals.md). -/
def Obj.Gpio.direction : Nat := 0x221000 + 1
/-- `0x2210:02 Output` (spec/24_package_and_signals.md). -/
def Obj.Gpio.output : Nat := 0x221000 + 2
/-- `0x2210:03 OpenDrain` (spec/24_package_and_signals.md). -/
def Obj.Gpio.openDrain : Nat := 0x221000 + 3
/-- `0x2210:04 Input` (spec/24_package_and_signals.md). -/
def Obj.Gpio.input : Nat := 0x221000 + 4
/-- `0x2300 + i:01 AutoEnable` (spec/20_calibration_and_ageing.md). -/
def Obj.CalSubject.autoEnable (i : Nat) : Nat := 0x230000 + 256 * i + 1
/-- `0x2300 + i:02 RunNow` (spec/20_calibration_and_ageing.md). -/
def Obj.CalSubject.runNow (i : Nat) : Nat := 0x230000 + 256 * i + 2
/-- `0x2300 + i:03 Runs` (spec/20_calibration_and_ageing.md). -/
def Obj.CalSubject.runs (i : Nat) : Nat := 0x230000 + 256 * i + 3
/-- `0x2300 + i:04 Rejections` (spec/20_calibration_and_ageing.md). -/
def Obj.CalSubject.rejections (i : Nat) : Nat := 0x230000 + 256 * i + 4
/-- `0x2300 + i:05 Aborts` (spec/20_calibration_and_ageing.md). -/
def Obj.CalSubject.aborts (i : Nat) : Nat := 0x230000 + 256 * i + 5
/-- `0x2300 + i:06 LastStamp` (spec/20_calibration_and_ageing.md). -/
def Obj.CalSubject.lastStamp (i : Nat) : Nat := 0x230000 + 256 * i + 6
/-- `0x2300 + i:07 LastTime` (spec/20_calibration_and_ageing.md). -/
def Obj.CalSubject.lastTime (i : Nat) : Nat := 0x230000 + 256 * i + 7
/-- `0x2300 + i:08 LastResult` (spec/20_calibration_and_ageing.md). -/
def Obj.CalSubject.lastResult (i : Nat) : Nat := 0x230000 + 256 * i + 8
/-- `0x2300 + i:09 LastInstance` (spec/20_calibration_and_ageing.md). -/
def Obj.CalSubject.lastInstance (i : Nat) : Nat := 0x230000 + 256 * i + 9
/-- `0x2308:01 PierTempDelta` (spec/20_calibration_and_ageing.md). -/
def Obj.CalLimits.pierTempDelta : Nat := 0x230800 + 1
/-- `0x2308:02 DramTempDelta` (spec/20_calibration_and_ageing.md). -/
def Obj.CalLimits.dramTempDelta : Nat := 0x230800 + 2
/-- `0x2308:03 PierMinEye` (spec/20_calibration_and_ageing.md). -/
def Obj.CalLimits.pierMinEye : Nat := 0x230800 + 3
/-- `0x2308:04 DramMaxShift` (spec/20_calibration_and_ageing.md). -/
def Obj.CalLimits.dramMaxShift : Nat := 0x230800 + 4
/-- `0x2308:05 TempOffsetLimit` (spec/20_calibration_and_ageing.md). -/
def Obj.CalLimits.tempOffsetLimit : Nat := 0x230800 + 5
/-- `0x2308:06 BaselineMinInLimits` (spec/20_calibration_and_ageing.md). -/
def Obj.CalLimits.baselineMinInLimits : Nat := 0x230800 + 6
/-- `0x2308:07 FlatFrames` (spec/20_calibration_and_ageing.md). -/
def Obj.CalLimits.flatFrames : Nat := 0x230800 + 7
/-- `0x2308:08 FlatGainMin` (spec/20_calibration_and_ageing.md). -/
def Obj.CalLimits.flatGainMin : Nat := 0x230800 + 8
/-- `0x2308:09 FlatGainMax` (spec/20_calibration_and_ageing.md). -/
def Obj.CalLimits.flatGainMax : Nat := 0x230800 + 9
/-- `0x2308:0A DeferWarn` (spec/20_calibration_and_ageing.md). -/
def Obj.CalLimits.deferWarn : Nat := 0x230800 + 10
/-- `0x2310 + i:01 AdaptPending` (spec/20_calibration_and_ageing.md). -/
def Obj.PierCal.adaptPending (i : Nat) : Nat := 0x231000 + 256 * i + 1
/-- `0x2310 + i:02 EyeWidthMin` (spec/20_calibration_and_ageing.md). -/
def Obj.PierCal.eyeWidthMin (i : Nat) : Nat := 0x231000 + 256 * i + 2
/-- `0x2310 + i:03 AdaptTemp` (spec/20_calibration_and_ageing.md). -/
def Obj.PierCal.adaptTemp (i : Nat) : Nat := 0x231000 + 256 * i + 3
/-- `0x2330:01 DieTemp` (spec/20_calibration_and_ageing.md). -/
def Obj.Ageing.dieTemp : Nat := 0x233000 + 1
/-- `0x2330:02 RoShift` (spec/20_calibration_and_ageing.md). -/
def Obj.Ageing.roShift : Nat := 0x233000 + 2
/-- `0x2330:03 PathMargin` (spec/20_calibration_and_ageing.md). -/
def Obj.Ageing.pathMargin : Nat := 0x233000 + 3
/-- `0x2330:04 MarginTarget` (spec/20_calibration_and_ageing.md). -/
def Obj.Ageing.marginTarget : Nat := 0x233000 + 4
/-- `0x2330:05 ReplanNow` (spec/20_calibration_and_ageing.md). -/
def Obj.Ageing.replanNow : Nat := 0x233000 + 5
/-- `0x2330:06 ReplanState` (spec/20_calibration_and_ageing.md). -/
def Obj.Ageing.replanState : Nat := 0x233000 + 6
/-- `0x2330:07 AgeingLog` (spec/20_calibration_and_ageing.md). -/
def Obj.Ageing.ageingLog : Nat := 0x233000 + 7
/-- `0x2330:08 Arm` (spec/20_calibration_and_ageing.md). -/
def Obj.Ageing.arm : Nat := 0x233000 + 8
/-- `0x2330:09 ActivationState` (spec/20_calibration_and_ageing.md). -/
def Obj.Ageing.activationState : Nat := 0x233000 + 9
/-- `0x2330:0A LastGap` (spec/20_calibration_and_ageing.md). -/
def Obj.Ageing.lastGap : Nat := 0x233000 + 10
/-- `0x2340 + i:01 FactoryResistRef` (spec/20_calibration_and_ageing.md). -/
def Obj.HeadCal.factoryResistRef (i : Nat) : Nat := 0x234000 + 256 * i + 1
/-- `0x2340 + i:02 BaselineCarrier` (spec/20_calibration_and_ageing.md). -/
def Obj.HeadCal.baselineCarrier (i : Nat) : Nat := 0x234000 + 256 * i + 2
/-- `0x2340 + i:03 TempOffset` (spec/20_calibration_and_ageing.md). -/
def Obj.HeadCal.tempOffset (i : Nat) : Nat := 0x234000 + 256 * i + 3
/-- `0x2340 + i:04 TempRaw` (spec/20_calibration_and_ageing.md). -/
def Obj.HeadCal.tempRaw (i : Nat) : Nat := 0x234000 + 256 * i + 4
/-- `0x2340 + i:05 ResistMedian` (spec/20_calibration_and_ageing.md). -/
def Obj.HeadCal.resistMedian (i : Nat) : Nat := 0x234000 + 256 * i + 5
/-- `0x2340 + i:06 DriftTrend` (spec/20_calibration_and_ageing.md). -/
def Obj.HeadCal.driftTrend (i : Nat) : Nat := 0x234000 + 256 * i + 6
/-- `0x3000:01 PrimarySource` (spec/02_web_position.md). -/
def Obj.WebSource.primarySource : Nat := 0x300000 + 1
/-- `0x3000:02 CheckSource` (spec/02_web_position.md). -/
def Obj.WebSource.checkSource : Nat := 0x300000 + 2
/-- `0x3000:03 CheckRatio` (spec/02_web_position.md). -/
def Obj.WebSource.checkRatio : Nat := 0x300000 + 3
/-- `0x3000:04 CheckTolerance` (spec/02_web_position.md). -/
def Obj.WebSource.checkTolerance : Nat := 0x300000 + 4
/-- `0x3000:05 DisagreePolicy` (spec/02_web_position.md). -/
def Obj.WebSource.disagreePolicy : Nat := 0x300000 + 5
/-- `0x3000:06 CheckReset` (spec/02_web_position.md). -/
def Obj.WebSource.checkReset : Nat := 0x300000 + 6
/-- `0x3010 + i:01 DecodeMode` (spec/02_web_position.md). -/
def Obj.EncoderConfig.decodeMode (i : Nat) : Nat := 0x301000 + 256 * i + 1
/-- `0x3010 + i:02 Reverse` (spec/02_web_position.md). -/
def Obj.EncoderConfig.reverse (i : Nat) : Nat := 0x301000 + 256 * i + 2
/-- `0x3010 + i:03 ValidationMode` (spec/02_web_position.md). -/
def Obj.EncoderConfig.validationMode (i : Nat) : Nat := 0x301000 + 256 * i + 3
/-- `0x3010 + i:04 MinSpacing` (spec/02_web_position.md). -/
def Obj.EncoderConfig.minSpacing (i : Nat) : Nat := 0x301000 + 256 * i + 4
/-- `0x3010 + i:05 IndexMode` (spec/02_web_position.md). -/
def Obj.EncoderConfig.indexMode (i : Nat) : Nat := 0x301000 + 256 * i + 5
/-- `0x3010 + i:06 IndexPolarity` (spec/02_web_position.md). -/
def Obj.EncoderConfig.indexPolarity (i : Nat) : Nat := 0x301000 + 256 * i + 6
/-- `0x3010 + i:07 CountsPerRev` (spec/02_web_position.md). -/
def Obj.EncoderConfig.countsPerRev (i : Nat) : Nat := 0x301000 + 256 * i + 7
/-- `0x3010 + i:08 IndexTolerance` (spec/02_web_position.md). -/
def Obj.EncoderConfig.indexTolerance (i : Nat) : Nat := 0x301000 + 256 * i + 8
/-- `0x3010 + i:09 IndexStuckCounts` (spec/02_web_position.md). -/
def Obj.EncoderConfig.indexStuckCounts (i : Nat) : Nat := 0x301000 + 256 * i + 9
/-- `0x3010 + i:0A IndexLoad` (spec/02_web_position.md). -/
def Obj.EncoderConfig.indexLoad (i : Nat) : Nat := 0x301000 + 256 * i + 10
/-- `0x3010 + i:0B IndexArm` (spec/02_web_position.md). -/
def Obj.EncoderConfig.indexArm (i : Nat) : Nat := 0x301000 + 256 * i + 11
/-- `0x3010 + i:0C CounterPreset` (spec/02_web_position.md). -/
def Obj.EncoderConfig.counterPreset (i : Nat) : Nat := 0x301000 + 256 * i + 12
/-- `0x3018 + i:01 Count` (spec/02_web_position.md). -/
def Obj.EncoderStatus.count (i : Nat) : Nat := 0x301800 + 256 * i + 1
/-- `0x3018 + i:02 Speed` (spec/02_web_position.md). -/
def Obj.EncoderStatus.speed (i : Nat) : Nat := 0x301800 + 256 * i + 2
/-- `0x3018 + i:03 Direction` (spec/02_web_position.md). -/
def Obj.EncoderStatus.direction (i : Nat) : Nat := 0x301800 + 256 * i + 3
/-- `0x3018 + i:04 Flags` (spec/02_web_position.md). -/
def Obj.EncoderStatus.flags (i : Nat) : Nat := 0x301800 + 256 * i + 4
/-- `0x3018 + i:05 RejectedEdges` (spec/02_web_position.md). -/
def Obj.EncoderStatus.rejectedEdges (i : Nat) : Nat := 0x301800 + 256 * i + 5
/-- `0x3018 + i:06 IllegalTransitions` (spec/02_web_position.md). -/
def Obj.EncoderStatus.illegalTransitions (i : Nat) : Nat := 0x301800 + 256 * i + 6
/-- `0x3018 + i:07 IndexSlips` (spec/02_web_position.md). -/
def Obj.EncoderStatus.indexSlips (i : Nat) : Nat := 0x301800 + 256 * i + 7
/-- `0x3018 + i:08 LastIndexDiscrepancy` (spec/02_web_position.md). -/
def Obj.EncoderStatus.lastIndexDiscrepancy (i : Nat) : Nat := 0x301800 + 256 * i + 8
/-- `0x3018 + i:09 LastEdgeStamp` (spec/02_web_position.md). -/
def Obj.EncoderStatus.lastEdgeStamp (i : Nat) : Nat := 0x301800 + 256 * i + 9
/-- `0x3020:01 Enable` (spec/02_web_position.md). -/
def Obj.SpsConfig.enable : Nat := 0x302000 + 1
/-- `0x3020:02 ClockRate` (spec/02_web_position.md). -/
def Obj.SpsConfig.clockRate : Nat := 0x302000 + 2
/-- `0x3020:03 RefreshPeriod` (spec/02_web_position.md). -/
def Obj.SpsConfig.refreshPeriod : Nat := 0x302000 + 3
/-- `0x3020:04 WordBits` (spec/02_web_position.md). -/
def Obj.SpsConfig.wordBits : Nat := 0x302000 + 4
/-- `0x3020:05 PositionBits` (spec/02_web_position.md). -/
def Obj.SpsConfig.positionBits : Nat := 0x302000 + 5
/-- `0x3020:06 ErrorBitPos` (spec/02_web_position.md). -/
def Obj.SpsConfig.errorBitPos : Nat := 0x302000 + 6
/-- `0x3020:07 ErrorActive` (spec/02_web_position.md). -/
def Obj.SpsConfig.errorActive : Nat := 0x302000 + 7
/-- `0x3020:08 CrcBits` (spec/02_web_position.md). -/
def Obj.SpsConfig.crcBits : Nat := 0x302000 + 8
/-- `0x3020:09 CrcPoly` (spec/02_web_position.md). -/
def Obj.SpsConfig.crcPoly : Nat := 0x302000 + 9
/-- `0x3020:0A CrcInit` (spec/02_web_position.md). -/
def Obj.SpsConfig.crcInit : Nat := 0x302000 + 10
/-- `0x3020:0B CrcInvert` (spec/02_web_position.md). -/
def Obj.SpsConfig.crcInvert : Nat := 0x302000 + 11
/-- `0x3020:0C WordTimeout` (spec/02_web_position.md). -/
def Obj.SpsConfig.wordTimeout : Nat := 0x302000 + 12
/-- `0x3020:0D FailCount` (spec/02_web_position.md). -/
def Obj.SpsConfig.failCount : Nat := 0x302000 + 13
/-- `0x3020:0E SpsRatio` (spec/02_web_position.md). -/
def Obj.SpsConfig.spsRatio : Nat := 0x302000 + 14
/-- `0x3020:0F SpsOffset` (spec/02_web_position.md). -/
def Obj.SpsConfig.spsOffset : Nat := 0x302000 + 15
/-- `0x3020:10 LoadFromSps` (spec/02_web_position.md). -/
def Obj.SpsConfig.loadFromSps : Nat := 0x302000 + 16
/-- `0x3021:01 Position` (spec/02_web_position.md). -/
def Obj.SpsStatus.position : Nat := 0x302100 + 1
/-- `0x3021:02 State` (spec/02_web_position.md). -/
def Obj.SpsStatus.state : Nat := 0x302100 + 2
/-- `0x3021:03 GoodWords` (spec/02_web_position.md). -/
def Obj.SpsStatus.goodWords : Nat := 0x302100 + 3
/-- `0x3021:04 CrcErrors` (spec/02_web_position.md). -/
def Obj.SpsStatus.crcErrors : Nat := 0x302100 + 4
/-- `0x3021:05 ErrorBitWords` (spec/02_web_position.md). -/
def Obj.SpsStatus.errorBitWords : Nat := 0x302100 + 5
/-- `0x3021:06 Timeouts` (spec/02_web_position.md). -/
def Obj.SpsStatus.timeouts : Nat := 0x302100 + 6
/-- `0x3021:07 SkippedRequests` (spec/02_web_position.md). -/
def Obj.SpsStatus.skippedRequests : Nat := 0x302100 + 7
/-- `0x3030:01 StandstillTimeout` (spec/02_web_position.md). -/
def Obj.PositionCertainty.standstillTimeout : Nat := 0x303000 + 1
/-- `0x3030:02 StormWindow` (spec/02_web_position.md). -/
def Obj.PositionCertainty.stormWindow : Nat := 0x303000 + 2
/-- `0x3030:03 StormLimit` (spec/02_web_position.md). -/
def Obj.PositionCertainty.stormLimit : Nat := 0x303000 + 3
/-- `0x3030:04 UncertainPolicy` (spec/02_web_position.md). -/
def Obj.PositionCertainty.uncertainPolicy : Nat := 0x303000 + 4
/-- `0x3030:05 UncertainClear` (spec/02_web_position.md). -/
def Obj.PositionCertainty.uncertainClear : Nat := 0x303000 + 5
/-- `0x3030:06 PositionState` (spec/02_web_position.md). -/
def Obj.PositionCertainty.positionState : Nat := 0x303000 + 6
/-- `0x3030:07 UncertainCause` (spec/02_web_position.md). -/
def Obj.PositionCertainty.uncertainCause : Nat := 0x303000 + 7
/-- `0x3040 + i:01 LinesPerCount` (spec/02_web_position.md). -/
def Obj.LineGenerator.linesPerCount (i : Nat) : Nat := 0x304000 + 256 * i + 1
/-- `0x3040 + i:02 LineLoad` (spec/02_web_position.md). -/
def Obj.LineGenerator.lineLoad (i : Nat) : Nat := 0x304000 + 256 * i + 2
/-- `0x3040 + i:03 PlaneLine` (spec/02_web_position.md). -/
def Obj.LineGenerator.planeLine (i : Nat) : Nat := 0x304000 + 256 * i + 3
/-- `0x3040 + i:04 Phase` (spec/02_web_position.md). -/
def Obj.LineGenerator.phase (i : Nat) : Nat := 0x304000 + 256 * i + 4
/-- `0x3040 + i:05 HighWaterMark` (spec/02_web_position.md). -/
def Obj.LineGenerator.highWaterMark (i : Nat) : Nat := 0x304000 + 256 * i + 5
/-- `0x3040 + i:06 LineRate` (spec/02_web_position.md). -/
def Obj.LineGenerator.lineRate (i : Nat) : Nat := 0x304000 + 256 * i + 6
/-- `0x3040 + i:07 MaxLineRate` (spec/02_web_position.md). -/
def Obj.LineGenerator.maxLineRate (i : Nat) : Nat := 0x304000 + 256 * i + 7
/-- `0x3040 + i:08 LoadFraction` (spec/02_web_position.md). -/
def Obj.LineGenerator.loadFraction (i : Nat) : Nat := 0x304000 + 256 * i + 8
/-- `0x3040 + i:09 DroppedLines` (spec/02_web_position.md). -/
def Obj.LineGenerator.droppedLines (i : Nat) : Nat := 0x304000 + 256 * i + 9
/-- `0x3050:01 WarnFraction` (spec/02_web_position.md). -/
def Obj.Overspeed.warnFraction : Nat := 0x305000 + 1
/-- `0x3050:02 Hysteresis` (spec/02_web_position.md). -/
def Obj.Overspeed.hysteresis : Nat := 0x305000 + 2
/-- `0x3050:03 WebSlowState` (spec/02_web_position.md). -/
def Obj.Overspeed.webSlowState : Nat := 0x305000 + 3
/-- `0x3050:04 WebSlowForce` (spec/02_web_position.md). -/
def Obj.Overspeed.webSlowForce : Nat := 0x305000 + 4
/-- `0x3100:01 ArmedEntries` (spec/03_position_schedule.md). -/
def Obj.ScheduleControl.armedEntries : Nat := 0x310000 + 1
/-- `0x3100:02 SchedulePosition` (spec/03_position_schedule.md). -/
def Obj.ScheduleControl.schedulePosition : Nat := 0x310000 + 2
/-- `0x3100:03 PositionHighWater` (spec/03_position_schedule.md). -/
def Obj.ScheduleControl.positionHighWater : Nat := 0x310000 + 3
/-- `0x3100:04 DoneCount` (spec/03_position_schedule.md). -/
def Obj.ScheduleControl.doneCount : Nat := 0x310000 + 4
/-- `0x3100:05 LateCount` (spec/03_position_schedule.md). -/
def Obj.ScheduleControl.lateCount : Nat := 0x310000 + 5
/-- `0x3100:06 NoEffectCount` (spec/03_position_schedule.md). -/
def Obj.ScheduleControl.noEffectCount : Nat := 0x310000 + 6
/-- `0x3100:07 FailedCount` (spec/03_position_schedule.md). -/
def Obj.ScheduleControl.failedCount : Nat := 0x310000 + 7
/-- `0x3100:08 SkippedCount` (spec/03_position_schedule.md). -/
def Obj.ScheduleControl.skippedCount : Nat := 0x310000 + 8
/-- `0x3101:00 ScheduleTable` (spec/03_position_schedule.md). -/
def Obj.scheduleTable : Nat := 0x310100
/-- `0x3102:00 ScheduleInsert` (spec/03_position_schedule.md). -/
def Obj.scheduleInsert : Nat := 0x310200
/-- `0x3103:01 CancelTag` (spec/03_position_schedule.md). -/
def Obj.ScheduleCancel.cancelTag : Nat := 0x310300 + 1
/-- `0x3103:02 CancelAll` (spec/03_position_schedule.md). -/
def Obj.ScheduleCancel.cancelAll : Nat := 0x310300 + 2
/-- `0x3103:03 LastCancelled` (spec/03_position_schedule.md). -/
def Obj.ScheduleCancel.lastCancelled : Nat := 0x310300 + 3
/-- `0x3108 + i:01 OpenLead` (spec/03_position_schedule.md). -/
def Obj.PlaneSchedule.openLead (i : Nat) : Nat := 0x310800 + 256 * i + 1
/-- `0x3108 + i:02 OpenedLine` (spec/03_position_schedule.md). -/
def Obj.PlaneSchedule.openedLine (i : Nat) : Nat := 0x310800 + 256 * i + 2
/-- `0x3108 + i:03 LastRwlLine` (spec/03_position_schedule.md). -/
def Obj.PlaneSchedule.lastRwlLine (i : Nat) : Nat := 0x310800 + 256 * i + 3
/-- `0x3108 + i:04 RwlPending` (spec/03_position_schedule.md). -/
def Obj.PlaneSchedule.rwlPending (i : Nat) : Nat := 0x310800 + 256 * i + 4
/-- `0x3110 + i:01 Plane` (spec/03_position_schedule.md). -/
def Obj.ClosureConfig.plane (i : Nat) : Nat := 0x311000 + 256 * i + 1
/-- `0x3110 + i:02 HeadMask` (spec/03_position_schedule.md). -/
def Obj.ClosureConfig.headMask (i : Nat) : Nat := 0x311000 + 256 * i + 2
/-- `0x3110 + i:03 MaxLines` (spec/03_position_schedule.md). -/
def Obj.ClosureConfig.maxLines (i : Nat) : Nat := 0x311000 + 256 * i + 3
/-- `0x3110 + i:04 State` (spec/03_position_schedule.md). -/
def Obj.ClosureConfig.state (i : Nat) : Nat := 0x311000 + 256 * i + 4
/-- `0x3110 + i:05 OpenedAt` (spec/03_position_schedule.md). -/
def Obj.ClosureConfig.openedAt (i : Nat) : Nat := 0x311000 + 256 * i + 5
/-- `0x3110 + i:06 Overruns` (spec/03_position_schedule.md). -/
def Obj.ClosureConfig.overruns (i : Nat) : Nat := 0x311000 + 256 * i + 6
/-- `0x4000 + i:01 Enable` (spec/04_planes_and_geometry.md). -/
def Obj.PlaneConfig.enable (i : Nat) : Nat := 0x400000 + 256 * i + 1
/-- `0x4000 + i:02 RowMode` (spec/04_planes_and_geometry.md). -/
def Obj.PlaneConfig.rowMode (i : Nat) : Nat := 0x400000 + 256 * i + 2
/-- `0x4000 + i:03 DropBits` (spec/04_planes_and_geometry.md). -/
def Obj.PlaneConfig.dropBits (i : Nat) : Nat := 0x400000 + 256 * i + 3
/-- `0x4000 + i:04 PlaneWidth` (spec/04_planes_and_geometry.md). -/
def Obj.PlaneConfig.planeWidth (i : Nat) : Nat := 0x400000 + 256 * i + 4
/-- `0x4000 + i:05 NozzlePitch` (spec/04_planes_and_geometry.md). -/
def Obj.PlaneConfig.nozzlePitch (i : Nat) : Nat := 0x400000 + 256 * i + 5
/-- `0x4000 + i:06 LinePitch` (spec/04_planes_and_geometry.md). -/
def Obj.PlaneConfig.linePitch (i : Nat) : Nat := 0x400000 + 256 * i + 6
/-- `0x4000 + i:07 PlanePhase` (spec/04_planes_and_geometry.md). -/
def Obj.PlaneConfig.planePhase (i : Nat) : Nat := 0x400000 + 256 * i + 7
/-- `0x4000 + i:08 LateralShift` (spec/04_planes_and_geometry.md). -/
def Obj.PlaneConfig.lateralShift (i : Nat) : Nat := 0x400000 + 256 * i + 8
/-- `0x4000 + i:09 JointProfile` (spec/04_planes_and_geometry.md). -/
def Obj.PlaneConfig.jointProfile (i : Nat) : Nat := 0x400000 + 256 * i + 9
/-- `0x4000 + i:0A TrestleBytes` (spec/04_planes_and_geometry.md). -/
def Obj.PlaneConfig.trestleBytes (i : Nat) : Nat := 0x400000 + 256 * i + 10
/-- `0x4000 + i:0B TrestleOffset` (spec/04_planes_and_geometry.md). -/
def Obj.PlaneConfig.trestleOffset (i : Nat) : Nat := 0x400000 + 256 * i + 11
/-- `0x4008 + i:00 JointTable` (spec/04_planes_and_geometry.md). -/
def Obj.jointTable (i : Nat) : Nat := 0x400800 + 256 * i
/-- `0x4010:01 TrestleRequired` (spec/04_planes_and_geometry.md). -/
def Obj.Trestle.trestleRequired : Nat := 0x401000 + 1
/-- `0x4010:02 TrestleRegion` (spec/04_planes_and_geometry.md). -/
def Obj.Trestle.trestleRegion : Nat := 0x401000 + 2
/-- `0x4010:03 TrestleLargestFree` (spec/04_planes_and_geometry.md). -/
def Obj.Trestle.trestleLargestFree : Nat := 0x401000 + 3
/-- `0x4011:01 FaultReason` (spec/04_planes_and_geometry.md). -/
def Obj.PlaneCheck.faultReason : Nat := 0x401100 + 1
/-- `0x4011:02 FaultPlane` (spec/04_planes_and_geometry.md). -/
def Obj.PlaneCheck.faultPlane : Nat := 0x401100 + 2
/-- `0x4011:03 FaultHead` (spec/04_planes_and_geometry.md). -/
def Obj.PlaneCheck.faultHead : Nat := 0x401100 + 3
/-- `0x4011:04 CheckPlane` (spec/04_planes_and_geometry.md). -/
def Obj.PlaneCheck.checkPlane : Nat := 0x401100 + 4
/-- `0x4100 + i:01 Plane` (spec/04_planes_and_geometry.md). -/
def Obj.HeadRecord.plane (i : Nat) : Nat := 0x410000 + 256 * i + 1
/-- `0x4100 + i:02 Row` (spec/04_planes_and_geometry.md). -/
def Obj.HeadRecord.row (i : Nat) : Nat := 0x410000 + 256 * i + 2
/-- `0x4100 + i:03 ChannelBase` (spec/04_planes_and_geometry.md). -/
def Obj.HeadRecord.channelBase (i : Nat) : Nat := 0x410000 + 256 * i + 3
/-- `0x4100 + i:04 NozzleCount` (spec/04_planes_and_geometry.md). -/
def Obj.HeadRecord.nozzleCount (i : Nat) : Nat := 0x410000 + 256 * i + 4
/-- `0x4100 + i:05 LateralOrigin` (spec/04_planes_and_geometry.md). -/
def Obj.HeadRecord.lateralOrigin (i : Nat) : Nat := 0x410000 + 256 * i + 5
/-- `0x4100 + i:06 Mirror` (spec/04_planes_and_geometry.md). -/
def Obj.HeadRecord.mirror (i : Nat) : Nat := 0x410000 + 256 * i + 6
/-- `0x4100 + i:07 OffsetLines` (spec/04_planes_and_geometry.md). -/
def Obj.HeadRecord.offsetLines (i : Nat) : Nat := 0x410000 + 256 * i + 7
/-- `0x4100 + i:08 OffsetPhase` (spec/04_planes_and_geometry.md). -/
def Obj.HeadRecord.offsetPhase (i : Nat) : Nat := 0x410000 + 256 * i + 8
/-- `0x4100 + i:09 MinPeriod` (spec/04_planes_and_geometry.md). -/
def Obj.HeadRecord.minPeriod (i : Nat) : Nat := 0x410000 + 256 * i + 9
/-- `0x4100 + i:0A Enable` (spec/04_planes_and_geometry.md). -/
def Obj.HeadRecord.enable (i : Nat) : Nat := 0x410000 + 256 * i + 10
/-- `0x4100 + i:0B JointOperator` (spec/04_planes_and_geometry.md). -/
def Obj.HeadRecord.jointOperator (i : Nat) : Nat := 0x410000 + 256 * i + 11
/-- `0x4100 + i:0C JointDrive` (spec/04_planes_and_geometry.md). -/
def Obj.HeadRecord.jointDrive (i : Nat) : Nat := 0x410000 + 256 * i + 12
/-- `0x4100 + i:0D TrestleSlots` (spec/04_planes_and_geometry.md). -/
def Obj.HeadRecord.trestleSlots (i : Nat) : Nat := 0x410000 + 256 * i + 13
/-- `0x4100 + i:0E LineBytes` (spec/04_planes_and_geometry.md). -/
def Obj.HeadRecord.lineBytes (i : Nat) : Nat := 0x410000 + 256 * i + 14
/-- `0x4100 + i:0F State` (spec/04_planes_and_geometry.md). -/
def Obj.HeadRecord.state (i : Nat) : Nat := 0x410000 + 256 * i + 15
/-- `0x4200 + i:01 Bonding` (spec/07_pier_link.md). -/
def Obj.PierConfig.bonding (i : Nat) : Nat := 0x420000 + 256 * i + 1
/-- `0x4200 + i:02 MainRate` (spec/07_pier_link.md). -/
def Obj.PierConfig.mainRate (i : Nat) : Nat := 0x420000 + 256 * i + 2
/-- `0x4200 + i:03 FallbackRate` (spec/07_pier_link.md). -/
def Obj.PierConfig.fallbackRate (i : Nat) : Nat := 0x420000 + 256 * i + 3
/-- `0x4200 + i:04 LineCode` (spec/07_pier_link.md). -/
def Obj.PierConfig.lineCode (i : Nat) : Nat := 0x420000 + 256 * i + 4
/-- `0x4200 + i:05 Service` (spec/07_pier_link.md). -/
def Obj.PierConfig.service (i : Nat) : Nat := 0x420000 + 256 * i + 5
/-- `0x4200 + i:06 Reset` (spec/07_pier_link.md). -/
def Obj.PierConfig.reset (i : Nat) : Nat := 0x420000 + 256 * i + 6
/-- `0x4200 + i:07 RetryInterval` (spec/07_pier_link.md). -/
def Obj.PierConfig.retryInterval (i : Nat) : Nat := 0x420000 + 256 * i + 7
/-- `0x4200 + i:08 Faulted` (spec/07_pier_link.md). -/
def Obj.PierConfig.faulted (i : Nat) : Nat := 0x420000 + 256 * i + 8
/-- `0x4220 + i:01 State` (spec/07_pier_link.md). -/
def Obj.PortStatus.state (i : Nat) : Nat := 0x422000 + 256 * i + 1
/-- `0x4220 + i:02 Stage` (spec/07_pier_link.md). -/
def Obj.PortStatus.stage (i : Nat) : Nat := 0x422000 + 256 * i + 2
/-- `0x4220 + i:03 Link` (spec/07_pier_link.md). -/
def Obj.PortStatus.link (i : Nat) : Nat := 0x422000 + 256 * i + 3
/-- `0x4220 + i:04 CarrierId` (spec/07_pier_link.md). -/
def Obj.PortStatus.carrierId (i : Nat) : Nat := 0x422000 + 256 * i + 4
/-- `0x4220 + i:05 HeadType` (spec/07_pier_link.md). -/
def Obj.PortStatus.headType (i : Nat) : Nat := 0x422000 + 256 * i + 5
/-- `0x4220 + i:06 CarrierNozzles` (spec/07_pier_link.md). -/
def Obj.PortStatus.carrierNozzles (i : Nat) : Nat := 0x422000 + 256 * i + 6
/-- `0x4220 + i:07 CarrierFirmware` (spec/07_pier_link.md). -/
def Obj.PortStatus.carrierFirmware (i : Nat) : Nat := 0x422000 + 256 * i + 7
/-- `0x4220 + i:08 CarrierEpoch` (spec/07_pier_link.md). -/
def Obj.PortStatus.carrierEpoch (i : Nat) : Nat := 0x422000 + 256 * i + 8
/-- `0x4220 + i:09 Owner` (spec/07_pier_link.md). -/
def Obj.PortStatus.owner (i : Nat) : Nat := 0x422000 + 256 * i + 9
/-- `0x4220 + i:0A TminLink` (spec/07_pier_link.md). -/
def Obj.PortStatus.tminLink (i : Nat) : Nat := 0x422000 + 256 * i + 10
/-- `0x4220 + i:0B Attempts` (spec/07_pier_link.md). -/
def Obj.PortStatus.attempts (i : Nat) : Nat := 0x422000 + 256 * i + 11
/-- `0x4220 + i:0C LosCount` (spec/07_pier_link.md). -/
def Obj.PortStatus.losCount (i : Nat) : Nat := 0x422000 + 256 * i + 12
/-- `0x4220 + i:0D LolCount` (spec/07_pier_link.md). -/
def Obj.PortStatus.lolCount (i : Nat) : Nat := 0x422000 + 256 * i + 13
/-- `0x4220 + i:0E StatTimeouts` (spec/07_pier_link.md). -/
def Obj.PortStatus.statTimeouts (i : Nat) : Nat := 0x422000 + 256 * i + 14
/-- `0x4220 + i:0F FramesSent` (spec/07_pier_link.md). -/
def Obj.PortStatus.framesSent (i : Nat) : Nat := 0x422000 + 256 * i + 15
/-- `0x4220 + i:10 FramesAborted` (spec/07_pier_link.md). -/
def Obj.PortStatus.framesAborted (i : Nat) : Nat := 0x422000 + 256 * i + 16
/-- `0x4220 + i:11 FramesRejected` (spec/07_pier_link.md). -/
def Obj.PortStatus.framesRejected (i : Nat) : Nat := 0x422000 + 256 * i + 17
/-- `0x4220 + i:12 ControlCheckErrors` (spec/07_pier_link.md). -/
def Obj.PortStatus.controlCheckErrors (i : Nat) : Nat := 0x422000 + 256 * i + 18
/-- `0x4220 + i:13 IdleInserted` (spec/07_pier_link.md). -/
def Obj.PortStatus.idleInserted (i : Nat) : Nat := 0x422000 + 256 * i + 19
/-- `0x4220 + i:14 IdleDeleted` (spec/07_pier_link.md). -/
def Obj.PortStatus.idleDeleted (i : Nat) : Nat := 0x422000 + 256 * i + 20
/-- `0x4220 + i:15 CarrierRxErrors` (spec/07_pier_link.md). -/
def Obj.PortStatus.carrierRxErrors (i : Nat) : Nat := 0x422000 + 256 * i + 21
/-- `0x4320:01 CommitLead` (spec/08_firing.md). -/
def Obj.FiringTiming.commitLead : Nat := 0x432000 + 1
/-- `0x4320:02 StrobeSetup` (spec/08_firing.md). -/
def Obj.FiringTiming.strobeSetup : Nat := 0x432000 + 2
/-- `0x4320:03 FrameHoldoff` (spec/08_firing.md). -/
def Obj.FiringTiming.frameHoldoff : Nat := 0x432000 + 3
/-- `0x4320:04 StrobeWidth` (spec/08_firing.md). -/
def Obj.FiringTiming.strobeWidth : Nat := 0x432000 + 4
/-- `0x4320:05 RecordDepth` (spec/08_firing.md). -/
def Obj.FiringTiming.recordDepth : Nat := 0x432000 + 5
/-- `0x4320:06 GuardTime` (spec/08_firing.md). -/
def Obj.FiringTiming.guardTime : Nat := 0x432000 + 6
/-- `0x4340 + i:01 BaseEnergy` (spec/08_firing.md). -/
def Obj.HeadFiring.baseEnergy (i : Nat) : Nat := 0x434000 + 256 * i + 1
/-- `0x4340 + i:02 HeadPeriod` (spec/08_firing.md). -/
def Obj.HeadFiring.headPeriod (i : Nat) : Nat := 0x434000 + 256 * i + 2
/-- `0x4340 + i:03 LastLine` (spec/08_firing.md). -/
def Obj.HeadFiring.lastLine (i : Nat) : Nat := 0x434000 + 256 * i + 3
/-- `0x4340 + i:04 LastOutcome` (spec/08_firing.md). -/
def Obj.HeadFiring.lastOutcome (i : Nat) : Nat := 0x434000 + 256 * i + 4
/-- `0x4340 + i:05 OutcomeCounts` (spec/08_firing.md). -/
def Obj.HeadFiring.outcomeCounts (i : Nat) : Nat := 0x434000 + 256 * i + 5
/-- `0x4340 + i:06 LateData` (spec/08_firing.md). -/
def Obj.HeadFiring.lateData (i : Nat) : Nat := 0x434000 + 256 * i + 6
/-- `0x4340 + i:07 RecordTail` (spec/08_firing.md). -/
def Obj.HeadFiring.recordTail (i : Nat) : Nat := 0x434000 + 256 * i + 7
/-- `0x4340 + i:08 RecordOverwrites` (spec/08_firing.md). -/
def Obj.HeadFiring.recordOverwrites (i : Nat) : Nat := 0x434000 + 256 * i + 8
/-- `0x4380 + i:01 Mode` (spec/08_firing.md). -/
def Obj.HeadThermal.mode (i : Nat) : Nat := 0x438000 + 256 * i + 1
/-- `0x4380 + i:02 Tset` (spec/08_firing.md). -/
def Obj.HeadThermal.tset (i : Nat) : Nat := 0x438000 + 256 * i + 2
/-- `0x4380 + i:03 Tsoft` (spec/08_firing.md). -/
def Obj.HeadThermal.tsoft (i : Nat) : Nat := 0x438000 + 256 * i + 3
/-- `0x4380 + i:04 Thard` (spec/08_firing.md). -/
def Obj.HeadThermal.thard (i : Nat) : Nat := 0x438000 + 256 * i + 4
/-- `0x4380 + i:05 DerateSlope` (spec/08_firing.md). -/
def Obj.HeadThermal.derateSlope (i : Nat) : Nat := 0x438000 + 256 * i + 5
/-- `0x4380 + i:06 MinEnergy` (spec/08_firing.md). -/
def Obj.HeadThermal.minEnergy (i : Nat) : Nat := 0x438000 + 256 * i + 6
/-- `0x4380 + i:07 Kp` (spec/08_firing.md). -/
def Obj.HeadThermal.kp (i : Nat) : Nat := 0x438000 + 256 * i + 7
/-- `0x4380 + i:08 Ki` (spec/08_firing.md). -/
def Obj.HeadThermal.ki (i : Nat) : Nat := 0x438000 + 256 * i + 8
/-- `0x4380 + i:09 MaxWarmPulses` (spec/08_firing.md). -/
def Obj.HeadThermal.maxWarmPulses (i : Nat) : Nat := 0x438000 + 256 * i + 9
/-- `0x4380 + i:0A WarmEnergy` (spec/08_firing.md). -/
def Obj.HeadThermal.warmEnergy (i : Nat) : Nat := 0x438000 + 256 * i + 10
/-- `0x4380 + i:0B–0E HeatWeight` (spec/08_firing.md). -/
def Obj.HeadThermal.heatWeight (i : Nat) (j : Nat) : Nat := 0x438000 + 256 * i + 11 + j
/-- `0x4380 + i:0F Temperature` (spec/08_firing.md). -/
def Obj.HeadThermal.temperature (i : Nat) : Nat := 0x438000 + 256 * i + 15
/-- `0x4380 + i:10 State` (spec/08_firing.md). -/
def Obj.HeadThermal.state (i : Nat) : Nat := 0x438000 + 256 * i + 16
/-- `0x4380 + i:11 Integrator` (spec/08_firing.md). -/
def Obj.HeadThermal.integrator (i : Nat) : Nat := 0x438000 + 256 * i + 17
/-- `0x4380 + i:12 LastPulseCount` (spec/08_firing.md). -/
def Obj.HeadThermal.lastPulseCount (i : Nat) : Nat := 0x438000 + 256 * i + 18
/-- `0x4380 + i:13 HardEntries` (spec/08_firing.md). -/
def Obj.HeadThermal.hardEntries (i : Nat) : Nat := 0x438000 + 256 * i + 19
/-- `0x4400:01 Mode` (spec/09_nozzle_health.md). -/
def Obj.HealthControl.mode : Nat := 0x440000 + 1
/-- `0x4400:02 ConfirmWindows` (spec/09_nozzle_health.md). -/
def Obj.HealthControl.confirmWindows : Nat := 0x440000 + 2
/-- `0x4400:03 ClearWindows` (spec/09_nozzle_health.md). -/
def Obj.HealthControl.clearWindows : Nat := 0x440000 + 3
/-- `0x4400:04 ProbeHoldoff` (spec/09_nozzle_health.md). -/
def Obj.HealthControl.probeHoldoff : Nat := 0x440000 + 4
/-- `0x4400:05 PendingTimeout` (spec/09_nozzle_health.md). -/
def Obj.HealthControl.pendingTimeout : Nat := 0x440000 + 5
/-- `0x4400:06 Entries` (spec/09_nozzle_health.md). -/
def Obj.HealthControl.entries : Nat := 0x440000 + 6
/-- `0x4400:07 PendingEntries` (spec/09_nozzle_health.md). -/
def Obj.HealthControl.pendingEntries : Nat := 0x440000 + 7
/-- `0x4400:08 OverflowDepth` (spec/09_nozzle_health.md). -/
def Obj.HealthControl.overflowDepth : Nat := 0x440000 + 8
/-- `0x4400:09 OverflowLost` (spec/09_nozzle_health.md). -/
def Obj.HealthControl.overflowLost : Nat := 0x440000 + 9
/-- `0x4400:0A AppliedLine` (spec/09_nozzle_health.md). -/
def Obj.HealthControl.appliedLine : Nat := 0x440000 + 10
/-- `0x4401:00 DefectTable` (spec/09_nozzle_health.md). -/
def Obj.defectTable : Nat := 0x440100
/-- `0x4402:01 DefectWrite` (spec/09_nozzle_health.md). -/
def Obj.DefectEdit.defectWrite : Nat := 0x440200 + 1
/-- `0x4402:02 DefectRemove` (spec/09_nozzle_health.md). -/
def Obj.DefectEdit.defectRemove : Nat := 0x440200 + 2
/-- `0x4402:03 Confirm` (spec/09_nozzle_health.md). -/
def Obj.DefectEdit.confirm : Nat := 0x440200 + 3
/-- `0x4403:00 OverflowQueue` (spec/09_nozzle_health.md). -/
def Obj.overflowQueue : Nat := 0x440300
/-- `0x4408 + i:01 MethodOrder` (spec/09_nozzle_health.md). -/
def Obj.PlaneHealth.methodOrder (i : Nat) : Nat := 0x440800 + 256 * i + 1
/-- `0x4408 + i:02 WeakShare` (spec/09_nozzle_health.md). -/
def Obj.PlaneHealth.weakShare (i : Nat) : Nat := 0x440800 + 256 * i + 2
/-- `0x4408 + i:03 RedistSet` (spec/09_nozzle_health.md). -/
def Obj.PlaneHealth.redistSet (i : Nat) : Nat := 0x440800 + 256 * i + 3
/-- `0x4408 + i:04 WeakPolicy` (spec/09_nozzle_health.md). -/
def Obj.PlaneHealth.weakPolicy (i : Nat) : Nat := 0x440800 + 256 * i + 4
/-- `0x4408 + i:05 CompositeTarget` (spec/09_nozzle_health.md). -/
def Obj.PlaneHealth.compositeTarget (i : Nat) : Nat := 0x440800 + 256 * i + 5
/-- `0x4408 + i:06 CompositeGain` (spec/09_nozzle_health.md). -/
def Obj.PlaneHealth.compositeGain (i : Nat) : Nat := 0x440800 + 256 * i + 6
/-- `0x4408 + i:07 CompositeLineOffset` (spec/09_nozzle_health.md). -/
def Obj.PlaneHealth.compositeLineOffset (i : Nat) : Nat := 0x440800 + 256 * i + 7
/-- `0x4440 + i:01 ResistRef` (spec/09_nozzle_health.md). -/
def Obj.HeadHealth.resistRef (i : Nat) : Nat := 0x444000 + 256 * i + 1
/-- `0x4440 + i:02 OpenLimit` (spec/09_nozzle_health.md). -/
def Obj.HeadHealth.openLimit (i : Nat) : Nat := 0x444000 + 256 * i + 2
/-- `0x4440 + i:03 ShortLimit` (spec/09_nozzle_health.md). -/
def Obj.HeadHealth.shortLimit (i : Nat) : Nat := 0x444000 + 256 * i + 3
/-- `0x4440 + i:04 DriftLimit` (spec/09_nozzle_health.md). -/
def Obj.HeadHealth.driftLimit (i : Nat) : Nat := 0x444000 + 256 * i + 4
/-- `0x4440 + i:05 IdleLines` (spec/09_nozzle_health.md). -/
def Obj.HeadHealth.idleLines (i : Nat) : Nat := 0x444000 + 256 * i + 5
/-- `0x4440 + i:06 MeasureChunk` (spec/09_nozzle_health.md). -/
def Obj.HeadHealth.measureChunk (i : Nat) : Nat := 0x444000 + 256 * i + 6
/-- `0x4440 + i:07 SweepInterval` (spec/09_nozzle_health.md). -/
def Obj.HeadHealth.sweepInterval (i : Nat) : Nat := 0x444000 + 256 * i + 7
/-- `0x4440 + i:08 SweepNow` (spec/09_nozzle_health.md). -/
def Obj.HeadHealth.sweepNow (i : Nat) : Nat := 0x444000 + 256 * i + 8
/-- `0x4440 + i:09 SweepProgress` (spec/09_nozzle_health.md). -/
def Obj.HeadHealth.sweepProgress (i : Nat) : Nat := 0x444000 + 256 * i + 9
/-- `0x4440 + i:0A LastSweepStamp` (spec/09_nozzle_health.md). -/
def Obj.HeadHealth.lastSweepStamp (i : Nat) : Nat := 0x444000 + 256 * i + 10
/-- `0x4440 + i:0B SweepsDone` (spec/09_nozzle_health.md). -/
def Obj.HeadHealth.sweepsDone (i : Nat) : Nat := 0x444000 + 256 * i + 11
/-- `0x4440 + i:0C MeasureAborts` (spec/09_nozzle_health.md). -/
def Obj.HeadHealth.measureAborts (i : Nat) : Nat := 0x444000 + 256 * i + 12
/-- `0x4480 + i:00 ResistanceMap` (spec/09_nozzle_health.md). -/
def Obj.resistanceMap (i : Nat) : Nat := 0x448000 + 256 * i
/-- `0x5000:01 StoreBytes` (spec/05_strips_and_decompression.md). -/
def Obj.StripStore.storeBytes : Nat := 0x500000 + 1
/-- `0x5000:02 StoreFree` (spec/05_strips_and_decompression.md). -/
def Obj.StripStore.storeFree : Nat := 0x500000 + 2
/-- `0x5000:03 StripsHeld` (spec/05_strips_and_decompression.md). -/
def Obj.StripStore.stripsHeld : Nat := 0x500000 + 3
/-- `0x5000:04 Orphans` (spec/05_strips_and_decompression.md). -/
def Obj.StripStore.orphans : Nat := 0x500000 + 4
/-- `0x5000:05 Refused` (spec/05_strips_and_decompression.md). -/
def Obj.StripStore.refused : Nat := 0x500000 + 5
/-- `0x5000:06 FlushJob` (spec/05_strips_and_decompression.md). -/
def Obj.StripStore.flushJob : Nat := 0x500000 + 6
/-- `0x5000:07 FlushOrphans` (spec/05_strips_and_decompression.md). -/
def Obj.StripStore.flushOrphans : Nat := 0x500000 + 7
/-- `0x5008 + i:01 PageAppend` (spec/05_strips_and_decompression.md). -/
def Obj.PageQueue.pageAppend (i : Nat) : Nat := 0x500800 + 256 * i + 1
/-- `0x5008 + i:02 QueueDepth` (spec/05_strips_and_decompression.md). -/
def Obj.PageQueue.queueDepth (i : Nat) : Nat := 0x500800 + 256 * i + 2
/-- `0x5008 + i:03 ActiveJob` (spec/05_strips_and_decompression.md). -/
def Obj.PageQueue.activeJob (i : Nat) : Nat := 0x500800 + 256 * i + 3
/-- `0x5008 + i:04 ActivePage` (spec/05_strips_and_decompression.md). -/
def Obj.PageQueue.activePage (i : Nat) : Nat := 0x500800 + 256 * i + 4
/-- `0x5008 + i:05 ActiveStartLine` (spec/05_strips_and_decompression.md). -/
def Obj.PageQueue.activeStartLine (i : Nat) : Nat := 0x500800 + 256 * i + 5
/-- `0x5008 + i:06 PageAbort` (spec/05_strips_and_decompression.md). -/
def Obj.PageQueue.pageAbort (i : Nat) : Nat := 0x500800 + 256 * i + 6
/-- `0x5008 + i:07 FaultPolicy` (spec/05_strips_and_decompression.md). -/
def Obj.PageQueue.faultPolicy (i : Nat) : Nat := 0x500800 + 256 * i + 7
/-- `0x5008 + i:08 Held` (spec/05_strips_and_decompression.md). -/
def Obj.PageQueue.held (i : Nat) : Nat := 0x500800 + 256 * i + 8
/-- `0x5008 + i:09 Resume` (spec/05_strips_and_decompression.md). -/
def Obj.PageQueue.resume (i : Nat) : Nat := 0x500800 + 256 * i + 9
/-- `0x5008 + i:0A TileFaults` (spec/05_strips_and_decompression.md). -/
def Obj.PageQueue.tileFaults (i : Nat) : Nat := 0x500800 + 256 * i + 10
/-- `0x5008 + i:0B WaitingStrips` (spec/05_strips_and_decompression.md). -/
def Obj.PageQueue.waitingStrips (i : Nat) : Nat := 0x500800 + 256 * i + 11
/-- `0x5100:01 EnginesBusy` (spec/05_strips_and_decompression.md). -/
def Obj.InflateStatus.enginesBusy : Nat := 0x510000 + 1
/-- `0x5100:02 BuffersFree` (spec/05_strips_and_decompression.md). -/
def Obj.InflateStatus.buffersFree : Nat := 0x510000 + 2
/-- `0x5100:03 StripsVerified` (spec/05_strips_and_decompression.md). -/
def Obj.InflateStatus.stripsVerified : Nat := 0x510000 + 3
/-- `0x5100:04 InflateErrors` (spec/05_strips_and_decompression.md). -/
def Obj.InflateStatus.inflateErrors : Nat := 0x510000 + 4
/-- `0x5100:05 CrcErrors` (spec/05_strips_and_decompression.md). -/
def Obj.InflateStatus.crcErrors : Nat := 0x510000 + 5
/-- `0x5108 + i:01 InflateLead` (spec/05_strips_and_decompression.md). -/
def Obj.PlaneInflate.inflateLead (i : Nat) : Nat := 0x510800 + 256 * i + 1
/-- `0x5108 + i:02 EngineMask` (spec/05_strips_and_decompression.md). -/
def Obj.PlaneInflate.engineMask (i : Nat) : Nat := 0x510800 + 256 * i + 2
/-- `0x5110 + i:01 State` (spec/05_strips_and_decompression.md). -/
def Obj.EngineStatus.state (i : Nat) : Nat := 0x511000 + 256 * i + 1
/-- `0x5110 + i:02 Plane` (spec/05_strips_and_decompression.md). -/
def Obj.EngineStatus.plane (i : Nat) : Nat := 0x511000 + 256 * i + 2
/-- `0x5110 + i:03 Job` (spec/05_strips_and_decompression.md). -/
def Obj.EngineStatus.job (i : Nat) : Nat := 0x511000 + 256 * i + 3
/-- `0x5110 + i:04 Page` (spec/05_strips_and_decompression.md). -/
def Obj.EngineStatus.page (i : Nat) : Nat := 0x511000 + 256 * i + 4
/-- `0x5110 + i:05 FirstLine` (spec/05_strips_and_decompression.md). -/
def Obj.EngineStatus.firstLine (i : Nat) : Nat := 0x511000 + 256 * i + 5
/-- `0x5110 + i:06 BytesOut` (spec/05_strips_and_decompression.md). -/
def Obj.EngineStatus.bytesOut (i : Nat) : Nat := 0x511000 + 256 * i + 6
/-- `0x5110 + i:07 Reset` (spec/05_strips_and_decompression.md). -/
def Obj.EngineStatus.reset (i : Nat) : Nat := 0x511000 + 256 * i + 7
/-- `0x5200 + i:01 Mode` (spec/06_screening_and_compensation.md). -/
def Obj.ScreenConfig.mode (i : Nat) : Nat := 0x520000 + 256 * i + 1
/-- `0x5200 + i:02 Levels` (spec/06_screening_and_compensation.md). -/
def Obj.ScreenConfig.levels (i : Nat) : Nat := 0x520000 + 256 * i + 2
/-- `0x5200 + i:03 Matrix` (spec/06_screening_and_compensation.md). -/
def Obj.ScreenConfig.matrix (i : Nat) : Nat := 0x520000 + 256 * i + 3
/-- `0x5200 + i:04 MatrixOffsetX` (spec/06_screening_and_compensation.md). -/
def Obj.ScreenConfig.matrixOffsetX (i : Nat) : Nat := 0x520000 + 256 * i + 4
/-- `0x5200 + i:05 MatrixOffsetY` (spec/06_screening_and_compensation.md). -/
def Obj.ScreenConfig.matrixOffsetY (i : Nat) : Nat := 0x520000 + 256 * i + 5
/-- `0x5200 + i:06 LedWeights` (spec/06_screening_and_compensation.md). -/
def Obj.ScreenConfig.ledWeights (i : Nat) : Nat := 0x520000 + 256 * i + 6
/-- `0x5200 + i:07 Serpentine` (spec/06_screening_and_compensation.md). -/
def Obj.ScreenConfig.serpentine (i : Nat) : Nat := 0x520000 + 256 * i + 7
/-- `0x5208 + i:00 ToneCurve` (spec/06_screening_and_compensation.md). -/
def Obj.toneCurve (i : Nat) : Nat := 0x520800 + 256 * i
/-- `0x5210 + i:01–08 LevelEntry` (spec/06_screening_and_compensation.md). -/
def Obj.DropLevelMap.levelEntry (i : Nat) (j : Nat) : Nat := 0x521000 + 256 * i + 1 + j
/-- `0x5218 + i:01–04 RedistWeights` (spec/06_screening_and_compensation.md). -/
def Obj.Redistribution.redistWeights (i : Nat) (j : Nat) : Nat := 0x521800 + 256 * i + 1 + j
/-- `0x5220 + i:00 ThresholdMatrix` (spec/06_screening_and_compensation.md). -/
def Obj.thresholdMatrix (i : Nat) : Nat := 0x522000 + 256 * i
/-- `0x5228:01 NozzleTable` (spec/06_screening_and_compensation.md). -/
def Obj.NozzleTable.nozzleTable : Nat := 0x522800 + 1
/-- `0x5228:02 NozzleWrite` (spec/06_screening_and_compensation.md). -/
def Obj.NozzleTable.nozzleWrite : Nat := 0x522800 + 2
/-- `0x5228:03–06 WriteLine` (spec/06_screening_and_compensation.md). -/
def Obj.NozzleTable.writeLine (j : Nat) : Nat := 0x522800 + 3 + j
/-- `0x5230 + i:01 LinesScreened` (spec/06_screening_and_compensation.md). -/
def Obj.ScreenStatus.linesScreened (i : Nat) : Nat := 0x523000 + 256 * i + 1
/-- `0x5230 + i:02 CompClamps` (spec/06_screening_and_compensation.md). -/
def Obj.ScreenStatus.compClamps (i : Nat) : Nat := 0x523000 + 256 * i + 2
/-- `0x5230 + i:03 ErrorClamps` (spec/06_screening_and_compensation.md). -/
def Obj.ScreenStatus.errorClamps (i : Nat) : Nat := 0x523000 + 256 * i + 3
/-- `0x5230 + i:04 ErrorResetLine` (spec/06_screening_and_compensation.md). -/
def Obj.ScreenStatus.errorResetLine (i : Nat) : Nat := 0x523000 + 256 * i + 4
/-- `0x5230 + i:05 CompositeLate` (spec/06_screening_and_compensation.md). -/
def Obj.ScreenStatus.compositeLate (i : Nat) : Nat := 0x523000 + 256 * i + 5
/-- `0x6000 + i:01 Enable` (spec/10_cameras_and_pipeline.md). -/
def Obj.CameraPort.enable (i : Nat) : Nat := 0x600000 + 256 * i + 1
/-- `0x6000 + i:02 Lanes` (spec/10_cameras_and_pipeline.md). -/
def Obj.CameraPort.lanes (i : Nat) : Nat := 0x600000 + 256 * i + 2
/-- `0x6000 + i:03 MaxLaneRate` (spec/10_cameras_and_pipeline.md). -/
def Obj.CameraPort.maxLaneRate (i : Nat) : Nat := 0x600000 + 256 * i + 3
/-- `0x6000 + i:04 DataType` (spec/10_cameras_and_pipeline.md). -/
def Obj.CameraPort.dataType (i : Nat) : Nat := 0x600000 + 256 * i + 4
/-- `0x6000 + i:05 ImageVc` (spec/10_cameras_and_pipeline.md). -/
def Obj.CameraPort.imageVc (i : Nat) : Nat := 0x600000 + 256 * i + 5
/-- `0x6000 + i:06 Width` (spec/10_cameras_and_pipeline.md). -/
def Obj.CameraPort.width (i : Nat) : Nat := 0x600000 + 256 * i + 6
/-- `0x6000 + i:07 Height` (spec/10_cameras_and_pipeline.md). -/
def Obj.CameraPort.height (i : Nat) : Nat := 0x600000 + 256 * i + 7
/-- `0x6000 + i:08 FrameTimeout` (spec/10_cameras_and_pipeline.md). -/
def Obj.CameraPort.frameTimeout (i : Nat) : Nat := 0x600000 + 256 * i + 8
/-- `0x6000 + i:09 RingFrames` (spec/10_cameras_and_pipeline.md). -/
def Obj.CameraPort.ringFrames (i : Nat) : Nat := 0x600000 + 256 * i + 9
/-- `0x6000 + i:0A Reset` (spec/10_cameras_and_pipeline.md). -/
def Obj.CameraPort.reset (i : Nat) : Nat := 0x600000 + 256 * i + 10
/-- `0x6000 + i:0B State` (spec/10_cameras_and_pipeline.md). -/
def Obj.CameraPort.state (i : Nat) : Nat := 0x600000 + 256 * i + 11
/-- `0x6008 + i:01 FrameNumber` (spec/10_cameras_and_pipeline.md). -/
def Obj.CameraStatus.frameNumber (i : Nat) : Nat := 0x600800 + 256 * i + 1
/-- `0x6008 + i:02 FramesAccepted` (spec/10_cameras_and_pipeline.md). -/
def Obj.CameraStatus.framesAccepted (i : Nat) : Nat := 0x600800 + 256 * i + 2
/-- `0x6008 + i:03 Untriggered` (spec/10_cameras_and_pipeline.md). -/
def Obj.CameraStatus.untriggered (i : Nat) : Nat := 0x600800 + 256 * i + 3
/-- `0x6008 + i:04 TriggersMissed` (spec/10_cameras_and_pipeline.md). -/
def Obj.CameraStatus.triggersMissed (i : Nat) : Nat := 0x600800 + 256 * i + 4
/-- `0x6008 + i:05 ShortFrames` (spec/10_cameras_and_pipeline.md). -/
def Obj.CameraStatus.shortFrames (i : Nat) : Nat := 0x600800 + 256 * i + 5
/-- `0x6008 + i:06 LongFrames` (spec/10_cameras_and_pipeline.md). -/
def Obj.CameraStatus.longFrames (i : Nat) : Nat := 0x600800 + 256 * i + 6
/-- `0x6008 + i:07 ExcessLines` (spec/10_cameras_and_pipeline.md). -/
def Obj.CameraStatus.excessLines (i : Nat) : Nat := 0x600800 + 256 * i + 7
/-- `0x6008 + i:08 InvalidLines` (spec/10_cameras_and_pipeline.md). -/
def Obj.CameraStatus.invalidLines (i : Nat) : Nat := 0x600800 + 256 * i + 8
/-- `0x6008 + i:09 EccCorrected` (spec/10_cameras_and_pipeline.md). -/
def Obj.CameraStatus.eccCorrected (i : Nat) : Nat := 0x600800 + 256 * i + 9
/-- `0x6008 + i:0A PacketsDiscarded` (spec/10_cameras_and_pipeline.md). -/
def Obj.CameraStatus.packetsDiscarded (i : Nat) : Nat := 0x600800 + 256 * i + 10
/-- `0x6008 + i:0B RingOverruns` (spec/10_cameras_and_pipeline.md). -/
def Obj.CameraStatus.ringOverruns (i : Nat) : Nat := 0x600800 + 256 * i + 11
/-- `0x6008 + i:0C LastStats` (spec/10_cameras_and_pipeline.md). -/
def Obj.CameraStatus.lastStats (i : Nat) : Nat := 0x600800 + 256 * i + 12
/-- `0x6010 + i:01 GenerationWrite` (spec/10_cameras_and_pipeline.md). -/
def Obj.SensorControl.generationWrite (i : Nat) : Nat := 0x601000 + 256 * i + 1
/-- `0x6010 + i:02 SensorDelay` (spec/10_cameras_and_pipeline.md). -/
def Obj.SensorControl.sensorDelay (i : Nat) : Nat := 0x601000 + 256 * i + 2
/-- `0x6010 + i:03 GenerationQueued` (spec/10_cameras_and_pipeline.md). -/
def Obj.SensorControl.generationQueued (i : Nat) : Nat := 0x601000 + 256 * i + 3
/-- `0x6010 + i:04 GenerationDone` (spec/10_cameras_and_pipeline.md). -/
def Obj.SensorControl.generationDone (i : Nat) : Nat := 0x601000 + 256 * i + 4
/-- `0x6010 + i:05 GenerationFailed` (spec/10_cameras_and_pipeline.md). -/
def Obj.SensorControl.generationFailed (i : Nat) : Nat := 0x601000 + 256 * i + 5
/-- `0x6010 + i:06 Readback` (spec/10_cameras_and_pipeline.md). -/
def Obj.SensorControl.readback (i : Nat) : Nat := 0x601000 + 256 * i + 6
/-- `0x6010 + i:07 I2cRate` (spec/10_cameras_and_pipeline.md). -/
def Obj.SensorControl.i2cRate (i : Nat) : Nat := 0x601000 + 256 * i + 7
/-- `0x6010 + i:08 I2cTimeout` (spec/10_cameras_and_pipeline.md). -/
def Obj.SensorControl.i2cTimeout (i : Nat) : Nat := 0x601000 + 256 * i + 8
/-- `0x6018 + i:01 TrigPolarity` (spec/10_cameras_and_pipeline.md). -/
def Obj.TriggerConfig.trigPolarity (i : Nat) : Nat := 0x601800 + 256 * i + 1
/-- `0x6018 + i:02 TrigWidth` (spec/10_cameras_and_pipeline.md). -/
def Obj.TriggerConfig.trigWidth (i : Nat) : Nat := 0x601800 + 256 * i + 2
/-- `0x6018 + i:03 WindowMin` (spec/10_cameras_and_pipeline.md). -/
def Obj.TriggerConfig.windowMin (i : Nat) : Nat := 0x601800 + 256 * i + 3
/-- `0x6018 + i:04 WindowMax` (spec/10_cameras_and_pipeline.md). -/
def Obj.TriggerConfig.windowMax (i : Nat) : Nat := 0x601800 + 256 * i + 4
/-- `0x6018 + i:05 TrigDelayed` (spec/10_cameras_and_pipeline.md). -/
def Obj.TriggerConfig.trigDelayed (i : Nat) : Nat := 0x601800 + 256 * i + 5
/-- `0x6020:01 InLineCamera` (spec/10_cameras_and_pipeline.md). -/
def Obj.CameraSelect.inLineCamera : Nat := 0x602000 + 1
/-- `0x6020:02 BacklogFrames` (spec/10_cameras_and_pipeline.md). -/
def Obj.CameraSelect.backlogFrames : Nat := 0x602000 + 2
/-- `0x6100 + i:01 CfaPattern` (spec/10_cameras_and_pipeline.md). -/
def Obj.PipelineConfig.cfaPattern (i : Nat) : Nat := 0x610000 + 256 * i + 1
/-- `0x6100 + i:02–05 BlackLevel` (spec/10_cameras_and_pipeline.md). -/
def Obj.PipelineConfig.blackLevel (i : Nat) (j : Nat) : Nat := 0x610000 + 256 * i + 2 + j
/-- `0x6100 + i:06 U0` (spec/10_cameras_and_pipeline.md). -/
def Obj.PipelineConfig.u0 (i : Nat) : Nat := 0x610000 + 256 * i + 6
/-- `0x6100 + i:07 Step` (spec/10_cameras_and_pipeline.md). -/
def Obj.PipelineConfig.step (i : Nat) : Nat := 0x610000 + 256 * i + 7
/-- `0x6100 + i:08 CoverStart` (spec/10_cameras_and_pipeline.md). -/
def Obj.PipelineConfig.coverStart (i : Nat) : Nat := 0x610000 + 256 * i + 8
/-- `0x6100 + i:09 CoverEnd` (spec/10_cameras_and_pipeline.md). -/
def Obj.PipelineConfig.coverEnd (i : Nat) : Nat := 0x610000 + 256 * i + 9
/-- `0x6100 + i:0A RowOrigin` (spec/10_cameras_and_pipeline.md). -/
def Obj.PipelineConfig.rowOrigin (i : Nat) : Nat := 0x610000 + 256 * i + 10
/-- `0x6100 + i:0B RowPitch` (spec/10_cameras_and_pipeline.md). -/
def Obj.PipelineConfig.rowPitch (i : Nat) : Nat := 0x610000 + 256 * i + 11
/-- `0x6108 + i:00 DefectPixels` (spec/10_cameras_and_pipeline.md). -/
def Obj.defectPixels (i : Nat) : Nat := 0x610800 + 256 * i
/-- `0x6110 + i:00 FlatField` (spec/10_cameras_and_pipeline.md). -/
def Obj.flatField (i : Nat) : Nat := 0x611000 + 256 * i
/-- `0x6118 + i:00 DensityLut` (spec/10_cameras_and_pipeline.md). -/
def Obj.densityLut (i : Nat) : Nat := 0x611800 + 256 * i
/-- `0x6120 + i:00 ColourMatrix` (spec/10_cameras_and_pipeline.md). -/
def Obj.colourMatrix (i : Nat) : Nat := 0x612000 + 256 * i
/-- `0x6128 + i:01 PreviewScale` (spec/10_cameras_and_pipeline.md). -/
def Obj.Outputs.previewScale (i : Nat) : Nat := 0x612800 + 256 * i + 1
/-- `0x6128 + i:02 PreviewEvery` (spec/10_cameras_and_pipeline.md). -/
def Obj.Outputs.previewEvery (i : Nat) : Nat := 0x612800 + 256 * i + 2
/-- `0x6128 + i:03 CodeMode` (spec/10_cameras_and_pipeline.md). -/
def Obj.Outputs.codeMode (i : Nat) : Nat := 0x612800 + 256 * i + 3
/-- `0x6128 + i:04 CodeSource` (spec/10_cameras_and_pipeline.md). -/
def Obj.Outputs.codeSource (i : Nat) : Nat := 0x612800 + 256 * i + 4
/-- `0x6128 + i:05 CodeEvery` (spec/10_cameras_and_pipeline.md). -/
def Obj.Outputs.codeEvery (i : Nat) : Nat := 0x612800 + 256 * i + 5
/-- `0x6128 + i:06 CodeChannels` (spec/10_cameras_and_pipeline.md). -/
def Obj.Outputs.codeChannels (i : Nat) : Nat := 0x612800 + 256 * i + 6
/-- `0x6128 + i:07 CodeSkipped` (spec/10_cameras_and_pipeline.md). -/
def Obj.Outputs.codeSkipped (i : Nat) : Nat := 0x612800 + 256 * i + 7
/-- `0x6128 + i:08 PreviewDropped` (spec/10_cameras_and_pipeline.md). -/
def Obj.Outputs.previewDropped (i : Nat) : Nat := 0x612800 + 256 * i + 8
/-- `0x6130 + i:00 PreviewLut` (spec/10_cameras_and_pipeline.md). -/
def Obj.previewLut (i : Nat) : Nat := 0x613000 + 256 * i
/-- `0x6200:01 PlaneMask` (spec/11_inspection_analysis.md). -/
def Obj.AnalysisControl.planeMask : Nat := 0x620000 + 1
/-- `0x6200:02 RenderActive` (spec/11_inspection_analysis.md). -/
def Obj.AnalysisControl.renderActive : Nat := 0x620000 + 2
/-- `0x6200:03 WindowLines` (spec/11_inspection_analysis.md). -/
def Obj.AnalysisControl.windowLines : Nat := 0x620000 + 3
/-- `0x6200:04 MinEvidence` (spec/11_inspection_analysis.md). -/
def Obj.AnalysisControl.minEvidence : Nat := 0x620000 + 4
/-- `0x6200:05 TileSize` (spec/11_inspection_analysis.md). -/
def Obj.AnalysisControl.tileSize : Nat := 0x620000 + 5
/-- `0x6200:06 TileLimit` (spec/11_inspection_analysis.md). -/
def Obj.AnalysisControl.tileLimit : Nat := 0x620000 + 6
/-- `0x6200:07 RenderSlack` (spec/11_inspection_analysis.md). -/
def Obj.AnalysisControl.renderSlack : Nat := 0x620000 + 7
/-- `0x6200:08 LateRows` (spec/11_inspection_analysis.md). -/
def Obj.AnalysisControl.lateRows : Nat := 0x620000 + 8
/-- `0x6200:09 RenderOverruns` (spec/11_inspection_analysis.md). -/
def Obj.AnalysisControl.renderOverruns : Nat := 0x620000 + 9
/-- `0x6208 + i:01–04 CameraOffset` (spec/11_inspection_analysis.md). -/
def Obj.CameraOffset.cameraOffset (i : Nat) (j : Nat) : Nat := 0x620800 + 256 * i + 1 + j
/-- `0x6210 + i:01 ColumnOrigin` (spec/11_inspection_analysis.md). -/
def Obj.PlaneRender.columnOrigin (i : Nat) : Nat := 0x621000 + 256 * i + 1
/-- `0x6210 + i:02 ColumnsPerInsp` (spec/11_inspection_analysis.md). -/
def Obj.PlaneRender.columnsPerInsp (i : Nat) : Nat := 0x621000 + 256 * i + 2
/-- `0x6210 + i:03 DensityOfCode` (spec/11_inspection_analysis.md). -/
def Obj.PlaneRender.densityOfCode (i : Nat) : Nat := 0x621000 + 256 * i + 3
/-- `0x6210 + i:04 Kernel` (spec/11_inspection_analysis.md). -/
def Obj.PlaneRender.kernel (i : Nat) : Nat := 0x621000 + 256 * i + 4
/-- `0x6210 + i:05 WindowIndex` (spec/11_inspection_analysis.md). -/
def Obj.PlaneRender.windowIndex (i : Nat) : Nat := 0x621000 + 256 * i + 5
/-- `0x6210 + i:06 ColumnStats` (spec/11_inspection_analysis.md). -/
def Obj.PlaneRender.columnStats (i : Nat) : Nat := 0x621000 + 256 * i + 6
/-- `0x6218 + i:01 MissingLevel` (spec/11_inspection_analysis.md). -/
def Obj.StreakConfig.missingLevel (i : Nat) : Nat := 0x621800 + 256 * i + 1
/-- `0x6218 + i:02 DeviatedLevel` (spec/11_inspection_analysis.md). -/
def Obj.StreakConfig.deviatedLevel (i : Nat) : Nat := 0x621800 + 256 * i + 2
/-- `0x6218 + i:03 TieMargin` (spec/11_inspection_analysis.md). -/
def Obj.StreakConfig.tieMargin (i : Nat) : Nat := 0x621800 + 256 * i + 3
/-- `0x6218 + i:04 MaxFindings` (spec/11_inspection_analysis.md). -/
def Obj.StreakConfig.maxFindings (i : Nat) : Nat := 0x621800 + 256 * i + 4
/-- `0x6218 + i:05 StormLimit` (spec/11_inspection_analysis.md). -/
def Obj.StreakConfig.stormLimit (i : Nat) : Nat := 0x621800 + 256 * i + 5
/-- `0x6218 + i:06 FindingsReported` (spec/11_inspection_analysis.md). -/
def Obj.StreakConfig.findingsReported (i : Nat) : Nat := 0x621800 + 256 * i + 6
/-- `0x6218 + i:07 FindingsCapped` (spec/11_inspection_analysis.md). -/
def Obj.StreakConfig.findingsCapped (i : Nat) : Nat := 0x621800 + 256 * i + 7
/-- `0x6218 + i:08 ImplausibleWindows` (spec/11_inspection_analysis.md). -/
def Obj.StreakConfig.implausibleWindows (i : Nat) : Nat := 0x621800 + 256 * i + 8
/-- `0x6220 + i:01 RefPlane` (spec/11_inspection_analysis.md). -/
def Obj.RegistrationLoop.refPlane (i : Nat) : Nat := 0x622000 + 256 * i + 1
/-- `0x6220 + i:02 AlongMode` (spec/11_inspection_analysis.md). -/
def Obj.RegistrationLoop.alongMode (i : Nat) : Nat := 0x622000 + 256 * i + 2
/-- `0x6220 + i:03 AcrossMode` (spec/11_inspection_analysis.md). -/
def Obj.RegistrationLoop.acrossMode (i : Nat) : Nat := 0x622000 + 256 * i + 3
/-- `0x6220 + i:04 SearchRange` (spec/11_inspection_analysis.md). -/
def Obj.RegistrationLoop.searchRange (i : Nat) : Nat := 0x622000 + 256 * i + 4
/-- `0x6220 + i:05 MinSharpness` (spec/11_inspection_analysis.md). -/
def Obj.RegistrationLoop.minSharpness (i : Nat) : Nat := 0x622000 + 256 * i + 5
/-- `0x6220 + i:06 RegStart` (spec/11_inspection_analysis.md). -/
def Obj.RegistrationLoop.regStart (i : Nat) : Nat := 0x622000 + 256 * i + 6
/-- `0x6220 + i:07 RegEnd` (spec/11_inspection_analysis.md). -/
def Obj.RegistrationLoop.regEnd (i : Nat) : Nat := 0x622000 + 256 * i + 7
/-- `0x6220 + i:08 AlongGain` (spec/11_inspection_analysis.md). -/
def Obj.RegistrationLoop.alongGain (i : Nat) : Nat := 0x622000 + 256 * i + 8
/-- `0x6220 + i:09 AlongDeadBand` (spec/11_inspection_analysis.md). -/
def Obj.RegistrationLoop.alongDeadBand (i : Nat) : Nat := 0x622000 + 256 * i + 9
/-- `0x6220 + i:0A AlongSlew` (spec/11_inspection_analysis.md). -/
def Obj.RegistrationLoop.alongSlew (i : Nat) : Nat := 0x622000 + 256 * i + 10
/-- `0x6220 + i:0B AlongMin` (spec/11_inspection_analysis.md). -/
def Obj.RegistrationLoop.alongMin (i : Nat) : Nat := 0x622000 + 256 * i + 11
/-- `0x6220 + i:0C AlongMax` (spec/11_inspection_analysis.md). -/
def Obj.RegistrationLoop.alongMax (i : Nat) : Nat := 0x622000 + 256 * i + 12
/-- `0x6220 + i:0D AcrossGain` (spec/11_inspection_analysis.md). -/
def Obj.RegistrationLoop.acrossGain (i : Nat) : Nat := 0x622000 + 256 * i + 13
/-- `0x6220 + i:0E AcrossDeadBand` (spec/11_inspection_analysis.md). -/
def Obj.RegistrationLoop.acrossDeadBand (i : Nat) : Nat := 0x622000 + 256 * i + 14
/-- `0x6220 + i:0F AcrossSlew` (spec/11_inspection_analysis.md). -/
def Obj.RegistrationLoop.acrossSlew (i : Nat) : Nat := 0x622000 + 256 * i + 15
/-- `0x6220 + i:10 AcrossMin` (spec/11_inspection_analysis.md). -/
def Obj.RegistrationLoop.acrossMin (i : Nat) : Nat := 0x622000 + 256 * i + 16
/-- `0x6220 + i:11 AcrossMax` (spec/11_inspection_analysis.md). -/
def Obj.RegistrationLoop.acrossMax (i : Nat) : Nat := 0x622000 + 256 * i + 17
/-- `0x6220 + i:12 LastAlongError` (spec/11_inspection_analysis.md). -/
def Obj.RegistrationLoop.lastAlongError (i : Nat) : Nat := 0x622000 + 256 * i + 18
/-- `0x6220 + i:13 LastAcrossError` (spec/11_inspection_analysis.md). -/
def Obj.RegistrationLoop.lastAcrossError (i : Nat) : Nat := 0x622000 + 256 * i + 19
/-- `0x6220 + i:14 StaleEstimates` (spec/11_inspection_analysis.md). -/
def Obj.RegistrationLoop.staleEstimates (i : Nat) : Nat := 0x622000 + 256 * i + 20
/-- `0x6220 + i:15 NoEstimate` (spec/11_inspection_analysis.md). -/
def Obj.RegistrationLoop.noEstimate (i : Nat) : Nat := 0x622000 + 256 * i + 21
/-- `0x6220 + i:16 BoundHits` (spec/11_inspection_analysis.md). -/
def Obj.RegistrationLoop.boundHits (i : Nat) : Nat := 0x622000 + 256 * i + 22
/-- `0x7000:01 Ranks` (spec/12_dram.md). -/
def Obj.DramConfig.ranks : Nat := 0x700000 + 1
/-- `0x7000:02 Density` (spec/12_dram.md). -/
def Obj.DramConfig.density : Nat := 0x700000 + 2
/-- `0x7000:03 DataRate` (spec/12_dram.md). -/
def Obj.DramConfig.dataRate : Nat := 0x700000 + 3
/-- `0x7000:04 ChannelBytes` (spec/12_dram.md). -/
def Obj.DramConfig.channelBytes : Nat := 0x700000 + 4
/-- `0x7000:05 TrainTime` (spec/12_dram.md). -/
def Obj.DramConfig.trainTime : Nat := 0x700000 + 5
/-- `0x7001:01 PostponeBelow` (spec/12_dram.md). -/
def Obj.DramPolicy.postponeBelow : Nat := 0x700100 + 1
/-- `0x7001:02 TempPoll` (spec/12_dram.md). -/
def Obj.DramPolicy.tempPoll : Nat := 0x700100 + 2
/-- `0x7001:03 HammerThreshold` (spec/12_dram.md). -/
def Obj.DramPolicy.hammerThreshold : Nat := 0x700100 + 3
/-- `0x7001:04 HammerReach` (spec/12_dram.md). -/
def Obj.DramPolicy.hammerReach : Nat := 0x700100 + 4
/-- `0x7001:05 MinEyeWidth` (spec/12_dram.md). -/
def Obj.DramPolicy.minEyeWidth : Nat := 0x700100 + 5
/-- `0x7001:06 UeLimit` (spec/12_dram.md). -/
def Obj.DramPolicy.ueLimit : Nat := 0x700100 + 6
/-- `0x7008 + i:01 State` (spec/12_dram.md). -/
def Obj.DramStatus.state (i : Nat) : Nat := 0x700800 + 256 * i + 1
/-- `0x7008 + i:02 Hot` (spec/12_dram.md). -/
def Obj.DramStatus.hot (i : Nat) : Nat := 0x700800 + 256 * i + 2
/-- `0x7008 + i:03 RefreshInterval` (spec/12_dram.md). -/
def Obj.DramStatus.refreshInterval (i : Nat) : Nat := 0x700800 + 256 * i + 3
/-- `0x7008 + i:04 Owed` (spec/12_dram.md). -/
def Obj.DramStatus.owed (i : Nat) : Nat := 0x700800 + 256 * i + 4
/-- `0x7008 + i:05 Refreshes` (spec/12_dram.md). -/
def Obj.DramStatus.refreshes (i : Nat) : Nat := 0x700800 + 256 * i + 5
/-- `0x7008 + i:06 Postponed` (spec/12_dram.md). -/
def Obj.DramStatus.postponed (i : Nat) : Nat := 0x700800 + 256 * i + 6
/-- `0x7008 + i:07 CatchUps` (spec/12_dram.md). -/
def Obj.DramStatus.catchUps (i : Nat) : Nat := 0x700800 + 256 * i + 7
/-- `0x7008 + i:08 Correctable` (spec/12_dram.md). -/
def Obj.DramStatus.correctable (i : Nat) : Nat := 0x700800 + 256 * i + 8
/-- `0x7008 + i:09 Uncorrectable` (spec/12_dram.md). -/
def Obj.DramStatus.uncorrectable (i : Nat) : Nat := 0x700800 + 256 * i + 9
/-- `0x7008 + i:0A LastErrorAddress` (spec/12_dram.md). -/
def Obj.DramStatus.lastErrorAddress (i : Nat) : Nat := 0x700800 + 256 * i + 10
/-- `0x7008 + i:0B EyeMap` (spec/12_dram.md). -/
def Obj.DramStatus.eyeMap (i : Nat) : Nat := 0x700800 + 256 * i + 11
/-- `0x7008 + i:0C Retrains` (spec/12_dram.md). -/
def Obj.DramStatus.retrains (i : Nat) : Nat := 0x700800 + 256 * i + 12
/-- `0x7008 + i:0D RetrainStamp` (spec/12_dram.md). -/
def Obj.DramStatus.retrainStamp (i : Nat) : Nat := 0x700800 + 256 * i + 13
/-- `0x7008 + i:0E HammerRefreshes` (spec/12_dram.md). -/
def Obj.DramStatus.hammerRefreshes (i : Nat) : Nat := 0x700800 + 256 * i + 14
/-- `0x7010:01 StripStoreSize` (spec/12_dram.md). -/
def Obj.RegionMap.stripStoreSize : Nat := 0x701000 + 1
/-- `0x7010:02 CameraRingSize` (spec/12_dram.md). -/
def Obj.RegionMap.cameraRingSize : Nat := 0x701000 + 2
/-- `0x7010:03 PreviewRingSize` (spec/12_dram.md). -/
def Obj.RegionMap.previewRingSize : Nat := 0x701000 + 3
/-- `0x7010:04 ArchiveSize` (spec/12_dram.md). -/
def Obj.RegionMap.archiveSize : Nat := 0x701000 + 4
/-- `0x7010:05 TrestleSize` (spec/12_dram.md). -/
def Obj.RegionMap.trestleSize : Nat := 0x701000 + 5
/-- `0x7010:06 RegionTable` (spec/12_dram.md). -/
def Obj.RegionMap.regionTable : Nat := 0x701000 + 6
/-- `0x7100:01 ResumeTimeout` (spec/13_compression.md). -/
def Obj.CompressionControl.resumeTimeout : Nat := 0x710000 + 1
/-- `0x7100:02 ArchiveBlocks` (spec/13_compression.md). -/
def Obj.CompressionControl.archiveBlocks : Nat := 0x710000 + 2
/-- `0x7100:03 ArchiveBlocksFree` (spec/13_compression.md). -/
def Obj.CompressionControl.archiveBlocksFree : Nat := 0x710000 + 3
/-- `0x7100:04 Resume` (spec/13_compression.md). -/
def Obj.CompressionControl.resume : Nat := 0x710000 + 4
/-- `0x7100:05 Cancel` (spec/13_compression.md). -/
def Obj.CompressionControl.cancel : Nat := 0x710000 + 5
/-- `0x7100:06 VerifyFailures` (spec/13_compression.md). -/
def Obj.CompressionControl.verifyFailures : Nat := 0x710000 + 6
/-- `0x7110 + i:01 Submit` (spec/13_compression.md). -/
def Obj.Channel.submit (i : Nat) : Nat := 0x711000 + 256 * i + 1
/-- `0x7110 + i:02 Reset` (spec/13_compression.md). -/
def Obj.Channel.reset (i : Nat) : Nat := 0x711000 + 256 * i + 2
/-- `0x7110 + i:03 State` (spec/13_compression.md). -/
def Obj.Channel.state (i : Nat) : Nat := 0x711000 + 256 * i + 3
/-- `0x7110 + i:04 QueueDepth` (spec/13_compression.md). -/
def Obj.Channel.queueDepth (i : Nat) : Nat := 0x711000 + 256 * i + 4
/-- `0x7110 + i:05 CurrentJob` (spec/13_compression.md). -/
def Obj.Channel.currentJob (i : Nat) : Nat := 0x711000 + 256 * i + 5
/-- `0x7110 + i:06 JobsDone` (spec/13_compression.md). -/
def Obj.Channel.jobsDone (i : Nat) : Nat := 0x711000 + 256 * i + 6
/-- `0x7110 + i:07 BytesIn` (spec/13_compression.md). -/
def Obj.Channel.bytesIn (i : Nat) : Nat := 0x711000 + 256 * i + 7
/-- `0x7110 + i:08 BytesOut` (spec/13_compression.md). -/
def Obj.Channel.bytesOut (i : Nat) : Nat := 0x711000 + 256 * i + 8
/-- `0x7110 + i:09 StoredBlocks` (spec/13_compression.md). -/
def Obj.Channel.storedBlocks (i : Nat) : Nat := 0x711000 + 256 * i + 9
/-- `0x7110 + i:0A Failures` (spec/13_compression.md). -/
def Obj.Channel.failures (i : Nat) : Nat := 0x711000 + 256 * i + 10
/-- `0x7110 + i:0B LastCompletion` (spec/13_compression.md). -/
def Obj.Channel.lastCompletion (i : Nat) : Nat := 0x711000 + 256 * i + 11
/-- `0x8000:01 DuplexMode` (spec/21_duplex.md). -/
def Obj.DuplexControl.duplexMode : Nat := 0x800000 + 1
/-- `0x8000:02 PairSide` (spec/21_duplex.md). -/
def Obj.DuplexControl.pairSide : Nat := 0x800000 + 2
/-- `0x8000:03 AloneStart` (spec/21_duplex.md). -/
def Obj.DuplexControl.aloneStart : Nat := 0x800000 + 3
/-- `0x8000:04 PairTimeout` (spec/21_duplex.md). -/
def Obj.DuplexControl.pairTimeout : Nat := 0x800000 + 4
/-- `0x8000:05 FaultedPierLimit` (spec/21_duplex.md). -/
def Obj.DuplexControl.faultedPierLimit : Nat := 0x800000 + 5
/-- `0x8000:06 SwitchOver` (spec/21_duplex.md). -/
def Obj.DuplexControl.switchOver : Nat := 0x800000 + 6
/-- `0x8000:07 ForceActive` (spec/21_duplex.md). -/
def Obj.DuplexControl.forceActive : Nat := 0x800000 + 7
/-- `0x8001:01 Role` (spec/21_duplex.md). -/
def Obj.DuplexStatus.role : Nat := 0x800100 + 1
/-- `0x8001:02 Synced` (spec/21_duplex.md). -/
def Obj.DuplexStatus.synced : Nat := 0x800100 + 2
/-- `0x8001:03 PeerRole` (spec/21_duplex.md). -/
def Obj.DuplexStatus.peerRole : Nat := 0x800100 + 3
/-- `0x8001:04 PeerSynced` (spec/21_duplex.md). -/
def Obj.DuplexStatus.peerSynced : Nat := 0x800100 + 4
/-- `0x8001:05 Epoch` (spec/21_duplex.md). -/
def Obj.DuplexStatus.epoch : Nat := 0x800100 + 5
/-- `0x8001:06 LastCause` (spec/21_duplex.md). -/
def Obj.DuplexStatus.lastCause : Nat := 0x800100 + 6
/-- `0x8001:07 Switchovers` (spec/21_duplex.md). -/
def Obj.DuplexStatus.switchovers : Nat := 0x800100 + 7
/-- `0x8001:08 SilentTakeovers` (spec/21_duplex.md). -/
def Obj.DuplexStatus.silentTakeovers : Nat := 0x800100 + 8
/-- `0x8001:09 Backlog` (spec/21_duplex.md). -/
def Obj.DuplexStatus.backlog : Nat := 0x800100 + 9
/-- `0x8001:0A RecordsMissed` (spec/21_duplex.md). -/
def Obj.DuplexStatus.recordsMissed : Nat := 0x800100 + 10
/-- `0x8001:0B CountOffset` (spec/21_duplex.md). -/
def Obj.DuplexStatus.countOffset : Nat := 0x800100 + 11
/-- `0x8001:0C StayLatency` (spec/21_duplex.md). -/
def Obj.DuplexStatus.stayLatency : Nat := 0x800100 + 12
/-- `0x8001:0D LastGap` (spec/21_duplex.md). -/
def Obj.DuplexStatus.lastGap : Nat := 0x800100 + 13
/-- `0x8008 + i:01 State` (spec/21_duplex.md). -/
def Obj.StayLane.state (i : Nat) : Nat := 0x800800 + 256 * i + 1
/-- `0x8008 + i:02 CellErrors` (spec/21_duplex.md). -/
def Obj.StayLane.cellErrors (i : Nat) : Nat := 0x800800 + 256 * i + 2
/-- `0x8008 + i:03 LockLosses` (spec/21_duplex.md). -/
def Obj.StayLane.lockLosses (i : Nat) : Nat := 0x800800 + 256 * i + 3
/-- `0x8008 + i:04 IdleInserted` (spec/21_duplex.md). -/
def Obj.StayLane.idleInserted (i : Nat) : Nat := 0x800800 + 256 * i + 4
/-- `0x8008 + i:05 IdleDeleted` (spec/21_duplex.md). -/
def Obj.StayLane.idleDeleted (i : Nat) : Nat := 0x800800 + 256 * i + 5
/-- `0x9000:01 Lifecycle` (spec/22_security_and_debug.md). -/
def Obj.Security.lifecycle : Nat := 0x900000 + 1
/-- `0x9000:02 LifecycleAdvance` (spec/22_security_and_debug.md). -/
def Obj.Security.lifecycleAdvance : Nat := 0x900000 + 2
/-- `0x9000:03 OwnerKeyHash` (spec/22_security_and_debug.md). -/
def Obj.Security.ownerKeyHash : Nat := 0x900000 + 3
/-- `0x9000:04 RootKeyHash` (spec/22_security_and_debug.md). -/
def Obj.Security.rootKeyHash : Nat := 0x900000 + 4
/-- `0x9000:05 DeviceKey` (spec/22_security_and_debug.md). -/
def Obj.Security.deviceKey : Nat := 0x900000 + 5
/-- `0x9000:06 DeviceCertificate` (spec/22_security_and_debug.md). -/
def Obj.Security.deviceCertificate : Nat := 0x900000 + 6
/-- `0x9000:07 RollbackHost` (spec/22_security_and_debug.md). -/
def Obj.Security.rollbackHost : Nat := 0x900000 + 7
/-- `0x9000:08 RollbackField` (spec/22_security_and_debug.md). -/
def Obj.Security.rollbackField : Nat := 0x900000 + 8
/-- `0x9000:09 RollbackCommit` (spec/22_security_and_debug.md). -/
def Obj.Security.rollbackCommit : Nat := 0x900000 + 9
/-- `0x9000:0A CredentialFloorVendor` (spec/22_security_and_debug.md). -/
def Obj.Security.credentialFloorVendor : Nat := 0x900000 + 10
/-- `0x9000:0B CredentialFloorOwner` (spec/22_security_and_debug.md). -/
def Obj.Security.credentialFloorOwner : Nat := 0x900000 + 11
/-- `0x9000:0C ObserverOpen` (spec/22_security_and_debug.md). -/
def Obj.Security.observerOpen : Nat := 0x900000 + 12
/-- `0x9000:0D TimeTrusted` (spec/22_security_and_debug.md). -/
def Obj.Security.timeTrusted : Nat := 0x900000 + 13
/-- `0x9000:0E JtagIdcode` (spec/22_security_and_debug.md). -/
def Obj.Security.jtagIdcode : Nat := 0x900000 + 14
/-- `0x9008:01 Level` (spec/22_security_and_debug.md). -/
def Obj.Debug.level : Nat := 0x900800 + 1
/-- `0x9008:02 Holder` (spec/22_security_and_debug.md). -/
def Obj.Debug.holder : Nat := 0x900800 + 2
/-- `0x9008:03 HolderSession` (spec/22_security_and_debug.md). -/
def Obj.Debug.holderSession : Nat := 0x900800 + 3
/-- `0x9008:04 DebugChallenge` (spec/22_security_and_debug.md). -/
def Obj.Debug.debugChallenge : Nat := 0x900800 + 4
/-- `0x9008:05 DebugResponse` (spec/22_security_and_debug.md). -/
def Obj.Debug.debugResponse : Nat := 0x900800 + 5
/-- `0x9008:06 DebugLock` (spec/22_security_and_debug.md). -/
def Obj.Debug.debugLock : Nat := 0x900800 + 6
/-- `0x9008:07 FailedUnlocks` (spec/22_security_and_debug.md). -/
def Obj.Debug.failedUnlocks : Nat := 0x900800 + 7
/-- `0x9008:08 GrantRemaining` (spec/22_security_and_debug.md). -/
def Obj.Debug.grantRemaining : Nat := 0x900800 + 8
/-- `0x9010 + i:01 Image` (spec/22_security_and_debug.md). -/
def Obj.FirmwareSlot.image (i : Nat) : Nat := 0x901000 + 256 * i + 1
/-- `0x9010 + i:02 State` (spec/22_security_and_debug.md). -/
def Obj.FirmwareSlot.state (i : Nat) : Nat := 0x901000 + 256 * i + 2
/-- `0x9010 + i:03 SecurityVersion` (spec/22_security_and_debug.md). -/
def Obj.FirmwareSlot.securityVersion (i : Nat) : Nat := 0x901000 + 256 * i + 3
/-- `0x9010 + i:04 BuildNumber` (spec/22_security_and_debug.md). -/
def Obj.FirmwareSlot.buildNumber (i : Nat) : Nat := 0x901000 + 256 * i + 4
/-- `0x9010 + i:05 InUse` (spec/22_security_and_debug.md). -/
def Obj.FirmwareSlot.inUse (i : Nat) : Nat := 0x901000 + 256 * i + 5
/-- `0xA000:01 LogInfo` (spec/23_faults.md). -/
def Obj.FaultControl.logInfo : Nat := 0xA00000 + 1
/-- `0xA000:02 QuietTime` (spec/23_faults.md). -/
def Obj.FaultControl.quietTime : Nat := 0xA00000 + 2
/-- `0xA000:03 EscalationCeiling` (spec/23_faults.md). -/
def Obj.FaultControl.escalationCeiling : Nat := 0xA00000 + 3
/-- `0xA000:04 HandlerTimeout` (spec/23_faults.md). -/
def Obj.FaultControl.handlerTimeout : Nat := 0xA00000 + 4
/-- `0xA000:05 FaultNMask` (spec/23_faults.md). -/
def Obj.FaultControl.faultNMask : Nat := 0xA00000 + 5
/-- `0xA000:06 FaultAck` (spec/23_faults.md). -/
def Obj.FaultControl.faultAck : Nat := 0xA00000 + 6
/-- `0xA000:07 FaultNState` (spec/23_faults.md). -/
def Obj.FaultControl.faultNState : Nat := 0xA00000 + 7
/-- `0xA000:08 OverrunLatched` (spec/23_faults.md). -/
def Obj.FaultControl.overrunLatched : Nat := 0xA00000 + 8
/-- `0xA000:09 PowerCycleRequest` (spec/23_faults.md). -/
def Obj.FaultControl.powerCycleRequest : Nat := 0xA00000 + 9
/-- `0xA000:0A LogClear` (spec/23_faults.md). -/
def Obj.FaultControl.logClear : Nat := 0xA00000 + 10
/-- `0xA000:0B Overruns` (spec/23_faults.md). -/
def Obj.FaultControl.overruns : Nat := 0xA00000 + 11
/-- `0xA001:00 HostLog` (spec/23_faults.md). -/
def Obj.hostLog : Nat := 0xA00100
/-- `0xA002:00 FieldLog` (spec/23_faults.md). -/
def Obj.fieldLog : Nat := 0xA00200
/-- `0xA003:00 FieldMirror` (spec/23_faults.md). -/
def Obj.fieldMirror : Nat := 0xA00300
/-- `0xA008:01 HostEntries` (spec/23_faults.md). -/
def Obj.HostLogStatus.hostEntries : Nat := 0xA00800 + 1
/-- `0xA008:02 HostOverwritten` (spec/23_faults.md). -/
def Obj.HostLogStatus.hostOverwritten : Nat := 0xA00800 + 2
/-- `0xA008:03 HostEntriesLost` (spec/23_faults.md). -/
def Obj.HostLogStatus.hostEntriesLost : Nat := 0xA00800 + 3
/-- `0xA009:01 FieldEntries` (spec/23_faults.md). -/
def Obj.FieldLogStatus.fieldEntries : Nat := 0xA00900 + 1
/-- `0xA009:02 FieldOverwritten` (spec/23_faults.md). -/
def Obj.FieldLogStatus.fieldOverwritten : Nat := 0xA00900 + 2
/-- `0xA009:03 FieldEntriesLost` (spec/23_faults.md). -/
def Obj.FieldLogStatus.fieldEntriesLost : Nat := 0xA00900 + 3
/-- `0xA010:00 Handling` (spec/23_faults.md). -/
def Obj.handling : Nat := 0xA01000

/-- Record `0x1000` of spec/00_scope.md. -/
def recIdentity : Rec := ⟨0x1000, 1, [
  ob 0 1 .u8 .ro 0 (nv 9) (anyv),
  ob 1 1 .str .ro 0 (bv []) (anyv),
  ob 2 1 .u16 .ro 0 (nv 0) (anyv),
  ob 3 1 .u8 .ro 0 (nv 0) (anyv),
  ob 4 1 .u8 .ro 0 (nv 0) (anyv),
  ob 5 1 .u8 .ro 0 (nv 0) (anyv),
  ob 6 1 .u32 .ro 0 (nv 0) (anyv),
  ob 7 1 .u16 .ro 0 (nv 0) (anyv),
  ob 8 1 .u64 .ro 0 (nv 0) (anyv),
  ob 9 1 .u8 .ro 0 (nv 0) (anyv)]⟩

/-- Record `0x1001` of spec/19_reset_and_startup.md. -/
def recFuseStatus : Rec := ⟨0x1001, 2, [
  ob 1 1 .u8 .ro 0 (nv 0) (anyv),
  ob 2 1 .u8 .ro 0 (nv 0) (anyv),
  ob 3 1 .u8 .ro 0 (nv 0) (anyv),
  ob 4 1 .bool .ro 0 (nv 0) (anyv)]⟩

/-- Record `0x1100` of spec/14_object_dictionary.md. -/
def recDictionaryInfo : Rec := ⟨0x1100, 1, [
  ob 1 1 .u32 .ro 0 (nv 0) (anyv),
  ob 2 1 .u16 .ro 0 (nv 0) (anyv)]⟩

/-- Record `0x1110` of spec/14_object_dictionary.md. -/
def recImageControl : Rec := ⟨0x1110, 1, [
  ob 1 1 .bool .wo 12 (nv 0) (el [1]),
  ob 2 1 .u8 .wo 12 (nv 0) (el [1, 2]),
  ob 3 1 .u8 .ro 0 (nv 0) (anyv)]⟩

/-- Record `0x1111` of spec/14_object_dictionary.md. -/
def recImageStatus : Rec := ⟨0x1111, 1, [
  ob 1 1 .u8 .ro 0 (nv 0) (anyv),
  ob 2 1 .u32 .ro 0 (nv 0) (anyv),
  ob 3 1 .u32 .ro 0 (nv 0) (anyv),
  ob 4 1 .u32 .ro 0 (nv 0) (anyv),
  ob 5 1 .u32 .ro 0 (nv 0) (anyv),
  ob 6 1 .bool .ro 0 (nv 0) (anyv),
  ob 7 1 .bool .ro 0 (nv 0) (anyv),
  ob 8 1 .u32 .ro 0 (nv 0) (anyv),
  ob 9 1 .u32 .ro 0 (nv 0) (anyv),
  ob 10 1 .bool .ro 0 (nv 0) (anyv),
  ob 11 1 .u32 .ro 0 (nv 0) (anyv)]⟩

/-- Record `0x1180` of spec/14_object_dictionary.md. -/
def recSessionContext : Rec := ⟨0x1180, 1, [
  ob 1 1 .u8 .ro 0 (nv 0) (anyv),
  ob 2 1 .u8 .rw 14 (nv 255) (anyv),
  ob 3 1 .u16 .rw 15 (nv 1) (bt 0 0x3F),
  ob 4 1 .u8 .rw 15 (nv 1) (bt 0 3),
  ob 5 1 .u32 .ro 0 (nv 0) (anyv),
  ob 6 1 .u8 .ro 0 (nv 0) (anyv)]⟩

/-- Record `0x1200` of spec/14_object_dictionary.md. -/
def recCommitGroup : Rec := ⟨0x1200, 256, [
  ob 1 1 .u8 .rw 14 ((fun g _ => .num (if g ≤ 3 then g else 0xFF))) (ff 3),
  ob 2 1 .bool .wo 14 (nv 0) (el [1]),
  ob 3 1 .bool .wo 14 (nv 0) (el [1]),
  ob 4 1 .u16 .ro 0 (nv 0) (anyv),
  ob 5 1 .dom .ro 0 (bv []) (anyv),
  ob 6 1 .u32 .ro 0 (nv 0) (anyv),
  ob 7 1 .i64 .ro 0 (nv 0) (anyv),
  ob 8 1 .u8 .ro 0 (nv 0) (anyv),
  ob 9 1 .u32 .ro 0 (nv 0) (anyv)]⟩

/-- Record `0x1300` of spec/15_host_network.md. -/
def recHostPort : Rec := ⟨0x1300, 5, [
  ob 1 1 .bool .rw 12 (nv 1) (anyv),
  ob 2 1 .u8 .rw 12 (nv 0) (bt 0 3),
  ob 3 1 .u8 .rw 12 (nv 0) (bt 0 3),
  ob 4 1 .u64 .rw 12 (nv 0) (bt 0 0xFFFFFFFFFFFF),
  ob 5 1 .u16 .rw 12 (nv 1500) (bt 1280 9000),
  ob 6 1 .u16 .rw 12 (nv 0) (bt 0 4094),
  ob 7 1 .u32 .rw 12 (nv 0) (anyv),
  ob 8 1 .u8 .rw 12 (nv 24) (bt 0 32),
  ob 9 1 .u32 .rw 12 (nv 0) (anyv),
  ob 10 1 .dom .rw 12 (bv []) (lens [0, 16]),
  ob 11 1 .u8 .rw 12 (nv 64) (bt 0 128),
  ob 12 1 .dom .rw 12 (bv []) (lens [0, 16]),
  ob 13 1 .u8 .ro 0 (nv 0) (anyv),
  ob 14 1 .u8 .ro 0 (nv 0) (anyv),
  ob 15 1 .u8 .ro 0 (nv 0) (anyv),
  ob 16 1 .u64 .ro 0 (nv 0) (anyv),
  ob 17 1 .u64 .ro 0 (nv 0) (anyv),
  ob 18 1 .u32 .ro 0 (nv 0) (anyv),
  ob 19 1 .u32 .ro 0 (nv 0) (anyv),
  ob 20 1 .bool .rw 12 (fun i _ => .num (if i < 4 then 0 else 1)) (anyv)]⟩

/-- Record `0x1340` of spec/15_host_network.md. -/
def recNgalis : Rec := ⟨0x1340, 1, [
  ob 1 1 .u16 .rw 12 (nv 18700) (bt 1024 65535),
  ob 2 1 .u16 .rw 12 (nv 1000) (bt 10 60000),
  ob 3 1 .u16 .rw 12 (nv 3000) (bt 0 60000),
  ob 4 1 .u16 .rw 12 (nv 1000) (bt 100 10000),
  ob 5 1 .u16 .rw 12 (nv 2000) (bt 100 50000),
  ob 6 1 .u16 .ro 0 (nv 0) (anyv),
  ob 7 1 .u8 .ro 0 (nv 0) (anyv),
  ob 8 1 .u32 .ro 0 (nv 0) (anyv),
  ob 9 1 .u16 .ro 0 (nv 32768) (anyv),
  ob 10 1 .u32 .ro 0 (nv 0) (anyv)]⟩

/-- Record `0x1380` of spec/15_host_network.md. -/
def recRing : Rec := ⟨0x1380, 64, [
  ob 1 1 .u16 .ro 0 (nv 65535) (anyv),
  ob 2 1 .u8 .ro 0 (nv 0) (anyv),
  ob 3 1 .u16 .ro 0 (nv 0) (anyv),
  ob 4 1 .u8 .ro 0 (nv 0) (anyv),
  ob 5 1 .u8 .ro 0 (nv 0) (anyv),
  ob 6 1 .u32 .ro 0 (nv 0) (anyv),
  ob 7 1 .u32 .ro 0 (nv 0) (anyv),
  ob 8 1 .u16 .ro 0 (nv 0) (anyv),
  ob 9 1 .u32 .ro 0 (nv 0) (anyv),
  ob 10 1 .u32 .ro 0 (nv 0) (anyv),
  ob 12 1 .bool .wo 14 (nv 0) (el [1])]⟩

/-- Record `0x1400` of spec/15_host_network.md. -/
def recSession : Rec := ⟨0x1400, 256, [
  ob 1 1 .u8 .ro 0 (nv 0) (anyv),
  ob 2 1 .u8 .ro 0 (nv 0) (anyv),
  ob 3 1 .u8 .ro 0 (nv 0) (anyv),
  ob 4 1 .dom .ro 0 (bv []) (anyv),
  ob 5 1 .time .ro 0 (nv 0) (anyv),
  ob 6 1 .u64 .ro 0 (nv 0) (anyv),
  ob 7 1 .u64 .ro 0 (nv 0) (anyv),
  ob 8 1 .u32 .ro 0 (nv 0) (anyv),
  ob 9 1 .u32 .ro 0 (nv 0) (anyv),
  ob 10 1 .u32 .ro 0 (nv 0) (anyv),
  ob 11 1 .u32 .ro 0 (nv 0) (anyv),
  ob 12 1 .u32 .ro 0 (nv 0) (anyv),
  ob 13 1 .u64 .ro 0 (nv 0) (anyv),
  ob 14 1 .bool .wo 12 (nv 0) (el [1])]⟩

/-- Record `0x1500` of spec/16_span.md. -/
def recSpanControl : Rec := ⟨0x1500, 1, [
  ob 1 1 .u16 .rw 12 (nv 10) (bt 2 1000),
  ob 2 1 .u16 .rw 12 (nv 16) (bt 1 65535),
  ob 3 1 .u16 .rw 12 (nv 100) (bt 10 10000),
  ob 4 1 .u8 .ro 0 (nv 0) (anyv),
  ob 5 1 .u32 .ro 0 (nv 0) (anyv),
  ob 6 1 .u32 .ro 0 (nv 0) (anyv),
  ob 7 1 .u16 .ro 0 (nv 0) (anyv),
  ob 8 1 .u32 .ro 0 (nv 0) (anyv)]⟩

/-- Record `0x1508` of spec/16_span.md. -/
def recSpanChannel : Rec := ⟨0x1508, 12, [
  ob 1 1 .u8 .ro 0 (nv 0) (anyv),
  ob 2 1 .u64 .ro 0 (nv 0) (anyv),
  ob 3 1 .u32 .ro 0 (nv 0) (anyv),
  ob 4 1 .u32 .ro 0 (nv 0) (anyv),
  ob 5 1 .u32 .ro 0 (nv 0) (anyv),
  ob 6 1 .u32 .ro 0 (nv 0) (anyv),
  ob 7 1 .u32 .ro 0 (nv 0) (anyv)]⟩

/-- Record `0x1520` of spec/16_span.md. -/
def recSpanFirewall : Rec := ⟨0x1520, 1, [
  ob 1 7 .u32 .ro 0 (nv 0) (anyv),
  ob 8 1 .u32 .ro 0 (nv 0) (anyv)]⟩

/-- Record `0x1600` of spec/17_time_base.md. -/
def recMasterTime : Rec := ⟨0x1600, 1, [
  ob 1 1 .time .ro 0 (nv 0) (anyv),
  ob 2 1 .u64 .rw 12 (nv 17179869184) (incr),
  ob 3 1 .i64 .wo 12 (nv 0) (bt (-(2 ^ 62)) (2 ^ 62)),
  ob 4 1 .time .wo 12 (nv 0) (anyv),
  ob 5 1 .u8 .ro 0 (nv 0) (anyv),
  ob 6 1 .u32 .ro 0 (nv 0) (anyv)]⟩

/-- Record `0x1601` of spec/17_time_base.md. -/
def recSlaveTime : Rec := ⟨0x1601, 1, [
  ob 1 1 .time .ro 0 (nv 0) (anyv),
  ob 2 1 .u8 .ro 0 (nv 0) (anyv),
  ob 3 1 .i32 .ro 0 (nv 0) (anyv),
  ob 4 1 .i32 .ro 0 (nv 0) (anyv),
  ob 5 1 .u32 .rw 12 (nv 1000) (bt 100 1000000),
  ob 6 1 .u32 .ro 0 (nv 0) (anyv),
  ob 7 1 .u32 .ro 0 (nv 0) (anyv)]⟩

/-- Record `0x1608` of spec/17_time_base.md. -/
def recPtpPort : Rec := ⟨0x1608, 5, [
  ob 1 1 .u8 .rw 12 (nv 1) (bt 0 1),
  ob 2 1 .i32 .rw 12 (nv 0) (bt (-100000) 100000),
  ob 3 1 .i32 .rw 12 (nv 0) (bt (-100000) 100000)]⟩

/-- Record `0x1610` of spec/17_time_base.md. -/
def recPtpServo : Rec := ⟨0x1610, 1, [
  ob 1 1 .u8 .rw 12 (nv 0) (bt 0 1),
  ob 2 1 .u8 .rw 12 (nv 0) (bt 0 4),
  ob 3 1 .u8 .rw 12 (nv 0) (bt 0 1),
  ob 4 1 .u8 .rw 12 (nv 0) (bt 0 127),
  ob 5 1 .i64 .ro 0 (nv 0) (anyv),
  ob 6 1 .i64 .ro 0 (nv 0) (anyv),
  ob 7 1 .u8 .ro 0 (nv 0) (anyv)]⟩

/-- Record `0x1620` of spec/17_time_base.md. -/
def recCapture : Rec := ⟨0x1620, 8, [
  ob 1 1 .u8 .rw 14 (nv 0) (bt 0 4),
  ob 2 1 .u8 .rw 14 (nv 0) (bt 0 63),
  ob 3 1 .u8 .rw 14 (nv 0) (bt 0 2),
  ob 4 1 .dom .ro 0 (bv []) (anyv),
  ob 5 1 .u32 .ro 0 (nv 0) (anyv)]⟩

/-- Record `0x1630` of spec/17_time_base.md. -/
def recTimeOutputs : Rec := ⟨0x1630, 1, [
  ob 1 1 .bool .rw 12 (nv 0) (anyv),
  ob 2 1 .u32 .rw 12 (nv 100000000) (bt 100 500000000),
  ob 3 1 .u8 .rw 14 (nv 0) (bt 0 2),
  ob 8 1 .u8 .rw 14 (nv 0) (bt 0 2),
  ob 4 1 .time .rw 14 (nv 0) (anyv),
  ob 9 1 .time .rw 14 (nv 0) (anyv),
  ob 5 1 .u64 .rw 14 (nv 1000000000) (bt 1000 (2 ^ 40)),
  ob 10 1 .u64 .rw 14 (nv 1000000000) (bt 1000 (2 ^ 40)),
  ob 6 1 .u32 .rw 14 (nv 1000) (bt 8 0xFFFFFFFF),
  ob 11 1 .u32 .rw 14 (nv 1000) (bt 8 0xFFFFFFFF)]⟩

/-- Record `0x2000` of spec/18_clocks_and_power.md. -/
def recClocks : Rec := ⟨0x2000, 2, [
  ob 1 1 .u16 .ro 0 (nv 0) (anyv),
  ob 2 1 .u8 .ro 0 (nv 0) (anyv),
  ob 3 1 .u8 .ro 0 (nv 0) (anyv),
  ob 4 1 .u32 .ro 0 (nv 0) (anyv),
  ob 5 1 .u16 .ro 0 (nv 500) (anyv),
  ob 6 1 .u32 .ro 0 (nv 0) (anyv)]⟩

/-- Record `0x2002` of spec/18_clocks_and_power.md. -/
def recDomainSwitch : Rec := ⟨0x2002, 4, [
  ob 1 1 .u8 .rw 12 (nv 0) (bt 0 1),
  ob 2 1 .u8 .ro 0 (nv 1) (anyv),
  ob 3 1 .u8 .ro 0 (nv 0) (anyv),
  ob 4 1 .bool .ro 0 (nv 0) (anyv),
  ob 5 1 .u32 .ro 0 (nv 0) (anyv)]⟩

/-- Record `0x2008` of spec/18_clocks_and_power.md. -/
def recMeter : Rec := ⟨0x2008, 2, [
  ob 1 1 .u8 .rw 14 (nv 1) (anyv),
  ob 2 1 .u8 .rw 14 (nv 0) (anyv),
  ob 3 1 .u32 .rw 14 (nv 100000) (bt 1000 16777215),
  ob 4 1 .bool .wo 14 (nv 0) (el [1]),
  ob 5 1 .bool .ro 0 (nv 0) (anyv),
  ob 6 1 .u32 .ro 0 (nv 0) (anyv),
  ob 7 1 .u32 .ro 0 (nv 0) (anyv)]⟩

/-- Record `0x2010` of spec/18_clocks_and_power.md. -/
def recHostGates : Rec := ⟨0x2010, 1, [
  ob 1 1 .u32 .rw 12 (nv 0) (bt 0 0x3F),
  ob 2 1 .u32 .ro 0 (nv 0) (anyv)]⟩

/-- Record `0x2011` of spec/18_clocks_and_power.md. -/
def recFieldGates : Rec := ⟨0x2011, 1, [
  ob 1 1 .u64 .rw 12 (nv 0) (bt 0 0x7FFFFFFF),
  ob 2 1 .u32 .ro 0 (nv 0) (anyv)]⟩

/-- Record `0x2100` of spec/18_clocks_and_power.md. -/
def recPowerControl : Rec := ⟨0x2100, 1, [
  ob 1 1 .u8 .rw 14 (nv 1) (bt 0 3),
  ob 2 1 .u8 .ro 0 (nv 4) (anyv),
  ob 3 1 .bool .ro 0 (nv 0) (anyv),
  ob 4 1 .u8 .ro 0 (nv 0) (anyv),
  ob 5 1 .u8 .ro 0 (nv 0) (anyv),
  ob 6 1 .u32 .ro 0 (nv 0) (anyv)]⟩

/-- Record `0x2101` of spec/18_clocks_and_power.md. -/
def recDvfs : Rec := ⟨0x2101, 1, [
  ob 1 1 .u8 .rw 14 (nv 2) (bt 0 3),
  ob 2 1 .u8 .ro 0 (nv 0) (anyv),
  ob 3 1 .u16 .ro 0 (nv 0) (anyv),
  ob 4 1 .bool .ro 0 (nv 0) (anyv),
  ob 5 1 .u32 .ro 0 (nv 0) (anyv),
  ob 6 1 .u32 .ro 0 (nv 0) (anyv),
  ob 7 1 .u8 .rw 12 (nv 10) (bt 1 50),
  ob 8 1 .u8 .rw 12 (nv 20) (bt 0 60)]⟩

/-- Record `0x2108` of spec/18_clocks_and_power.md. -/
def recOperatingPoint : Rec := ⟨0x2108, 4, [
  ob 1 1 .u16 .ro 0 ((fun i _ => .num ([650, 720, 800, 880].getD i 0))) (anyv),
  ob 2 1 .u8 .ro 0 (nv 0) (anyv),
  ob 3 1 .u16 .ro 0 ((fun i _ => .num ([400, 600, 800, 1000].getD i 0))) (anyv),
  ob 4 1 .bool .ro 0 (nv 0) (anyv)]⟩

/-- Record `0x2200` of spec/19_reset_and_startup.md. -/
def recStartControl : Rec := ⟨0x2200, 1, [
  ob 1 1 .u8 .wo 12 (nv 0) (bt 1 3),
  ob 2 1 .u8 .rw 12 (nv 0) (bt 0 1),
  ob 3 1 .bool .wo 14 (nv 0) (el [1]),
  ob 4 1 .bool .ro 0 (nv 0) (anyv),
  ob 5 1 .u16 .rw 12 (nv 10000) (bt 1000 60000),
  ob 6 1 .u8 .ro 0 (nv 0) (anyv),
  ob 7 1 .bool .wo 12 (nv 0) (el [1]),
  ob 8 1 .u8 .ro 0 (nv 0) (anyv),
  ob 9 1 .u8 .ro 0 (nv 0) (anyv),
  ob 10 1 .u32 .ro 0 (nv 0) (anyv)]⟩

/-- Record `0x2201` of spec/19_reset_and_startup.md. -/
def recResetCause : Rec := ⟨0x2201, 2, [
  ob 1 1 .u16 .ro 0 (nv 1) (anyv),
  ob 2 1 .u8 .ro 0 (nv 0) (anyv),
  ob 3 1 .bool .ro 0 (nv 0) (anyv),
  ob 4 1 .stamp .ro 0 (nv 0) (anyv),
  ob 5 1 .u32 .ro 0 (nv 0) (anyv)]⟩

/-- Record `0x2203` of spec/19_reset_and_startup.md. -/
def recBlockReset : Rec := ⟨0x2203, 1, [
  ob 1 1 .u16 .rw 12 (nv 100) (bt 10 10000),
  ob 2 1 .u16 .rw 12 (nv 100) (bt 10 10000),
  ob 3 1 .u16 .rw 12 (nv 10) (bt 10 10000),
  ob 4 1 .u16 .rw 12 (nv 10) (bt 10 10000),
  ob 5 1 .u16 .rw 12 (nv 1000) (bt 10 10000),
  ob 6 5 .u32 .ro 0 (nv 0) (anyv)]⟩

/-- Record `0x2210` of spec/24_package_and_signals.md. -/
def recGpio : Rec := ⟨0x2210, 1, [
  ob 1 1 .u16 .rw 14 (nv 0) (anyv),
  ob 2 1 .u16 .rw 14 (nv 0) (anyv),
  ob 3 1 .u16 .rw 14 (nv 0) (anyv),
  ob 4 1 .u16 .ro 0 (nv 0) (anyv)]⟩

/-- Record `0x2300` of spec/20_calibration_and_ageing.md. -/
def recCalSubject : Rec := ⟨0x2300, 6, [
  ob 1 1 .bool .rw 12 ((fun i _ => .num (if i = 0 then 0 else 1))) (anyv),
  ob 2 1 .u8 .wo 14 (nv 0) (anyv),
  ob 3 1 .u32 .ro 0 (nv 0) (anyv),
  ob 4 1 .u32 .ro 0 (nv 0) (anyv),
  ob 5 1 .u32 .ro 0 (nv 0) (anyv),
  ob 6 1 .stamp .ro 0 (nv 0) (anyv),
  ob 7 1 .time .ro 0 (nv 0) (anyv),
  ob 8 1 .u8 .ro 0 (nv 0) (anyv),
  ob 9 1 .u8 .ro 0 (nv 0) (anyv)]⟩

/-- Record `0x2308` of spec/20_calibration_and_ageing.md. -/
def recCalLimits : Rec := ⟨0x2308, 1, [
  ob 1 1 .u8 .rw 12 (nv 8) (bt 2 40),
  ob 2 1 .u8 .rw 12 (nv 10) (bt 2 40),
  ob 3 1 .u8 .rw 12 (nv 16) (bt 4 64),
  ob 4 1 .u8 .rw 12 (nv 6) (bt 1 8),
  ob 5 1 .u16 .rw 12 (nv 192) (bt 0 1280),
  ob 6 1 .u8 .rw 12 (nv 90) (bt 50 100),
  ob 7 1 .u8 .rw 12 (nv 16) (bt 1 255),
  ob 8 1 .q2 .rw 12 (nv 8192) (bt 1024 16384),
  ob 9 1 .q2 .rw 12 (nv 32768) (bt 16384 65535),
  ob 10 1 .u32 .rw 12 (nv 3600) (bt 60 604800)]⟩

/-- Record `0x2310` of spec/20_calibration_and_ageing.md. -/
def recPierCal : Rec := ⟨0x2310, 16, [
  ob 1 1 .bool .ro 0 (nv 0) (anyv),
  ob 2 1 .u8 .ro 0 (nv 0) (anyv),
  ob 3 1 .u14 .ro 0 (nv 0) (anyv)]⟩

/-- Record `0x2330` of spec/20_calibration_and_ageing.md. -/
def recAgeing : Rec := ⟨0x2330, 1, [
  ob 1 1 .u14 .ro 0 (nv 0) (anyv),
  ob 2 1 .dom .ro 0 (bv []) (anyv),
  ob 3 1 .dom .ro 0 (bv []) (anyv),
  ob 4 1 .u16 .rw 12 (nv 50) (bt 20 200),
  ob 5 1 .bool .wo 12 (nv 0) (el [1]),
  ob 6 1 .u8 .ro 0 (nv 0) (anyv),
  ob 7 1 .dom .ro 0 (bv []) (anyv),
  ob 8 1 .bool .wo 12 (nv 0) (el [1]),
  ob 9 1 .u8 .ro 0 (nv 0) (anyv),
  ob 10 1 .u16 .ro 0 (nv 0) (anyv)]⟩

/-- Record `0x2340` of spec/20_calibration_and_ageing.md. -/
def recHeadCal : Rec := ⟨0x2340, 64, [
  ob 1 1 .u14 .rw 12 (nv 0) (bt 0 16383),
  ob 2 1 .u64 .ro 0 (nv 0) (anyv),
  ob 3 1 .s14 .rw 12 (nv 0) (anyv),
  ob 4 1 .u14 .ro 0 (nv 0) (anyv),
  ob 5 1 .u14 .ro 0 (nv 0) (anyv),
  ob 6 1 .i16 .ro 0 (nv 0) (anyv)]⟩

/-- Record `0x3000` of spec/02_web_position.md. -/
def recWebSource : Rec := ⟨0x3000, 1, [
  ob 1 1 .u8 .rw 12 (nv 0) (bt 0 1),
  ob 2 1 .u8 .rw 14 (nv 0) (bt 0 3),
  ob 3 1 .q48 .rw 14 (nv 0x1000000000000) (bt 1 (65535 * 2 ^ 48)),
  ob 4 1 .u32 .rw 14 (nv 64) (bt 1 65535),
  ob 5 1 .u8 .rw 12 (nv 0) (bt 0 1),
  ob 6 1 .bool .wo 14 (nv 0) (el [1])]⟩

/-- Record `0x3010` of spec/02_web_position.md. -/
def recEncoderConfig : Rec := ⟨0x3010, 2, [
  ob 1 1 .u8 .rw 12 (nv 0) (bt 0 3),
  ob 2 1 .bool .rw 12 (nv 0) (anyv),
  ob 3 1 .u8 .rw 12 (nv 0) (bt 0 1),
  ob 4 1 .u8 .rw 12 (nv 3) (bt 1 255),
  ob 5 1 .u8 .rw 14 (nv 0) (bt 0 3),
  ob 6 1 .bool .rw 12 (nv 0) (anyv),
  ob 7 1 .u32 .rw 14 (nv 0) (bt 0 (2 ^ 31 - 1)),
  ob 8 1 .u16 .rw 14 (nv 4) (bt 0 65535),
  ob 9 1 .u8 .rw 12 (nv 8) (bt 1 255),
  ob 10 1 .i64 .rw 14 (nv 0) (bt (-(2 ^ 47)) (2 ^ 47 - 1)),
  ob 11 1 .bool .wo 14 (nv 0) (el [1]),
  ob 12 1 .i64 .wo 14 (nv 0) (bt (-(2 ^ 47)) (2 ^ 47 - 1))]⟩

/-- Record `0x3018` of spec/02_web_position.md. -/
def recEncoderStatus : Rec := ⟨0x3018, 2, [
  ob 1 1 .i64 .ro 0 (nv 0) (anyv),
  ob 2 1 .i32 .ro 0 (nv 0) (anyv),
  ob 3 1 .u8 .ro 0 (nv 0) (anyv),
  ob 4 1 .u16 .ro 0 (nv 1) (anyv),
  ob 5 1 .u32 .ro 0 (nv 0) (anyv),
  ob 6 1 .u32 .ro 0 (nv 0) (anyv),
  ob 7 1 .u32 .ro 0 (nv 0) (anyv),
  ob 8 1 .i32 .ro 0 (nv 0) (anyv),
  ob 9 1 .stamp .ro 0 (nv 0) (anyv)]⟩

/-- Record `0x3020` of spec/02_web_position.md. -/
def recSpsConfig : Rec := ⟨0x3020, 1, [
  ob 1 1 .bool .rw 12 (nv 0) (anyv),
  ob 2 1 .u16 .rw 12 (nv 1000) (bt 100 10000),
  ob 3 1 .u16 .rw 12 (nv 10) (bt 1 65535),
  ob 4 1 .u8 .rw 12 (nv 26) (bt 13 40),
  ob 5 1 .u8 .rw 12 (nv 24) (bt 8 40),
  ob 6 1 .u8 .rw 12 (nv 255) (ff 39),
  ob 7 1 .bool .rw 12 (nv 0) (anyv),
  ob 8 1 .u8 .rw 12 (nv 6) (bt 3 16),
  ob 9 1 .u16 .rw 12 (nv 3) (anyv),
  ob 10 1 .u16 .rw 12 (nv 0) (anyv),
  ob 11 1 .bool .rw 12 (nv 0) (anyv),
  ob 12 1 .u8 .rw 12 (nv 100) (bt 1 255),
  ob 13 1 .u8 .rw 12 (nv 3) (bt 1 255),
  ob 14 1 .q48 .rw 14 (nv 0x1000000000000) (bt 1 (65535 * 2 ^ 48)),
  ob 15 1 .i64 .rw 14 (nv 0) (bt (-(2 ^ 47)) (2 ^ 47 - 1)),
  ob 16 1 .bool .wo 14 (nv 0) (el [1])]⟩

/-- Record `0x3021` of spec/02_web_position.md. -/
def recSpsStatus : Rec := ⟨0x3021, 1, [
  ob 1 1 .u64 .ro 0 (nv 0) (anyv),
  ob 2 1 .u8 .ro 0 (nv 0) (anyv),
  ob 3 1 .u32 .ro 0 (nv 0) (anyv),
  ob 4 1 .u32 .ro 0 (nv 0) (anyv),
  ob 5 1 .u32 .ro 0 (nv 0) (anyv),
  ob 6 1 .u32 .ro 0 (nv 0) (anyv),
  ob 7 1 .u32 .ro 0 (nv 0) (anyv)]⟩

/-- Record `0x3030` of spec/02_web_position.md. -/
def recPositionCertainty : Rec := ⟨0x3030, 1, [
  ob 1 1 .u16 .rw 14 (nv 10) (bt 1 1000),
  ob 2 1 .u16 .rw 12 (nv 100) (bt 1 1000),
  ob 3 1 .u16 .rw 12 (nv 16) (bt 1 1000),
  ob 4 1 .u8 .rw 12 (nv 0) (bt 0 1),
  ob 5 1 .bool .wo 14 (nv 0) (el [1]),
  ob 6 1 .u8 .ro 0 (nv 0) (anyv),
  ob 7 1 .u8 .ro 0 (nv 0) (anyv)]⟩

/-- Record `0x3040` of spec/02_web_position.md. -/
def recLineGenerator : Rec := ⟨0x3040, 4, [
  ob 1 1 .q48 .rw 14 (nv 0) (bt 0 (2 ^ 46)),
  ob 2 1 .i64 .wo 14 (nv 0) (bt (-(2 ^ 47)) (2 ^ 47 - 1)),
  ob 3 1 .i64 .ro 0 (nv 0) (anyv),
  ob 4 1 .u16 .ro 0 (nv 0) (anyv),
  ob 5 1 .i64 .ro 0 (nv 0) (anyv),
  ob 6 1 .u32 .ro 0 (nv 0) (anyv),
  ob 7 1 .u32 .ro 0 (nv 100000) (anyv),
  ob 8 1 .q2 .ro 0 (nv 0) (anyv),
  ob 9 1 .u64 .ro 0 (nv 0) (anyv)]⟩

/-- Record `0x3050` of spec/02_web_position.md. -/
def recOverspeed : Rec := ⟨0x3050, 1, [
  ob 1 1 .q2 .rw 14 (nv 15565) (bt 8192 16384),
  ob 2 1 .q2 .rw 14 (nv 328) (bt 0 2048),
  ob 3 1 .bool .ro 0 (nv 0) (anyv),
  ob 4 1 .u8 .rw 12 (nv 0) (bt 0 2)]⟩

/-- Record `0x3100` of spec/03_position_schedule.md. -/
def recScheduleControl : Rec := ⟨0x3100, 1, [
  ob 1 1 .u16 .ro 0 (nv 0) (anyv),
  ob 2 1 .i64 .ro 0 (nv 0) (anyv),
  ob 3 1 .i64 .ro 0 (nv 0) (anyv),
  ob 4 1 .u32 .ro 0 (nv 0) (anyv),
  ob 5 1 .u32 .ro 0 (nv 0) (anyv),
  ob 6 1 .u32 .ro 0 (nv 0) (anyv),
  ob 7 1 .u32 .ro 0 (nv 0) (anyv),
  ob 8 1 .u32 .ro 0 (nv 0) (anyv)]⟩

/-- Record `0x3101` of spec/03_position_schedule.md. -/
def recScheduleTable : Rec := ⟨0x3101, 1, [
  ob 0 1 .dom .ro 0 (bv []) (anyv)]⟩

/-- Record `0x3102` of spec/03_position_schedule.md. -/
def recScheduleInsert : Rec := ⟨0x3102, 1, [
  ob 0 1 .dom .wo 14 (bv []) (len 16 4096 16)]⟩

/-- Record `0x3103` of spec/03_position_schedule.md. -/
def recScheduleCancel : Rec := ⟨0x3103, 1, [
  ob 1 1 .u16 .wo 14 (nv 0) (bt 1 65535),
  ob 2 1 .bool .wo 14 (nv 0) (el [1]),
  ob 3 1 .u16 .ro 0 (nv 0) (anyv)]⟩

/-- Record `0x3108` of spec/03_position_schedule.md. -/
def recPlaneSchedule : Rec := ⟨0x3108, 4, [
  ob 1 1 .u16 .rw 12 (nv 64) (bt 16 1024),
  ob 2 1 .i64 .ro 0 (nv 0) (anyv),
  ob 3 1 .i64 .ro 0 (nv 0) (anyv),
  ob 4 1 .u16 .ro 0 (nv 0) (anyv)]⟩

/-- Record `0x3110` of spec/03_position_schedule.md. -/
def recClosureConfig : Rec := ⟨0x3110, 16, [
  ob 1 1 .u8 .rw 14 (nv 0) (bt 0 3),
  ob 2 1 .u64 .rw 14 (nv 0) (anyv),
  ob 3 1 .u32 .rw 14 (nv 65536) (bt 1 1048576),
  ob 4 1 .u8 .ro 0 (nv 0) (anyv),
  ob 5 1 .i64 .ro 0 (nv 0) (anyv),
  ob 6 1 .u32 .ro 0 (nv 0) (anyv)]⟩

/-- Record `0x4000` of spec/04_planes_and_geometry.md. -/
def recPlaneConfig : Rec := ⟨0x4000, 4, [
  ob 1 1 .bool .rw 14 (nv 0) (anyv),
  ob 2 1 .u8 .rw 12 (nv 0) (bt 0 1),
  ob 3 1 .u8 .rw 12 (nv 3) (bt 1 3),
  ob 4 1 .u32 .rw 12 (nv 0) (zm 64 262144 1),
  ob 5 1 .q16 .rw 12 (nv 1387179) (bt 65536 (1000 * 65536)),
  ob 6 1 .q16 .rw 12 (nv 2774357) (bt 65536 (1000 * 65536)),
  ob 7 1 .i16 .rwl 14 (nv 0) (bt (-4096) 4096),
  ob 8 1 .i32 .rwl 14 (nv 0) (bt (-8192) 8192),
  ob 9 1 .u8 .rws 12 (nv 0) (bt 0 1),
  ob 10 1 .u64 .ro 0 (nv 0) (anyv),
  ob 11 1 .u64 .ro 0 (nv 18446744073709551615) (anyv)]⟩

/-- Record `0x4008` of spec/04_planes_and_geometry.md. -/
def recJointTable : Rec := ⟨0x4008, 4, [
  ob 0 1 .dom .rws 12 (bv []) (tab16 128 16384 false)]⟩

/-- Record `0x4010` of spec/04_planes_and_geometry.md. -/
def recTrestle : Rec := ⟨0x4010, 1, [
  ob 1 1 .u64 .ro 0 (nv 0) (anyv),
  ob 2 1 .u64 .ro 0 (nv 0) (anyv),
  ob 3 1 .u64 .ro 0 (nv 0) (anyv)]⟩

/-- Record `0x4011` of spec/04_planes_and_geometry.md. -/
def recPlaneCheck : Rec := ⟨0x4011, 1, [
  ob 1 1 .u8 .ro 0 (nv 0) (anyv),
  ob 2 1 .u8 .ro 0 (nv 255) (anyv),
  ob 3 1 .u8 .ro 0 (nv 255) (anyv),
  ob 4 1 .u8 .wo 14 (nv 0) (bt 0 3)]⟩

/-- Record `0x4100` of spec/04_planes_and_geometry.md. -/
def recHeadRecord : Rec := ⟨0x4100, 64, [
  ob 1 1 .u8 .rw 12 (nv 255) (ff 3),
  ob 2 1 .u8 .rw 12 (nv 0) (bt 0 1),
  ob 3 1 .u32 .rw 12 (nv 0) (mlt 0 135104 64),
  ob 4 1 .u16 .rw 12 (nv 0) (zm 64 4224 64),
  ob 5 1 .u32 .rw 12 (nv 0) (bt 0 262143),
  ob 6 1 .bool .rw 12 (nv 0) (anyv),
  ob 7 1 .u16 .rw 12 (nv 0) (bt 0 16384),
  ob 8 1 .u16 .rws 12 (nv 0) (bt 0 1023),
  ob 9 1 .u32 .rw 12 (nv 10000) (bt 10000 1000000),
  ob 10 1 .bool .rwl 14 (nv 1) (anyv),
  ob 11 1 .u8 .ro 0 (nv 0) (anyv),
  ob 12 1 .u8 .ro 0 (nv 0) (anyv),
  ob 13 1 .u32 .ro 0 (nv 0) (anyv),
  ob 14 1 .u16 .ro 0 (nv 0) (anyv),
  ob 15 1 .u8 .ro 0 (nv 0) (anyv)]⟩

/-- Record `0x4200` of spec/07_pier_link.md. -/
def recPierConfig : Rec := ⟨0x4200, 16, [
  ob 1 1 .u8 .rw 12 (nv 0) (bt 0 2),
  ob 2 1 .u8 .rw 12 (nv 0) (bt 0 1),
  ob 3 1 .u8 .rw 12 (nv 0) (bt 0 2),
  ob 4 1 .u8 .rw 12 (nv 0) (bt 0 2),
  ob 5 1 .u8 .rw 14 (nv 0) (bt 0 1),
  ob 6 1 .bool .wo 14 (nv 0) (el [1]),
  ob 7 1 .u16 .rw 12 (nv 1000) (bt 10 60000),
  ob 8 1 .bool .ro 0 (nv 0) (anyv)]⟩

/-- Record `0x4220` of spec/07_pier_link.md. -/
def recPortStatus : Rec := ⟨0x4220, 64, [
  ob 1 1 .u8 .ro 0 (nv 0) (anyv),
  ob 2 1 .u8 .ro 0 (nv 0) (anyv),
  ob 3 1 .u8 .ro 0 (nv 0) (anyv),
  ob 4 1 .u64 .ro 0 (nv 0) (anyv),
  ob 5 1 .u16 .ro 0 (nv 0) (anyv),
  ob 6 1 .u16 .ro 0 (nv 0) (anyv),
  ob 7 1 .u32 .ro 0 (nv 0) (anyv),
  ob 8 1 .u32 .ro 0 (nv 0) (anyv),
  ob 9 1 .u8 .ro 0 (nv 0) (anyv),
  ob 10 1 .u32 .ro 0 (nv 0) (anyv),
  ob 11 1 .u32 .ro 0 (nv 0) (anyv),
  ob 12 1 .u32 .ro 0 (nv 0) (anyv),
  ob 13 1 .u32 .ro 0 (nv 0) (anyv),
  ob 14 1 .u32 .ro 0 (nv 0) (anyv),
  ob 15 1 .u64 .ro 0 (nv 0) (anyv),
  ob 16 1 .u32 .ro 0 (nv 0) (anyv),
  ob 17 1 .u32 .ro 0 (nv 0) (anyv),
  ob 18 1 .u32 .ro 0 (nv 0) (anyv),
  ob 19 1 .u32 .ro 0 (nv 0) (anyv),
  ob 20 1 .u32 .ro 0 (nv 0) (anyv),
  ob 21 1 .u8 .ro 0 (nv 0) (anyv)]⟩

/-- Record `0x4320` of spec/08_firing.md. -/
def recFiringTiming : Rec := ⟨0x4320, 1, [
  ob 1 1 .u16 .rw 12 (nv 2000) (bt 2000 20000),
  ob 2 1 .u16 .rw 12 (nv 1000) (bt 250 4000),
  ob 3 1 .u16 .rw 12 (nv 1000) (bt 0 4000),
  ob 4 1 .u16 .rw 12 (nv 200) (bt 50 1000),
  ob 5 1 .u32 .rw 12 (nv 32768) (el [4096, 8192, 16384, 32768, 65536]),
  ob 6 1 .u16 .ro 0 (nv 40) (anyv)]⟩

/-- Record `0x4340` of spec/08_firing.md. -/
def recHeadFiring : Rec := ⟨0x4340, 64, [
  ob 1 1 .u8 .rw 14 (nv 48) (bt 1 63),
  ob 2 1 .u32 .ro 0 (nv 10000) (anyv),
  ob 3 1 .i64 .ro 0 (nv 0) (anyv),
  ob 4 1 .u8 .ro 0 (nv 0) (anyv),
  ob 5 1 .dom .ro 0 (bv []) (anyv),
  ob 6 1 .bool .ro 0 (nv 0) (anyv),
  ob 7 1 .dom .ro 0 (bv []) (anyv),
  ob 8 1 .u32 .ro 0 (nv 0) (anyv)]⟩

/-- Record `0x4380` of spec/08_firing.md. -/
def recHeadThermal : Rec := ⟨0x4380, 64, [
  ob 1 1 .u8 .rw 14 (nv 1) (bt 0 1),
  ob 2 1 .u14 .rw 14 (nv 5632) (bt 2560 12800),
  ob 3 1 .u14 .rw 12 (nv 6080) (bt 2560 12800),
  ob 4 1 .u14 .rw 12 (nv 6400) (bt 2560 12800),
  ob 5 1 .q16 .rw 12 (nv 131072) (bt 0 (63 * 65536)),
  ob 6 1 .u8 .rw 12 (nv 32) (bt 1 63),
  ob 7 1 .q16 .rw 12 (nv 131072) (bt 0 (1000 * 65536)),
  ob 8 1 .q16 .rw 12 (nv 3277) (bt 0 (100 * 65536)),
  ob 9 1 .u16 .rw 12 (nv 64) (bt 0 65535),
  ob 10 1 .u8 .rw 12 (nv 12) (bt 0 63),
  ob 11 4 .q16 .rw 12 ((fun _ j => .num (128 * j))) (bt 0 65536),
  ob 15 1 .u14 .ro 0 (nv 0) (anyv),
  ob 16 1 .u8 .ro 0 (nv 3) (anyv),
  ob 17 1 .q16 .ro 0 (nv 0) (anyv),
  ob 18 1 .u16 .ro 0 (nv 0) (anyv),
  ob 19 1 .u32 .ro 0 (nv 0) (anyv)]⟩

/-- Record `0x4400` of spec/09_nozzle_health.md. -/
def recHealthControl : Rec := ⟨0x4400, 1, [
  ob 1 1 .u8 .rw 14 (nv 0) (bt 0 2),
  ob 2 1 .u8 .rw 12 (nv 3) (bt 1 15),
  ob 3 1 .u8 .rw 12 (nv 3) (bt 1 15),
  ob 4 1 .u32 .rw 12 (nv 3600) (bt 60 604800),
  ob 5 1 .u32 .rw 12 (nv 600) (bt 10 86400),
  ob 6 1 .u16 .ro 0 (nv 0) (anyv),
  ob 7 1 .u16 .ro 0 (nv 0) (anyv),
  ob 8 1 .u8 .ro 0 (nv 0) (anyv),
  ob 9 1 .u32 .ro 0 (nv 0) (anyv),
  ob 10 1 .i64 .ro 0 (nv 0) (anyv)]⟩

/-- Record `0x4401` of spec/09_nozzle_health.md. -/
def recDefectTable : Rec := ⟨0x4401, 1, [
  ob 0 1 .dom .ro 0 (bv []) (anyv)]⟩

/-- Record `0x4402` of spec/09_nozzle_health.md. -/
def recDefectEdit : Rec := ⟨0x4402, 1, [
  ob 1 1 .dom .wo 14 (bv []) (len 16 4096 16),
  ob 2 1 .u32 .wo 14 (nv 0) (anyv),
  ob 3 1 .u32 .wo 14 (nv 0) (anyv)]⟩

/-- Record `0x4403` of spec/09_nozzle_health.md. -/
def recOverflowQueue : Rec := ⟨0x4403, 1, [
  ob 0 1 .dom .ro 0 (bv []) (anyv)]⟩

/-- Record `0x4408` of spec/09_nozzle_health.md. -/
def recPlaneHealth : Rec := ⟨0x4408, 4, [
  ob 1 1 .u16 .rws 12 (nv 291) (nibbles4),
  ob 2 1 .u8 .rws 12 (nv 64) (bt 0 255),
  ob 3 1 .u8 .rws 12 (nv 0) (bt 0 3),
  ob 4 1 .u8 .rws 12 (nv 0) (bt 0 1),
  ob 5 1 .u8 .rws 12 (nv 255) (ff 3),
  ob 6 1 .q2 .rws 12 (nv 16384) (bt 0 32768),
  ob 7 1 .i32 .rws 12 (nv 0) (bt (-65536) 65536)]⟩

/-- Record `0x4440` of spec/09_nozzle_health.md. -/
def recHeadHealth : Rec := ⟨0x4440, 64, [
  ob 1 1 .u14 .rw 12 (nv 0) (bt 0 16383),
  ob 2 1 .u14 .rw 12 (nv 12000) (bt 1 16383),
  ob 3 1 .u14 .rw 12 (nv 1000) (bt 0 16382),
  ob 4 1 .u16 .rw 12 (nv 80) (bt 1 1000),
  ob 5 1 .u16 .rw 12 (nv 256) (bt 16 65535),
  ob 6 1 .u16 .rw 12 (nv 64) (bt 1 4224),
  ob 7 1 .u32 .rw 12 (nv 600) (zm 10 604800 1),
  ob 8 1 .bool .wo 14 (nv 0) (el [1]),
  ob 9 1 .u16 .ro 0 (nv 0) (anyv),
  ob 10 1 .stamp .ro 0 (nv 0) (anyv),
  ob 11 1 .u32 .ro 0 (nv 0) (anyv),
  ob 12 1 .u32 .ro 0 (nv 0) (anyv)]⟩

/-- Record `0x4480` of spec/09_nozzle_health.md. -/
def recResistanceMap : Rec := ⟨0x4480, 64, [
  ob 0 1 .dom .ro 0 (bv []) (anyv)]⟩

/-- Record `0x5000` of spec/05_strips_and_decompression.md. -/
def recStripStore : Rec := ⟨0x5000, 1, [
  ob 1 1 .u64 .ro 0 (nv 0) (anyv),
  ob 2 1 .u64 .ro 0 (nv 0) (anyv),
  ob 3 1 .u32 .ro 0 (nv 0) (anyv),
  ob 4 1 .u32 .ro 0 (nv 0) (anyv),
  ob 5 1 .u32 .ro 0 (nv 0) (anyv),
  ob 6 1 .u32 .wo 14 (nv 0) (anyv),
  ob 7 1 .bool .wo 14 (nv 0) (el [1])]⟩

/-- Record `0x5008` of spec/05_strips_and_decompression.md. -/
def recPageQueue : Rec := ⟨0x5008, 4, [
  ob 1 1 .dom .wo 14 (bv []) (len 40 160 1),
  ob 2 1 .u16 .ro 0 (nv 0) (anyv),
  ob 3 1 .u32 .ro 0 (nv 0) (anyv),
  ob 4 1 .u32 .ro 0 (nv 0) (anyv),
  ob 5 1 .i64 .ro 0 (nv 0) (anyv),
  ob 6 1 .u8 .wo 14 (nv 0) (el [1, 2]),
  ob 7 1 .u8 .rw 14 (nv 0) (bt 0 1),
  ob 8 1 .bool .ro 0 (nv 0) (anyv),
  ob 9 1 .bool .wo 14 (nv 0) (el [1]),
  ob 10 1 .u32 .ro 0 (nv 0) (anyv),
  ob 11 1 .u32 .ro 0 (nv 0) (anyv)]⟩

/-- Record `0x5100` of spec/05_strips_and_decompression.md. -/
def recInflateStatus : Rec := ⟨0x5100, 1, [
  ob 1 1 .u16 .ro 0 (nv 0) (anyv),
  ob 2 1 .u8 .ro 0 (nv 32) (anyv),
  ob 3 1 .u64 .ro 0 (nv 0) (anyv),
  ob 4 1 .u32 .ro 0 (nv 0) (anyv),
  ob 5 1 .u32 .ro 0 (nv 0) (anyv)]⟩

/-- Record `0x5108` of spec/05_strips_and_decompression.md. -/
def recPlaneInflate : Rec := ⟨0x5108, 4, [
  ob 1 1 .u16 .rw 12 (nv 64) (bt 0 4096),
  ob 2 1 .u16 .rws 12 (nv 65535) (bt 1 65535)]⟩

/-- Record `0x5110` of spec/05_strips_and_decompression.md. -/
def recEngineStatus : Rec := ⟨0x5110, 16, [
  ob 1 1 .u8 .ro 0 (nv 0) (anyv),
  ob 2 1 .u8 .ro 0 (nv 255) (anyv),
  ob 3 1 .u32 .ro 0 (nv 0) (anyv),
  ob 4 1 .u32 .ro 0 (nv 0) (anyv),
  ob 5 1 .u64 .ro 0 (nv 0) (anyv),
  ob 6 1 .u64 .ro 0 (nv 0) (anyv),
  ob 7 1 .bool .wo 14 (nv 0) (el [1])]⟩

/-- Record `0x5200` of spec/06_screening_and_compensation.md. -/
def recScreenConfig : Rec := ⟨0x5200, 4, [
  ob 1 1 .u8 .rws 12 (nv 0) (bt 0 1),
  ob 2 1 .u8 .rws 12 (nv 7) (bt 1 7),
  ob 3 1 .u8 .rws 12 (nv 0) (bt 0 3),
  ob 4 1 .u16 .rws 12 (nv 0) (bt 0 255),
  ob 5 1 .u16 .rws 12 (nv 0) (bt 0 255),
  ob 6 1 .u32 .rws 12 (nv 68422684) (ledw),
  ob 7 1 .bool .rws 12 (nv 1) (anyv)]⟩

/-- Record `0x5208` of spec/06_screening_and_compensation.md. -/
def recToneCurve : Rec := ⟨0x5208, 4, [
  ob 0 1 .dom .rws 12 (bv []) (tab16 1024 0x3FFF true)]⟩

/-- Record `0x5210` of spec/06_screening_and_compensation.md. -/
def recDropLevelMap : Rec := ⟨0x5210, 4, [
  ob 1 8 .u16 .rws 12 ((fun _ j => .num ((j + min j 3 * 16 : Nat)))) (maskv 0x37)]⟩

/-- Record `0x5218` of spec/06_screening_and_compensation.md. -/
def recRedistribution : Rec := ⟨0x5218, 4, [
  ob 1 4 .u16 .rws 12 (nv 8288) (redist)]⟩

/-- Record `0x5220` of spec/06_screening_and_compensation.md. -/
def recThresholdMatrix : Rec := ⟨0x5220, 4, [
  ob 0 1 .dom .rws 12 (bv []) (matrixTab)]⟩

/-- Record `0x5228` of spec/06_screening_and_compensation.md. -/
def recNozzleTable : Rec := ⟨0x5228, 1, [
  ob 1 1 .dom .ro 0 (bv []) (anyv),
  ob 2 1 .dom .wo 12 (bv []) (len 520 65544 1),
  ob 3 4 .i64 .ro 0 (nv 0) (anyv)]⟩

/-- Record `0x5230` of spec/06_screening_and_compensation.md. -/
def recScreenStatus : Rec := ⟨0x5230, 4, [
  ob 1 1 .u64 .ro 0 (nv 0) (anyv),
  ob 2 1 .u64 .ro 0 (nv 0) (anyv),
  ob 3 1 .u64 .ro 0 (nv 0) (anyv),
  ob 4 1 .i64 .ro 0 (nv 0) (anyv),
  ob 5 1 .u32 .ro 0 (nv 0) (anyv)]⟩

/-- Record `0x6000` of spec/10_cameras_and_pipeline.md. -/
def recCameraPort : Rec := ⟨0x6000, 4, [
  ob 1 1 .bool .rw 14 (nv 0) (anyv),
  ob 2 1 .u8 .rw 12 (nv 4) (el [1, 2, 4]),
  ob 3 1 .u16 .rw 12 (nv 4500) (bt 80 4500),
  ob 4 1 .u8 .rw 12 (nv 44) (bt 0x2B 0x2D),
  ob 5 1 .u8 .rw 12 (nv 0) (bt 0 3),
  ob 6 1 .u16 .rw 12 (nv 4096) (mlt 64 8192 4),
  ob 7 1 .u16 .rw 12 (nv 1024) (bt 1 8192),
  ob 8 1 .u16 .rw 12 (nv 1000) (bt 10 65535),
  ob 9 1 .u8 .rw 12 (nv 8) (bt 2 64),
  ob 10 1 .bool .wo 14 (nv 0) (el [1]),
  ob 11 1 .u8 .ro 0 (nv 0) (anyv)]⟩

/-- Record `0x6008` of spec/10_cameras_and_pipeline.md. -/
def recCameraStatus : Rec := ⟨0x6008, 4, [
  ob 1 1 .u32 .ro 0 (nv 0) (anyv),
  ob 2 1 .u64 .ro 0 (nv 0) (anyv),
  ob 3 1 .u32 .ro 0 (nv 0) (anyv),
  ob 4 1 .u32 .ro 0 (nv 0) (anyv),
  ob 5 1 .u32 .ro 0 (nv 0) (anyv),
  ob 6 1 .u32 .ro 0 (nv 0) (anyv),
  ob 7 1 .u32 .ro 0 (nv 0) (anyv),
  ob 8 1 .u32 .ro 0 (nv 0) (anyv),
  ob 9 1 .u32 .ro 0 (nv 0) (anyv),
  ob 10 1 .u32 .ro 0 (nv 0) (anyv),
  ob 11 1 .u32 .ro 0 (nv 0) (anyv),
  ob 12 1 .dom .ro 0 (bv []) (anyv)]⟩

/-- Record `0x6010` of spec/10_cameras_and_pipeline.md. -/
def recSensorControl : Rec := ⟨0x6010, 4, [
  ob 1 1 .dom .wo 14 (bv []) (len 8 1024 8),
  ob 2 1 .u8 .rw 12 (nv 0) (bt 0 3),
  ob 3 1 .u16 .ro 0 (nv 0) (anyv),
  ob 4 1 .u16 .ro 0 (nv 0) (anyv),
  ob 5 1 .u16 .ro 0 (nv 0) (anyv),
  ob 6 1 .dom .ro 0 (bv []) (anyv),
  ob 7 1 .u16 .rw 12 (nv 1000) (bt 100 1000),
  ob 8 1 .u8 .rw 12 (nv 10) (bt 1 100)]⟩

/-- Record `0x6018` of spec/10_cameras_and_pipeline.md. -/
def recTriggerConfig : Rec := ⟨0x6018, 4, [
  ob 1 1 .bool .rw 12 (nv 0) (anyv),
  ob 2 1 .u16 .rw 12 (nv 1000) (bt 100 50000),
  ob 3 1 .u32 .rw 12 (nv 0) (bt 0 1000000),
  ob 4 1 .u32 .rw 12 (nv 1000) (bt 1 1000000),
  ob 5 1 .u32 .ro 0 (nv 0) (anyv)]⟩

/-- Record `0x6020` of spec/10_cameras_and_pipeline.md. -/
def recCameraSelect : Rec := ⟨0x6020, 1, [
  ob 1 1 .u8 .rw 14 (nv 0) (ff 3),
  ob 2 1 .u16 .ro 0 (nv 0) (anyv)]⟩

/-- Record `0x6100` of spec/10_cameras_and_pipeline.md. -/
def recPipelineConfig : Rec := ⟨0x6100, 4, [
  ob 1 1 .u8 .rws 12 (nv 0) (bt 0 4),
  ob 2 4 .u14 .rws 12 (nv 0) (bt 0 16383),
  ob 6 1 .i32 .rws 12 (nv 0) (anyv),
  ob 7 1 .q16 .rws 12 (nv 65536) (bt 256 1048576),
  ob 8 1 .u16 .rws 12 (nv 0) (bt 0 32767),
  ob 9 1 .u16 .rws 12 (nv 0) (bt 0 32767),
  ob 10 1 .i32 .rws 12 (nv 0) (anyv),
  ob 11 1 .i32 .rws 12 (nv 0) (anyv)]⟩

/-- Record `0x6108` of spec/10_cameras_and_pipeline.md. -/
def recDefectPixels : Rec := ⟨0x6108, 4, [
  ob 0 1 .dom .rws 12 (bv []) (len 0 4096 4)]⟩

/-- Record `0x6110` of spec/10_cameras_and_pipeline.md. -/
def recFlatField : Rec := ⟨0x6110, 4, [
  ob 0 1 .dom .rws 12 (bv []) (len 32768 32768 1)]⟩

/-- Record `0x6118` of spec/10_cameras_and_pipeline.md. -/
def recDensityLut : Rec := ⟨0x6118, 4, [
  ob 0 1 .dom .rws 12 (bv []) (tab16 3072 0x3FFF false)]⟩

/-- Record `0x6120` of spec/10_cameras_and_pipeline.md. -/
def recColourMatrix : Rec := ⟨0x6120, 4, [
  ob 0 1 .dom .rws 12 (bv []) (len 40 40 1)]⟩

/-- Record `0x6128` of spec/10_cameras_and_pipeline.md. -/
def recOutputs : Rec := ⟨0x6128, 4, [
  ob 1 1 .u8 .rws 14 (nv 0) (bt 0 4),
  ob 2 1 .u8 .rws 14 (nv 1) (bt 1 255),
  ob 3 1 .u8 .rws 14 (nv 0) (bt 0 2),
  ob 4 1 .u8 .rws 14 (nv 0) (bt 0 1),
  ob 5 1 .u8 .rws 14 (nv 1) (bt 1 255),
  ob 6 1 .u8 .rws 12 (nv 63) (bt 1 63),
  ob 7 1 .u32 .ro 0 (nv 0) (anyv),
  ob 8 1 .u32 .ro 0 (nv 0) (anyv)]⟩

/-- Record `0x6130` of spec/10_cameras_and_pipeline.md. -/
def recPreviewLut : Rec := ⟨0x6130, 4, [
  ob 0 1 .dom .rws 14 (bv []) (len 1024 1024 1)]⟩

/-- Record `0x6200` of spec/11_inspection_analysis.md. -/
def recAnalysisControl : Rec := ⟨0x6200, 1, [
  ob 1 1 .u8 .rw 14 (nv 0) (bt 0 15),
  ob 2 1 .u8 .ro 0 (nv 0) (anyv),
  ob 3 1 .u32 .rw 12 (nv 4096) (bt 256 65536),
  ob 4 1 .u32 .rw 12 (nv 65536) (bt 1 4294967295),
  ob 5 1 .u8 .rw 14 (nv 64) (el [32, 64, 128]),
  ob 6 1 .u14 .rw 14 (nv 410) (bt 1 16383),
  ob 7 1 .u32 .rw 12 (nv 8192) (bt 0 65536),
  ob 8 1 .u32 .ro 0 (nv 0) (anyv),
  ob 9 1 .u32 .ro 0 (nv 0) (anyv)]⟩

/-- Record `0x6208` of spec/11_inspection_analysis.md. -/
def recCameraOffset : Rec := ⟨0x6208, 4, [
  ob 1 4 .i64 .rw 12 (nv 0) (bt 0 (2 ^ 34))]⟩

/-- Record `0x6210` of spec/11_inspection_analysis.md. -/
def recPlaneRender : Rec := ⟨0x6210, 4, [
  ob 1 1 .i32 .rws 12 (nv 0) (anyv),
  ob 2 1 .u32 .ro 0 (nv 131072) (anyv),
  ob 3 1 .dom .rws 12 (bv []) (tab16 8 0x3FFF true),
  ob 4 1 .dom .rws 12 (bv []) (len 50 50 1),
  ob 5 1 .u32 .ro 0 (nv 0) (anyv),
  ob 6 1 .dom .ro 0 (bv []) (anyv)]⟩

/-- Record `0x6218` of spec/11_inspection_analysis.md. -/
def recStreakConfig : Rec := ⟨0x6218, 4, [
  ob 1 1 .q2 .rws 12 (nv 9830) (bt 1024 16384),
  ob 2 1 .q2 .rws 12 (nv 4915) (bt 512 16384),
  ob 3 1 .q2 .rws 12 (nv 2048) (bt 0 8192),
  ob 4 1 .u16 .rws 12 (nv 64) (bt 0 256),
  ob 5 1 .u16 .rws 12 (nv 256) (bt 1 4096),
  ob 6 1 .u32 .ro 0 (nv 0) (anyv),
  ob 7 1 .u32 .ro 0 (nv 0) (anyv),
  ob 8 1 .u32 .ro 0 (nv 0) (anyv)]⟩

/-- Record `0x6220` of spec/11_inspection_analysis.md. -/
def recRegistrationLoop : Rec := ⟨0x6220, 4, [
  ob 1 1 .u8 .rw 12 (nv 255) (ff 3),
  ob 2 1 .u8 .rw 14 (nv 0) (bt 0 2),
  ob 3 1 .u8 .rw 14 (nv 0) (bt 0 2),
  ob 4 1 .u8 .rws 12 (nv 4) (bt 2 16),
  ob 5 1 .q2 .rws 12 (nv 64) (bt 1 16384),
  ob 6 1 .u16 .rws 12 (nv 0) (bt 0 32767),
  ob 7 1 .u16 .rws 12 (nv 32767) (bt 0 32767),
  ob 8 1 .q2 .rw 12 (nv 8192) (bt 0 16384),
  ob 9 1 .u16 .rw 12 (nv 16) (bt 0 1024),
  ob 10 1 .u16 .rw 12 (nv 128) (bt 0 256),
  ob 11 1 .i16 .rw 12 (nv (-512)) (bt (-4096) 4096),
  ob 12 1 .i16 .rw 12 (nv 512) (bt (-4096) 4096),
  ob 13 1 .q2 .rw 12 (nv 8192) (bt 0 16384),
  ob 14 1 .u16 .rw 12 (nv 32) (bt 0 8192),
  ob 15 1 .u16 .rw 12 (nv 64) (bt 0 8192),
  ob 16 1 .i32 .rw 12 (nv (-1024)) (bt (-8192) 8192),
  ob 17 1 .i32 .rw 12 (nv 1024) (bt (-8192) 8192),
  ob 18 1 .i32 .ro 0 (nv 0) (anyv),
  ob 19 1 .i32 .ro 0 (nv 0) (anyv),
  ob 20 1 .u32 .ro 0 (nv 0) (anyv),
  ob 21 1 .u32 .ro 0 (nv 0) (anyv),
  ob 22 1 .u32 .ro 0 (nv 0) (anyv)]⟩

/-- Record `0x7000` of spec/12_dram.md. -/
def recDramConfig : Rec := ⟨0x7000, 1, [
  ob 1 1 .u8 .rw 12 (nv 1) (el [1, 2]),
  ob 2 1 .u8 .rw 12 (nv 0) (bt 0 2),
  ob 3 1 .u16 .rw 12 (nv 5600) (el [4800, 5200, 5600]),
  ob 4 1 .u64 .ro 0 (nv 0) (anyv),
  ob 5 1 .u32 .ro 0 (nv 0) (anyv)]⟩

/-- Record `0x7001` of spec/12_dram.md. -/
def recDramPolicy : Rec := ⟨0x7001, 1, [
  ob 1 1 .u8 .rw 12 (nv 50) (bt 0 100),
  ob 2 1 .u8 .rw 12 (nv 16) (bt 4 128),
  ob 3 1 .u16 .rw 12 (nv 4096) (bt 1024 65535),
  ob 4 1 .u8 .rw 12 (nv 1) (el [1, 2]),
  ob 5 1 .u8 .rw 12 (nv 16) (bt 8 64),
  ob 6 1 .u8 .rw 12 (nv 4) (bt 1 255)]⟩

/-- Record `0x7008` of spec/12_dram.md. -/
def recDramStatus : Rec := ⟨0x7008, 4, [
  ob 1 1 .u8 .ro 0 (nv 1) (anyv),
  ob 2 1 .bool .ro 0 (nv 0) (anyv),
  ob 3 1 .u16 .ro 0 (nv 3900) (anyv),
  ob 4 1 .u8 .ro 0 (nv 0) (anyv),
  ob 5 1 .u64 .ro 0 (nv 0) (anyv),
  ob 6 1 .u32 .ro 0 (nv 0) (anyv),
  ob 7 1 .u32 .ro 0 (nv 0) (anyv),
  ob 8 1 .u32 .ro 0 (nv 0) (anyv),
  ob 9 1 .u32 .ro 0 (nv 0) (anyv),
  ob 10 1 .u64 .ro 0 (nv 0) (anyv),
  ob 11 1 .dom .ro 0 (bv []) (anyv),
  ob 12 1 .u32 .ro 0 (nv 0) (anyv),
  ob 13 1 .stamp .ro 0 (nv 0) (anyv),
  ob 14 1 .u32 .ro 0 (nv 0) (anyv)]⟩

/-- Record `0x7010` of spec/12_dram.md. -/
def recRegionMap : Rec := ⟨0x7010, 1, [
  ob 1 1 .u64 .rws 12 (nv 0x100000000) (mlt (2 ^ 28) (2 ^ 34) (2 ^ 26)),
  ob 2 1 .u64 .rws 12 (nv 0x80000000) (mlt 0 (2 ^ 34) (2 ^ 26)),
  ob 3 1 .u64 .rws 12 (nv 0x4000000) (mlt 0 (2 ^ 30) (2 ^ 26)),
  ob 4 1 .u64 .rws 12 (nv 0x40000000) (mlt (2 ^ 26) (2 ^ 33) (2 ^ 26)),
  ob 5 1 .u64 .ro 0 (nv 0) (anyv),
  ob 6 1 .dom .ro 0 (bv []) (anyv)]⟩

/-- Record `0x7100` of spec/13_compression.md. -/
def recCompressionControl : Rec := ⟨0x7100, 1, [
  ob 1 1 .u16 .rw 12 (nv 1000) (bt 10 60000),
  ob 2 1 .u32 .ro 0 (nv 16384) (anyv),
  ob 3 1 .u32 .ro 0 (nv 16384) (anyv),
  ob 4 1 .dom .wo 14 (bv []) (len 8 8 1),
  ob 5 1 .u32 .wo 14 (nv 0) (bt 1 0x7FFFFFFF),
  ob 6 1 .u32 .ro 0 (nv 0) (anyv)]⟩

/-- Record `0x7110` of spec/13_compression.md. -/
def recChannel : Rec := ⟨0x7110, 8, [
  ob 1 1 .dom .wo 14 (bv []) (len 32 32 1),
  ob 2 1 .bool .wo 14 (nv 0) (el [1]),
  ob 3 1 .u8 .ro 0 (nv 0) (anyv),
  ob 4 1 .u8 .ro 0 (nv 0) (anyv),
  ob 5 1 .u32 .ro 0 (nv 0) (anyv),
  ob 6 1 .u64 .ro 0 (nv 0) (anyv),
  ob 7 1 .u64 .ro 0 (nv 0) (anyv),
  ob 8 1 .u64 .ro 0 (nv 0) (anyv),
  ob 9 1 .u64 .ro 0 (nv 0) (anyv),
  ob 10 1 .u32 .ro 0 (nv 0) (anyv),
  ob 11 1 .dom .ro 0 (bv []) (anyv)]⟩

/-- Record `0x8000` of spec/21_duplex.md. -/
def recDuplexControl : Rec := ⟨0x8000, 1, [
  ob 1 1 .u8 .rw 12 (nv 0) (bt 0 1),
  ob 2 1 .u8 .rw 12 (nv 0) (bt 0 1),
  ob 3 1 .bool .rw 12 (nv 0) (anyv),
  ob 4 1 .u16 .rw 12 (nv 2000) (bt 100 60000),
  ob 5 1 .u8 .rw 12 (nv 2) (bt 1 15),
  ob 6 1 .bool .wo 14 (nv 0) (el [1]),
  ob 7 1 .bool .wo 12 (nv 0) (el [1])]⟩

/-- Record `0x8001` of spec/21_duplex.md. -/
def recDuplexStatus : Rec := ⟨0x8001, 1, [
  ob 1 1 .u8 .ro 0 (nv 0) (anyv),
  ob 2 1 .bool .ro 0 (nv 0) (anyv),
  ob 3 1 .u8 .ro 0 (nv 255) (anyv),
  ob 4 1 .bool .ro 0 (nv 0) (anyv),
  ob 5 1 .u32 .ro 0 (nv 0) (anyv),
  ob 6 1 .u8 .ro 0 (nv 0) (anyv),
  ob 7 1 .u32 .ro 0 (nv 0) (anyv),
  ob 8 1 .u32 .ro 0 (nv 0) (anyv),
  ob 9 1 .u32 .ro 0 (nv 0) (anyv),
  ob 10 1 .u32 .ro 0 (nv 0) (anyv),
  ob 11 1 .i64 .ro 0 (nv 0) (anyv),
  ob 12 1 .u16 .ro 0 (nv 0) (anyv),
  ob 13 1 .u32 .ro 0 (nv 0) (anyv)]⟩

/-- Record `0x8008` of spec/21_duplex.md. -/
def recStayLane : Rec := ⟨0x8008, 2, [
  ob 1 1 .u8 .ro 0 (nv 0) (anyv),
  ob 2 1 .u32 .ro 0 (nv 0) (anyv),
  ob 3 1 .u32 .ro 0 (nv 0) (anyv),
  ob 4 1 .u32 .ro 0 (nv 0) (anyv),
  ob 5 1 .u32 .ro 0 (nv 0) (anyv)]⟩

/-- Record `0x9000` of spec/22_security_and_debug.md. -/
def recSecurity : Rec := ⟨0x9000, 1, [
  ob 1 1 .u8 .ro 0 (nv 0) (anyv),
  ob 2 1 .u8 .wo 12 (nv 0) (bt 1 4),
  ob 3 1 .dom .rw 8 (bv []) (len 48 48 1),
  ob 4 1 .dom .ro 0 (bv []) (anyv),
  ob 5 1 .dom .ro 0 (bv []) (anyv),
  ob 6 1 .dom .ro 0 (bv []) (anyv),
  ob 7 1 .u8 .ro 0 (nv 0) (anyv),
  ob 8 1 .u8 .ro 0 (nv 0) (anyv),
  ob 9 1 .u8 .wo 12 (nv 0) (el [1, 2]),
  ob 10 1 .u32 .rw 8 (nv 0) (anyv),
  ob 11 1 .u32 .rw 12 (nv 0) (anyv),
  ob 12 1 .bool .rw 12 (nv 0) (anyv),
  ob 13 1 .bool .ro 0 (nv 0) (anyv),
  ob 14 1 .u32 .ro 0 (nv 0) (anyv)]⟩

/-- Record `0x9008` of spec/22_security_and_debug.md. -/
def recDebug : Rec := ⟨0x9008, 1, [
  ob 1 1 .u8 .ro 0 (nv 0) (anyv),
  ob 2 1 .u8 .ro 0 (nv 0) (anyv),
  ob 3 1 .u16 .ro 0 (nv 65535) (anyv),
  ob 4 1 .dom .ro 14 (bv []) (anyv),
  ob 5 1 .dom .wo 14 (bv []) (len 112 112 1),
  ob 6 1 .bool .wo 14 (nv 0) (el [1]),
  ob 7 1 .u8 .ro 0 (nv 0) (anyv),
  ob 8 1 .u32 .ro 0 (nv 0) (anyv)]⟩

/-- Record `0x9010` of spec/22_security_and_debug.md. -/
def recFirmwareSlot : Rec := ⟨0x9010, 4, [
  ob 1 1 .dom .wo 12 (bv []) (anyv),
  ob 2 1 .u8 .ro 0 (nv 0) (anyv),
  ob 3 1 .u8 .ro 0 (nv 0) (anyv),
  ob 4 1 .u32 .ro 0 (nv 0) (anyv),
  ob 5 1 .bool .ro 0 (nv 0) (anyv)]⟩

/-- Record `0xA000` of spec/23_faults.md. -/
def recFaultControl : Rec := ⟨0xA000, 1, [
  ob 1 1 .bool .rw 12 (nv 0) (anyv),
  ob 2 1 .u16 .rw 12 (nv 100) (bt 10 10000),
  ob 3 1 .u8 .rw 12 (nv 2) (bt 1 4),
  ob 4 1 .u16 .rw 12 (nv 1000) (bt 100 10000),
  ob 5 1 .u8 .rw 12 (nv 24) (bt 0 0x1F),
  ob 6 1 .bool .wo 14 (nv 0) (el [1]),
  ob 7 1 .bool .ro 0 (nv 1) (anyv),
  ob 8 1 .bool .ro 0 (nv 0) (anyv),
  ob 9 1 .bool .wo 12 (nv 0) (el [1]),
  ob 10 1 .u8 .wo 12 (nv 0) (bt 1 3),
  ob 11 1 .u32 .ro 0 (nv 0) (anyv)]⟩

/-- Record `0xA001` of spec/23_faults.md. -/
def recHostLog : Rec := ⟨0xA001, 1, [
  ob 0 1 .dom .ro 0 (bv []) (anyv)]⟩

/-- Record `0xA002` of spec/23_faults.md. -/
def recFieldLog : Rec := ⟨0xA002, 1, [
  ob 0 1 .dom .ro 0 (bv []) (anyv)]⟩

/-- Record `0xA003` of spec/23_faults.md. -/
def recFieldMirror : Rec := ⟨0xA003, 1, [
  ob 0 1 .dom .ro 0 (bv []) (anyv)]⟩

/-- Record `0xA008` of spec/23_faults.md. -/
def recHostLogStatus : Rec := ⟨0xA008, 1, [
  ob 1 1 .u16 .ro 0 (nv 0) (anyv),
  ob 2 1 .u32 .ro 0 (nv 0) (anyv),
  ob 3 1 .u32 .ro 0 (nv 0) (anyv)]⟩

/-- Record `0xA009` of spec/23_faults.md. -/
def recFieldLogStatus : Rec := ⟨0xA009, 1, [
  ob 1 1 .u16 .ro 0 (nv 0) (anyv),
  ob 2 1 .u32 .ro 0 (nv 0) (anyv),
  ob 3 1 .u32 .ro 0 (nv 0) (anyv)]⟩

/-- Record `0xA010` of spec/23_faults.md. -/
def recHandling : Rec := ⟨0xA010, 1, [
  ob 0 1 .dom .ro 0 (bv []) (anyv)]⟩

/-- Every record of the dictionary, in ascending index (R326, R343). -/
def records : List Rec :=
  [recIdentity, recFuseStatus, recDictionaryInfo, recImageControl, recImageStatus, recSessionContext, recCommitGroup, recHostPort, recNgalis, recRing, recSession, recSpanControl, recSpanChannel, recSpanFirewall, recMasterTime, recSlaveTime]
  ++ [recPtpPort, recPtpServo, recCapture, recTimeOutputs, recClocks, recDomainSwitch, recMeter, recHostGates, recFieldGates, recPowerControl, recDvfs, recOperatingPoint, recStartControl, recResetCause, recBlockReset, recGpio]
  ++ [recCalSubject, recCalLimits, recPierCal, recAgeing, recHeadCal, recWebSource, recEncoderConfig, recEncoderStatus, recSpsConfig, recSpsStatus, recPositionCertainty, recLineGenerator, recOverspeed, recScheduleControl, recScheduleTable, recScheduleInsert]
  ++ [recScheduleCancel, recPlaneSchedule, recClosureConfig, recPlaneConfig, recJointTable, recTrestle, recPlaneCheck, recHeadRecord, recPierConfig, recPortStatus, recFiringTiming, recHeadFiring, recHeadThermal, recHealthControl, recDefectTable, recDefectEdit]
  ++ [recOverflowQueue, recPlaneHealth, recHeadHealth, recResistanceMap, recStripStore, recPageQueue, recInflateStatus, recPlaneInflate, recEngineStatus, recScreenConfig, recToneCurve, recDropLevelMap, recRedistribution, recThresholdMatrix, recNozzleTable, recScreenStatus]
  ++ [recCameraPort, recCameraStatus, recSensorControl, recTriggerConfig, recCameraSelect, recPipelineConfig, recDefectPixels, recFlatField, recDensityLut, recColourMatrix, recOutputs, recPreviewLut, recAnalysisControl, recCameraOffset, recPlaneRender, recStreakConfig]
  ++ [recRegistrationLoop, recDramConfig, recDramPolicy, recDramStatus, recRegionMap, recCompressionControl, recChannel, recDuplexControl, recDuplexStatus, recStayLane, recSecurity, recDebug, recFirmwareSlot, recFaultControl, recHostLog, recFieldLog]
  ++ [recFieldMirror, recHostLogStatus, recFieldLogStatus, recHandling]

/-- The highest subindex of a record (R326). -/
def Rec.highest (r : Rec) : Nat := r.objs.foldl (fun m d => max m (d.sub + d.subs - 1)) 0

/-- The row of `HighestSub` that a record of several objects has at subindex 00 (R326). -/
def Rec.highestRow (r : Rec) : Desc := ob 0 1 .u8 .ro 0 (nv r.highest) anyv

/-- The record that holds index `ix`. -/
def recOf (ix : Nat) : Option Rec :=
  records.find? (fun r => decide (r.base ≤ ix ∧ ix < r.base + r.count))

/-- The row of key `key`; subindex 00 of a record that lists none is its `HighestSub` (R326). -/
def descOf (key : Nat) : Option Desc :=
  match recOf (key / 256) with
  | none => none
  | some r =>
    match r.objs.find? (fun d => decide (d.sub ≤ key % 256 ∧ key % 256 < d.sub + d.subs)) with
    | some d => some d
    | none => if key % 256 = 0 then some r.highestRow else none

/-- The default of the object at `key` (0 for a key that names no object). -/
def objDefault (key : Nat) : Val :=
  match recOf (key / 256), descOf key with
  | some r, some d => d.dflt (key / 256 - r.base) (key % 256 - d.sub)
  | _, _ => .num 0

/-- The field-island objects (R332, R339, R410, R430, R450, R467, R493, R506, R521); every other object is held by the host
island. `FieldClocks` 0x2001 is taken as a field object (DEDUCED, log entry 5). -/
def isField (ix : Nat) : Bool :=
  ix == 0x1002 || (0x1200 ≤ ix && ix < 0x1300) || ix == 0x1601 || (0x1624 ≤ ix && ix < 0x1628)
    || ix == 0x2001 || ix == 0x2004 || ix == 0x2005 || ix == 0x2009 || ix == 0x2011
    || (0x2101 ≤ ix && ix < 0x2200) || ix == 0x2202 || ix == 0x2210 || (0x2300 ≤ ix && ix < 0x9000)
    || (0xA000 ≤ ix && ix < 0xA100 && ix != 0xA001 && ix != 0xA008)

end Sys2Proof.Machine
end

