-- ==== Sys2Proof/Machine/Operands.lean ====
section
/-! DEFINITION. Operand forms: byte order (R21), sign extension, the encodings of the value types (R22, R23, R327), the CRCs
(R55, R124, R175) and the rounding of quotients. -/

namespace Sys2Proof.Machine

/-! ### Byte order and width -/

/-- The number that a little-endian byte string spells (R21). -/
def leNat : Bytes → Nat
  | [] => 0
  | b :: r => b.toNat + 256 * leNat r

/-- `n` in `w` little-endian bytes, two's complement when negative (R21). -/
def leBytes : Nat → Int → Bytes
  | 0, _ => []
  | w + 1, n => BitVec.ofInt 8 n :: leBytes w (n / 256)

/-- The number that a big-endian byte string spells (network headers, R21). -/
def beNat (b : Bytes) : Nat := leNat b.reverse

/-- `n` in `w` big-endian bytes. -/
def beBytes (w : Nat) (n : Int) : Bytes := (leBytes w n).reverse

/-- The low `w` bits of `n`. -/
def low (w : Nat) (n : Int) : Nat := (n % (2 ^ w : Nat)).toNat

/-- Two's complement of the low `w` bits of `n`. -/
def sext (w : Nat) (n : Int) : Int :=
  let u : Int := n % (2 ^ w : Nat)
  if u < (2 ^ (w - 1) : Nat) then u else u - (2 ^ w : Nat)

/-- The signed number that a little-endian byte string spells. -/
def leInt (b : Bytes) : Int := sext (8 * b.length) (leNat b)

/-- `n` bytes of `b` from offset `o` on (fewer at the end). -/
def sub (b : Bytes) (o n : Nat) : Bytes := (b.drop o).take n

/-- The unsigned field of `n` bytes at offset `o`. -/
def fld (b : Bytes) (o n : Nat) : Nat := leNat (sub b o n)

/-- The signed field of `n` bytes at offset `o`. -/
def sfld (b : Bytes) (o n : Nat) : Int := sext (8 * n) (fld b o n)

/-- Bits [hi:lo] of `n`. -/
def bits (n hi lo : Nat) : Nat := n / 2 ^ lo % 2 ^ (hi + 1 - lo)

/-- Bit `i` of `n`. -/
def bit (n i : Nat) : Bool := n / 2 ^ i % 2 == 1

/-- `n` with bit `i` set to `v`. -/
def setBit (n i : Nat) (v : Bool) : Nat :=
  if bit n i = v then n else if v then n + 2 ^ i else n - 2 ^ i

/-- `n` limited to the range `lo` to `hi` (R145). -/
def clamp (n lo hi : Int) : Int := max lo (min n hi)

/-- Ceiling of a quotient of naturals. -/
def cdiv (a b : Nat) : Nat := (a + b - 1) / b

/-! ### Lists -/

/-- An element put before the first that it does not follow. -/
def insBy {α : Type} (le : α → α → Bool) (a : α) : List α → List α
  | [] => [a]
  | b :: r => if le a b then a :: b :: r else b :: insBy le a r

/-- A list in ascending order; equal elements keep their order. -/
def sortBy {α : Type} (le : α → α → Bool) : List α → List α
  | [] => []
  | a :: r => insBy le a (sortBy le r)

/-- Lists of at most `n` elements that make up a list. -/
def chunks {α : Type} (n : Nat) : Nat → List α → List (List α)
  | 0, _ => []
  | _ + 1, [] => []
  | k + 1, l => l.take n :: chunks n k (l.drop n)

/-! ### Rounding -/

/-- The quotient rounded to nearest, ties up. -/
def near (a b : Int) : Int := (2 * a + b) / (2 * b)

/-- A quotient that the spec does not say how to round: exact where it divides, else the floor or one more, free (log
entry 6). -/
def freeDiv (a b : Int) : Int :=
  if a % b = 0 then a / b else if Config.roundUp a b then a / b + 1 else a / b

/-! ### Records of objects -/

/-- The instance of a record of `n` indices from `base` on that an index names. -/
def within (base n ix : Nat) : Option Nat := if base ≤ ix ∧ ix < base + n then some (ix - base) else none

/-- An index lies in a record of `n` indices from `base` on. -/
def inRec (base n ix : Nat) : Bool := decide (base ≤ ix ∧ ix < base + n)

/-! ### Value types (R327) -/

/-- The container of a fixed-width type in bytes; 0 for STRING and DOMAIN. -/
def Ty.bytes : Ty → Nat
  | .bool | .u8 => 1
  | .u16 | .i16 | .u14 | .s14 | .q2 => 2
  | .u32 | .i32 | .q16 | .stamp => 4
  | .u64 | .i64 | .q48 => 8
  | .time => 10
  | .str | .dom => 0

/-- The type code of R327. -/
def Ty.code : Ty → Nat
  | .bool => 1 | .u8 => 2 | .u16 => 3 | .u32 => 4 | .u64 => 5 | .i16 => 6 | .i32 => 7 | .i64 => 8 | .u14 => 9
  | .s14 => 10 | .q2 => 11 | .q16 => 12 | .q48 => 13 | .stamp => 14 | .time => 15 | .str => 16 | .dom => 17

/-- The value that the bytes of a write spell; none where they break the encoding of the type (R22, R327). -/
def decodeVal (ty : Ty) (b : Bytes) : Option Val :=
  match ty with
  | .dom => some (.bytes b)
  | .str => if b.length ≤ 255 && b.all (fun x => decide (x.toNat < 0x80)) then some (.bytes b) else none
  | _ =>
    if b.length ≠ ty.bytes then none
    else
      let n := leNat b
      match ty with
      | .bool => if n ≤ 1 then some (.num n) else none
      | .i16 | .i32 | .i64 => some (.num (leInt b))
      | .u14 => if n < 0x4000 then some (.num n) else none
      | .s14 => let v := leInt b
                if -0x2000 ≤ v ∧ v < 0x2000 then some (.num v) else none
      | .time => let ns := fld b 6 4
                 if ns < 1000000000 then some (.num ((fld b 0 6 * 1000000000 + ns : Nat))) else none
      | _ => some (.num n)

/-- A value in its container (R21, R22, R327). -/
def encodeVal (ty : Ty) (v : Val) : Bytes :=
  match v with
  | .bytes b => b
  | .num n =>
    match ty with
    | .time => leBytes 6 (n / 1000000000) ++ leBytes 4 (n % 1000000000)
    | _ => leBytes ty.bytes n

/-! ### Cyclic redundancy checks -/

/-- One bit step of the reflected CRC-32 (R124). -/
def crc32Bit (c : BitVec 32) : BitVec 32 :=
  if c.getLsbD 0 then (c >>> 1) ^^^ 0xEDB88320#32 else c >>> 1

/-- One byte of the CRC-32. -/
def crc32Byte (c : BitVec 32) (b : Byte) : BitVec 32 :=
  crc32Bit (crc32Bit (crc32Bit (crc32Bit (crc32Bit (crc32Bit (crc32Bit (crc32Bit (c ^^^ b.setWidth 32))))))))

/-- CRC-32 of R124: reflected 0xEDB8_8320, preset to ones, result inverted. -/
def crc32 (b : Bytes) : Nat := (~~~ (b.foldl crc32Byte 0xFFFFFFFF#32)).toNat

/-- One bit step of the CRC-8 of R175. -/
def crc8Bit (c : BitVec 8) : BitVec 8 :=
  if c.getLsbD 7 then (c <<< 1) ^^^ 0x07#8 else c <<< 1

/-- One byte of the CRC-8. -/
def crc8Byte (c b : Byte) : Byte :=
  crc8Bit (crc8Bit (crc8Bit (crc8Bit (crc8Bit (crc8Bit (crc8Bit (crc8Bit (c ^^^ b))))))))

/-- CRC-8 of R175: x⁸ + x² + x + 1, preset 0, no inversion. -/
def crc8 (b : Bytes) : Byte := b.foldl crc8Byte 0

/-- The serial sensor's CRC (R55): `n` data bits of `w`, most significant first, register of `cb` bits preset to `init`,
polynomial `poly` with an implicit top term. -/
def spsCrc (cb poly w : Nat) : Nat → Nat → Nat
  | 0, reg => reg
  | n + 1, reg =>
    let top := bit reg (cb - 1) != bit w n
    let sh := reg * 2 % 2 ^ cb
    spsCrc cb poly w n (if top then sh ^^^ poly else sh)

/-- The bytes of a 64-bit block, byte 0 first (R173). -/
def blockBytes (b : Block) : Bytes := leBytes 8 b.toNat

/-- A control block's payload with its Check in [63:56] (R175). -/
def withCheck (p : Nat) : Block :=
  let b : Nat := p % 2 ^ 56
  BitVec.ofNat 64 (b + (crc8 (leBytes 7 (b : Int))).toNat * 2 ^ 56)

/-- Whether a control block's Check is right (R175). -/
def checkOk (b : Block) : Bool := crc8 (leBytes 7 ((b.toNat % 2 ^ 56 : Nat) : Int)) == BitVec.ofNat 8 (b.toNat / 2 ^ 56)

end Sys2Proof.Machine
end

