-- ==== Sys2Proof/Machine/State.lean ====
section
/-! DEFINITION. The state of the AZ9: every register, queue, buffer, counter, mode and pin that the spec names. The
dictionary's objects live in `dict`; what the spec gives the machine beyond them lives in one structure per unit. -/

namespace Sys2Proof.Machine

/-- How a command can stop the machine. No command of the AZ9 faults: the spec reports every error as an event, an abort or
a status (log entry 2); the one constructor names the case that no rule reaches. Safe: nothing raises it. -/
inductive Fault where
  /-- Raised by nothing. Safe. -/
  | none
  deriving DecidableEq, Repr

/-- Why a command has no meaning in this model. -/
inductive Refusal where
  /-- A row whose meaning is not written yet, rejected by name (raised in Dispatch only). Safe. -/
  | notModelled (mnemonic : String)
  /-- A role-V access to an object of 0xF000-0xFFFF, which R343 calls not documented (raised by accesses). Safe. -/
  | vendorObject
  /-- A debug write, whose contents R502 leaves undocumented (raised by DEBUG_REQ). Safe. -/
  | debugWrite
  deriving DecidableEq, Repr

/-- An event as R344 records it, with the island that raised it and its handling instance (R507, R514). -/
structure EventRec where
  side : Side
  code : Nat
  cls : Nat
  stamp : Nat
  line : Int
  plane : Nat
  seq : Nat
  w0 : Nat
  w1 : Nat
  w2 : Nat
  inst : Nat
  flags : Nat
  deriving DecidableEq, Repr

/-- The pins and pairs that the AZ9 drives. -/
inductive Pin where
  | webSlow | faultN | ppsOut | spsClk
  | evtOut (n : Nat) | hstb (h : Nat) | trig (c : Nat) | resetOut (n : Nat) | gpio (n : Nat)
  deriving DecidableEq, Repr

/-- What one command sends out of the AZ9. `State.out` holds the emissions of the last command (the model's own field, log
entry 3). -/
inductive Emit where
  /-- The answer to an access: abort code (0 for none) and the value read. -/
  | reply (sess : Nat) (abort : Nat) (body : Bytes)
  /-- An Ngalis message to a session. -/
  | message (sess : Nat) (typ : Nat) (body : Bytes)
  /-- An Ngalis message to an address with no session (a refusal in the clear). -/
  | toPeer (port : Nat) (peer : Bytes) (typ : Nat) (body : Bytes)
  /-- A message that leaves an egress ring at its launch, with its Late flag (R376). -/
  | launch (ring : Nat) (sess : Nat) (late : Bool) (typ : Nat) (body : Bytes)
  /-- The Ngalis datagrams of one message that leave a port for a peer (R357-R359). -/
  | wire (port : Nat) (peer : Bytes) (parts : List Bytes)
  /-- An answer of the network layers: 1 ARP or neighbour advertisement, 2 echo reply (R355). -/
  | frame (port : Nat) (proto : Nat) (peer : Bytes) (body : Bytes)
  /-- An event raised. -/
  | event (e : EventRec)
  /-- A Span message handed to the sending side's packer. -/
  | span (dir : Side) (typ : Nat) (body : Bytes)
  /-- A cell that starts on Span channel `chan` at an instant (0.1 ns): control block, 252 payload bytes, CRC-32 (R383, R384). -/
  | cell (chan : Nat) (at_ : Nat) (ctrl : Block) (data : Bytes) (crc : Nat)
  /-- Pier blocks on HTX of head port `h`, in order, from instant `at_` (0.1 ns); `true` marks a control block. -/
  | pier (h : Nat) (at_ : Nat) (blocks : List (Bool × Block))
  /-- The frame in progress on HTX of head port `h` ends at instant `at_`: its blocks from there on do not leave, and control
  blocks that wait for its end follow the block that ends it (R186, R206). -/
  | pierCut (h : Nat) (at_ : Nat)
  /-- A level driven on a pin. -/
  | pin (p : Pin) (level : Bool)
  /-- Every output of an island is high impedance: a rail is below its threshold (R532). -/
  | hiZ (i : Side)
  /-- A message on the Stay link. -/
  | stay (kind : Nat) (body : Bytes)
  /-- An I²C record or CSI-2 action on camera `c`. -/
  | camera (c : Nat) (kind : Nat) (body : Bytes)
  /-- A DRAM command on subchannel `u`: 1 REFab at an instant in 0.1 ns, 2 the ACT and PRE of a neighbour row, 3 the rewrite of a burst, 4 SRE,
  5 SRX, 6 PREab (R290, R298, R303, R305). -/
  | dram (u : Nat) (kind : Nat) (arg : Nat)
  /-- A request to the voltage regulator, mV. -/
  | avs (mv : Nat)
  /-- A PTP message at a host port. -/
  | ptp (port : Nat) (body : Bytes)
  deriving DecidableEq, Repr


/-! ## The part (spec/00, 19, 22) -/

/-- The identity fuse bank (R7, R8): fixed for the part's life. -/
structure Ident where
  /-- Variant, 0 to 11, in the order of R3. -/
  variant : Nat
  stepping : Nat
  uniqueId : Nat
  deriving DecidableEq, Repr
/-! ## Web position (spec/02) -/

/-- One encoder channel: the last accepted levels, the stamps behind the speed, and the index function. -/
structure Enc where
  /-- Last accepted levels (R44), or the reference of transition mode (R45). -/
  a : Bool
  b : Bool
  /-- Present levels at the balls. -/
  ballA : Bool
  ballB : Bool
  z : Bool
  /-- Stamp in ns of the last accepted edge on A or B (R44). -/
  last : Option Nat
  /-- Stamps on the field time base, in ns, of the last accepted count edges of the present direction, newest first, at most five
  (R58, R406). -/
  hist : List Int
  /-- Edges since a standstill, up to 3; the clamp of R60 holds at the second. -/
  since : Nat
  /-- Reported speed as a fraction, counts/s (R58). -/
  vN : Nat
  vD : Nat
  /-- Stamps in ns of rejected edges, newest first (R62). -/
  rejects : List Nat
  /-- Net counts since the last evaluated index; none before a first reference (R51). -/
  idxR : Option Int
  /-- The index function disarmed by R52. -/
  idxStuck : Bool
  /-- Armed by `IndexArm` in mode 2 (R540). -/
  idxArm : Bool
  /-- Accepted counts with Z active in a row (R52). -/
  zCount : Nat
  /-- After a re-arm, Z must first go inactive (R52). -/
  zWait : Bool
  deriving DecidableEq, Repr

/-- An encoder channel at reset. -/
def Enc.init : Enc :=
  { a := false, b := false, ballA := false, ballB := false, z := false, last := none, hist := [], since := 0, vN := 0, vD := 1, rejects := [],
    idxR := none, idxStuck := false, idxArm := false, zCount := 0, zWait := false }

/-- A scaled source switch (R64): decided, and in effect from the first accepted edge. -/
structure Scaled where
  /-- `CheckRatio` at the decision, Q16.48. -/
  ratio : Int
  started : Bool
  deriving DecidableEq, Repr

/-- The web position unit. -/
structure Web where
  enc : List (Nat × Enc)
  /-- Schedule position and its high-water mark, 48 fraction bits (R64, R76). -/
  pos : Int
  posHwm : Int
  scaled : Option Scaled
  /-- Reference of the cross-check: accumulated primary and check changes since it (R63). -/
  chkOn : Bool
  chkPri : Int
  chkChk : Int
  /-- Last sensor word used by the cross-check, when the check source is the sensor (R57). -/
  chkSps : Option Nat
  /-- Net accepted counts of the primary at the request of that word. -/
  chkSample : Int
  /-- A disagreement stands since the last evaluation (R66). -/
  disagree : Bool
  /-- Net counts accepted on the primary, which no load changes (R53, R57, R63). -/
  net : Int
  /-- The last refresh tick in ns (R56). -/
  spsTick : Option Nat
  /-- An outstanding sensor request: instant in ns and net accepted counts at the request (R56). -/
  spsReq : Option (Nat × Int)
  spsBad : Nat
  /-- Instant in ns of the last bit of the previous word (R56). -/
  spsEnd : Option Nat
  spsLoad : Bool
  /-- Basis of the predictions (R71): stamp in ns, speed in counts/s and direction at the last accepted edge of the source. -/
  lineT : Nat
  lineVN : Nat
  lineVD : Nat
  lineFwd : Bool
  /-- A prediction was withdrawn since the last edge, at the limit of the extrapolation or by blank-web (R72). -/
  limited : Bool
  deriving DecidableEq, Repr

/-- The web position unit at reset. -/
def Web.init : Web :=
  { enc := [], pos := 0, posHwm := 0, scaled := none, chkOn := false, chkPri := 0, chkChk := 0, chkSps := none, chkSample := 0,
    disagree := false, net := 0, spsTick := none, spsReq := none, spsBad := 0, spsEnd := none, spsLoad := false,
    lineT := 0, lineVN := 0, lineVD := 1, lineFwd := true, limited := false }

/-! ## Position schedule (spec/03) -/

/-- A schedule entry (R86) with its insertion sequence (R90). `lineKey` is bit 0 of Form. -/
structure SchedEntry where
  key : Int
  phase : Nat
  lineKey : Bool
  plane : Nat
  notify : Bool
  action : Nat
  order : Nat
  param : Nat
  tag : Nat
  seq : Nat
  deriving DecidableEq, Repr

/-- An RWL write that waits for its line (R99). -/
structure RwlWrite where
  plane : Nat
  line : Int
  key : Nat
  val : Int
  deriving DecidableEq, Repr

/-- A camera trigger executed by the schedule and not yet pulsed (R82). -/
structure Trigger where
  seq : Nat
  camera : Nat
  key : Int
  lineKey : Bool
  plane : Nat
  phase : Nat
  tag : Nat
  /-- Predicted or fixed instant in 0.1 ns; none while no prediction is offered. -/
  due : Option Nat
  committed : Bool
  delayed : Bool
  /-- The pulse comes from a late entry (R242); it has been delayed by R241. -/
  late : Bool
  spaced : Bool
  deriving DecidableEq, Repr

/-- An open closure (R83). -/
structure Closure where
  plane : Nat
  mask : Nat
  line : Int
  maxLines : Nat
  deriving DecidableEq, Repr

/-- The position schedule. -/
structure Sched where
  table : List SchedEntry
  nextSeq : Nat
  rwl : List RwlWrite
  trigs : List Trigger
  nextTrig : Nat
  /-- Open closures by number. -/
  closures : List (Nat × Closure)
  deriving DecidableEq, Repr

/-- The schedule at reset: empty (R98). -/
def Sched.init : Sched :=
  { table := [], nextSeq := 0, rwl := [], trigs := [], nextTrig := 0, closures := [] }

/-! ## Planes, pages and strips (spec/02, 04, 05) -/

/-- One band of a page descriptor (R130). -/
structure Band where
  first : Nat
  cols : Nat
  blank : Bool
  deriving DecidableEq, Repr

/-- A page descriptor (R130) in its plane's queue, with its start line once known to be started and its last line. -/
structure Page where
  job : Nat
  page : Nat
  length : Nat
  startMode : Nat
  startLine : Int
  format : Nat
  res : Nat
  stripLines : Nat
  bands : List Band
  /-- Plane line at which the page started. -/
  start : Option Int
  /-- Last plane line of the page once started (shortened by R133, R134). -/
  last : Int
  /-- The page after it may start as CHAINED (false after R134, R141). -/
  chain : Bool
  /-- Waits for a PageStart only (R132, R134). -/
  waits : Bool
  /-- Truncated or aborted: it leaves without PageDone (R133, R134). -/
  cut : Bool
  /-- Tiles that faulted: page line and column of the tile (R140). -/
  faulted : List (Nat × Nat)
  /-- Page line of the first tile whose inflate point has not been judged (R140 step 2). -/
  judged : Nat
  deriving DecidableEq, Repr

/-- Where a strip stands (R137-R140). -/
inductive StripState where
  | deposited
  | inflating (e : Nat)
  | verified (raw : Bytes)
  | failed (crc : Bool)
  deriving DecidableEq, Repr

/-- A strip of the strip store (R123). -/
structure Strip where
  job : Nat
  page : Nat
  plane : Nat
  firstLine : Nat
  firstCol : Nat
  lineCount : Nat
  cols : Nat
  format : Nat
  res : Nat
  comp : Nat
  raw : Nat
  crc : Nat
  data : Bytes
  st : StripState
  bound : Bool
  /-- Its tile has faulted: freed without printing (R140). -/
  dead : Bool
  /-- The engine that faulted with it, which does not take it again (R143). -/
  notOn : Option Nat
  deriving DecidableEq, Repr

/-- An opened line of a plane that has not been screened (R78, R155): the configuration and nozzle table in force when it
opened, its page, and the heads set to fire it (R110). -/
structure OpenLine where
  line : Int
  /-- Job, page and start line of its page; none for a line in no page. -/
  page : Option (Nat × Nat × Int)
  /-- Page line 0: the error terms are cleared first (R164). -/
  fresh : Bool
  heads : List Nat
  cfg : List (Nat × Val)
  ntab : List (Nat × Nat)
  deriving DecidableEq, Repr

/-- One plane's line generator and line path. -/
structure Plane where
  /-- Accumulator and high-water mark in 2⁻⁴⁸ line (R68). -/
  acc : Int
  hwm : Int
  /-- Lines per schedule count in 2⁻⁴⁸: `LinesPerCount`, or Q_k of R64. -/
  q : Int
  /-- First line that opened at the enable, F of R78. -/
  first : Int
  /-- Last opened line. -/
  opened : Int
  lines : List OpenLine
  /-- Line of a whole-plane PlaneDisable (R84). -/
  stop : Option Int
  pages : List Page
  /-- The line at which the CHAINED page that was at the head as its predecessor's last line opened starts (R132). -/
  next : Option Int
  /-- The last line of the page that was screened to its end last (R392). -/
  printed : Option Int
  /-- The high-water mark at the last enable (R205). -/
  hwm0 : Int
  /-- A commit of `Mode`, `Levels` or `LedWeights` clears the error terms before this line (R164). -/
  clearErr : Option Int
  /-- The render extension's range of the trestle region: offset and size (R271). -/
  ext : Option (Nat × Nat)
  /-- The anchor (s0, a0) of the last enable, in 2⁻⁴⁸ (R268). -/
  ancS : Int
  ancA : Int
  /-- The line up to which the renderer has read the trestle, by camera, and a run of render overruns (R271). -/
  readTo : List (Nat × Int)
  overrun : Bool
  /-- The plane was enabled at the edge in progress and has opened no line yet (R90). -/
  opening : Bool
  /-- A PageStart found no page: none starts but by a later PageStart (R80). -/
  noPage : Bool
  /-- First and last lines of the dot pages that this run has started (R231). -/
  dots : List (Int × Int)
  deriving DecidableEq, Repr

/-- A plane at reset. -/
def Plane.init : Plane :=
  { acc := 0, hwm := 0, q := 0, first := 0, opened := 0, lines := [], stop := none, pages := [], next := none, printed := none, hwm0 := 0,
    clearErr := none, ext := none, ancS := 0, ancA := 0, readTo := [], overrun := false, opening := false, noPage := false, dots := [] }

/-- One inflate engine's strip (R136): the key of the strip it holds. -/
structure EngineJob where
  job : Nat
  page : Nat
  plane : Nat
  firstLine : Nat
  firstCol : Nat
  deriving DecidableEq, Repr

/-- The strip store and the inflate engines. -/
structure Strips where
  held : List Strip
  /-- Pages that have left their plane's queue (R127): plane, job, page. -/
  gone : List (Nat × Nat × Nat)
  engines : List (Nat × Option EngineJob)
  /-- Strips discarded because they matched no tile of their page (R128). -/
  mismatches : Nat
  deriving DecidableEq, Repr

/-- The strip store at reset: empty. -/
def Strips.init : Strips := { held := [], gone := [], engines := [], mismatches := 0 }

/-! ## Screening (spec/06) -/

/-- A composite contribution that waits for its target line (R153, R231). -/
structure Composite where
  plane : Nat
  line : Int
  col : Int
  amount : Nat
  deriving DecidableEq, Repr

/-- The screening array: nozzle table, error memory and composite contributions. Sparse maps by nozzle channel. -/
structure Screen where
  /-- Nozzle table entries; an unlisted channel reads the default entry 0x4000 (R154). -/
  ntab : List (Nat × Nat)
  /-- Error terms of LED mode, S14; an unlisted channel holds 0 (R162). -/
  err : List (Nat × Int)
  comps : List Composite
  /-- Amounts of R230 for substitutes on the next line: contone amounts and dot levels. -/
  seconds : List Composite
  secondDots : List Composite
  deriving DecidableEq, Repr

/-- The screening array at reset. -/
def Screen.init : Screen := { ntab := [], err := [], comps := [], seconds := [], secondDots := [] }

/-! ## Firing (spec/08) -/

/-- Where a line stands on a head between screening and its final entry. -/
inductive FireState where
  /-- Not committed, or withdrawn by reversal. -/
  | waiting
  /-- Committed: the strobe instant is fixed. -/
  | committed
  /-- Strobed: in its confirmation window. -/
  | strobed
  deriving DecidableEq, Repr

/-- Where the frame of a line stands (R203-R206). -/
inductive FrameState where
  | closed | window | sent | aborted
  deriving DecidableEq, Repr

/-- One line on one head (R111, R203). -/
structure FireLine where
  line : Int
  /-- T(h, L) in 2⁻⁴⁸ line. -/
  target : Int
  /-- Drop codes once screened, and the drop count per energy class (R166). -/
  codes : Option (List Nat)
  classes : List Nat
  st : FireState
  /-- The committed strobe instant, 0.1 ns. -/
  ts : Nat
  /-- The committed instant of the head's previous undropped line when this one was committed (R74, R202). -/
  prev : Option Nat
  /-- STAMP32 of the strobe (R207). -/
  stamp : Nat
  frame : FrameState
  /-- Instants at which the first bit of LSTART and the last bit of LEND leave HTX, 0.1 ns (R204, R206). -/
  frameStart : Nat
  frameEnd : Nat
  energy : Nat
  drops : Nat
  flags : Nat
  /-- The withholding outcome decided and its resolution still to come (R203). -/
  hold : Option Nat
  /-- Marked at risk (R214) and what LINE STATs its window has seen (R208, R216). -/
  atRisk : Bool
  sawStat : Bool
  sawHard : Bool
  /-- A STAT of another kind in its window had Hard set, with the head not in Hard (R216). -/
  cut : Bool
  deriving DecidableEq, Repr

/-- One entry of the fired-line record (R207). -/
structure FireRec where
  line : Int
  outcome : Nat
  flags : Nat
  energy : Nat
  drops : Nat
  stamp : Nat
  final : Bool
  deriving DecidableEq, Repr

/-- One head: its lines in flight, its record, its thermal inputs and its measurement in progress. -/
structure Head where
  lines : List FireLine
  /-- The fired-line record, oldest first, and entries that wait for those of earlier lines (R207). -/
  record : List FireRec
  held : List FireRec
  /-- Entries appended since the record was last empty (R209). -/
  pushed : Nat
  /-- Entries at the end of the record that belong to the plane's present run, and the lines of it whose final outcome leaves their ink in
  doubt (R226, R270). -/
  fresh : Nat
  doubt : List Int
  /-- How far the inspection renderer has read (entries read since the oldest held). -/
  unread : Nat
  /-- Strobe level and the instant of the last strobe. -/
  hstb : Bool
  /-- Committed instant of the previous undropped line (R74, R201). -/
  prevTs : Option Nat
  /-- The last line that opened on the head in this run of its plane, with its target (R84). -/
  fixed : Option (Int × Int)
  /-- Instant at which the previous line was resolved (R203). -/
  resolved : Option Nat
  /-- Lines resolved since the last strobe (R219). -/
  quiet : Nat
  /-- Runs of dropped and of late lines: first line and length (R74, R204). -/
  dropRun : Option (Int × Nat)
  lateRun : Option (Int × Nat)
  /-- The head left Hard and no frame window has opened since (R215). -/
  afterHard : Bool
  /-- A Hard state was left through NoData (R213). -/
  hardPending : Bool
  /-- Heat of lines strobed since the last control cycle: class counts (R217). -/
  heat : List Nat
  /-- Instant of the last rising edge on HSTB, 0.1 ns (R197). -/
  hstbAt : Nat
  /-- LastLine of the last LINE STAT (R181). -/
  lastStat : Option Nat
  /-- A takeover whose first line is still to come (R490): 0, or the instant at which the port came UP. -/
  take : Option Nat
  /-- The head's trestle ring: screened lines with their codes, newest first (R116). -/
  slots : List (Int × List Nat)
  /-- Lines that the renderer cannot read: a slot or an entry was overwritten or lost (R270, R291). -/
  blind : List Int
  deriving DecidableEq, Repr

/-- A head at reset. -/
def Head.init : Head :=
  { lines := [], record := [], held := [], pushed := 0, fresh := 0, doubt := [], quiet := 0, unread := 0, hstb := false, prevTs := none, fixed := none, resolved := none, dropRun := none,
    lateRun := none, afterHard := false, hardPending := false, heat := [], hstbAt := 0, lastStat := none, take := none, slots := [], blind := [] }

/-! ## Fault log and handling (spec/23) -/

/-- One part of the fault log (R510-R513): the entries held, oldest first, and the input queue. -/
structure LogPart where
  entries : List EventRec
  queue : List EventRec
  /-- An entry was lost: the next one written carries Gap. -/
  gap : Bool
  /-- An ERROR or FATAL entry found the queue full of such entries: a log overflow (R513, R518). -/
  overflow : Bool
  /-- Instant at which the writing of the oldest queued entry began (R513), 0.1 ns. -/
  begun : Nat
  deriving DecidableEq, Repr

/-- An empty part. -/
def LogPart.init : LogPart := { entries := [], queue := [], gap := false, overflow := false, begun := 0 }

/-- A handling instance under way (R514, R517). -/
structure Handling where
  side : Side
  subsys : Nat
  inst : Nat
  step : Nat
  held : Bool
  start : Nat
  /-- Instant of the last ERROR or FATAL event, 0.1 ns. -/
  last : Nat
  deriving DecidableEq, Repr

/-- The fault machinery: the two log parts, the handling instances of each island, the events of the present control
cycle whose steps are still to be taken, and the event sequence numbers. -/
structure Flt where
  hostLog : LogPart
  fieldLog : LogPart
  mirror : List (Option EventRec)
  /-- Entries that the mirror has taken since the start (R512). -/
  mirrored : Nat
  handling : List Handling
  todo : List EventRec
  hostSeq : Nat
  fieldSeq : Nat
  /-- FAULT_N latched (R519). -/
  latched : Bool
  /-- A failure of the fault machinery of an island is latched (R518). -/
  hostOverrun : Bool
  fieldOverrun : Bool
  /-- A power-cycle request stands (R520). -/
  powerCycle : Bool
  deriving DecidableEq, Repr

/-- The fault machinery after power-on: empty logs, FAULT_N asserted through `FaultNState` (R519). -/
def Flt.init : Flt :=
  { hostLog := .init, fieldLog := .init, mirror := [], mirrored := 0, handling := [], todo := [], hostSeq := 0, fieldSeq := 0,
    latched := false, hostOverrun := false, fieldOverrun := false, powerCycle := false }

/-! ## Time bases (spec/17) -/

/-- A time base (R396, R404): its value in 2⁻³² ns since the epoch and its increment per 4 ns tick, Q8.32. -/
structure TimeBase where
  val : Int
  inc : Int
  deriving DecidableEq, Repr

/-- A capture unit's FIFO and event count (R408). -/
structure CapUnit where
  recs : List Bytes
  seen : Nat
  lost : Bool
  deriving DecidableEq, Repr

/-- A capture unit at reset. -/
def CapUnit.init : CapUnit := { recs := [], seen := 0, lost := false }

/-- The two time bases, the slave servo, the captures and the time outputs. -/
structure Tim where
  master : TimeBase
  slave : TimeBase
  /-- I and r of R404 in 2⁻³⁵ ppm, a TIME since the last step, and the run counts of R405. -/
  servoI : Int
  servoR : Int
  first : Bool
  inBand : Nat
  outBand : Nat
  /-- Instant of the last TIME, 0.1 ns (R405). -/
  lastTime : Option Nat
  /-- Start of the present control cycle: instant of it, 0.1 ns, and the slave value in ns at which the next begins (R407). -/
  cycleAt : Nat
  cycleNext : Option Int
  caps : List (Nat × CapUnit)
  /-- Levels of PPS_OUT, EVT_OUT0 and EVT_OUT1, and the last target each output fired, ns (R409). -/
  ppsHigh : Bool
  evtHigh : List Nat
  ppsLast : Option Int
  evtLast : List (Nat × Int)
  /-- PTP exchange in progress of the firmware clock (R403). -/
  ptp : List Int
  deriving DecidableEq, Repr

/-- The time unit at reset: both clocks at 0, nominal increments (R396, R397). -/
def Tim.init : Tim :=
  { master := ⟨0, 4 * 2 ^ 32⟩, slave := ⟨0, 4 * 2 ^ 32⟩, servoI := 0, servoR := 0, first := false, inBand := 0, outBand := 0,
    lastTime := none, cycleAt := 0, cycleNext := none, caps := [], ppsHigh := false, evtHigh := [], ppsLast := none,
    evtLast := [], ptp := [] }

/-! ## Commit groups and DOMAIN transfers (spec/14) -/

/-- An open write transfer (R341): session, object, bytes so far, total length, instant of the last block. -/
structure Transfer where
  sess : Nat
  key : Nat
  data : Bytes
  total : Nat
  last : Nat
  deriving DecidableEq, Repr

/-- The commit groups' staged values, and the open transfers. -/
structure Groups where
  /-- Staged values by group: (group, (key, value)) in ascending group; each list in ascending key. -/
  staged : List (Nat × List (Nat × Val))
  transfers : List Transfer
  deriving DecidableEq, Repr

/-- The commit groups at reset: empty (R339). -/
def Groups.init : Groups := { staged := [], transfers := [] }

/-! ## Sessions and rings (spec/15) -/

/-- A verified message of a session that waits for the control path, for its Sequence, or in an ingress ring. -/
structure NetMsg where
  seq : Nat
  typ : Nat
  body : Bytes
  /-- Instant of its arrival, 0.1 ns (R367). -/
  at_ : Nat
  deriving DecidableEq, Repr

/-- A message under reassembly (R358): header bytes 0-19, the parts received and the instant of the first. -/
structure RxPart where
  seq : Nat
  head : Bytes
  parts : List (Nat × Bytes)
  first : Nat
  deriving DecidableEq, Repr

/-- A STRIP on its way (R368): the deposit's number, the STRIP's Sequence and the container's place. -/
structure StripWait where
  deposit : Nat
  seq : Nat
  plane : Nat
  job : Nat
  page : Nat
  firstLine : Nat
  firstCol : Nat
  deriving DecidableEq, Repr

/-- A response that a session holds (R360): the Sequences of the request and of the response, its Type and its body. -/
structure Answered where
  seq : Nat
  tx : Nat
  typ : Nat
  body : Bytes
  deriving DecidableEq, Repr

/-- One session context (R361-R372) with its session-relative objects (R330). -/
structure Sess where
  /-- Instant of the HELLO, 0.1 ns. -/
  hsAt : Nat
  /-- The HELLO bodies up to DeviceSig, and the key material of R359. -/
  transcript : Bytes
  key : Bytes
  /-- Roles of the credential, once KEYX is verified (bit 0 X, 1 O, 2 S, 3 V). -/
  cred : Option Nat
  /-- H of R360 and N of R367, and the Sequences at or above N received. -/
  hi : Nat
  low : Nat
  recvd : List Nat
  /-- Sequences that became passed and have not arrived (R367). -/
  passed : List Nat
  /-- The responses held, oldest first (R360). -/
  resp : List Answered
  txSeq : Nat
  /-- Messages waiting for the control path, and accesses waiting or running in Sequence order. -/
  ctl : List NetMsg
  wait : List NetMsg
  parts : List RxPart
  strips : List StripWait
  streams : Nat
  classMin : Nat
  /-- `StagingGroup` (R336), and the UDP port that took the HELLO (R378). -/
  staging : Nat
  udp : Nat
  evLost : Nat
  gap : Bool
  /-- Instants of the last verified message, of the last message sent and of the last AuthFailure event, 0.1 ns. -/
  lastRx : Nat
  lastTx : Nat
  authAt : Option Nat
  deriving DecidableEq, Repr

/-- A free context: the session-relative objects at their defaults (R330). -/
def Sess.init : Sess :=
  { hsAt := 0, transcript := [], key := [], cred := none, hi := 0, low := 1, recvd := [], passed := [], resp := [], txSeq := 1,
    ctl := [], wait := [], parts := [], strips := [], streams := 1, classMin := 1, staging := 0xFF, udp := 18700, evLost := 0, gap := false, lastRx := 0,
    lastTx := 0, authAt := none }

/-- A descriptor of a ring (R373): message type and body; for an ingress ring the Sequence; for an egress ring the instant it
became ready on the master time base, ns, and the stamp of its first record or item (R375). -/
structure Descr where
  typ : Nat
  body : Bytes
  seq : Nat
  ready : Int
  stamp : Nat
  deriving DecidableEq, Repr

/-- The host network: session contexts, the contents of the rings, waiting HELLOs and the deposits numbered so far. -/
structure Net where
  sess : List (Nat × Sess)
  rings : List (Nat × List Descr)
  hellos : List (Nat × Bytes × Bytes)
  nextDeposit : Nat
  noContextAt : Option Nat
  deriving DecidableEq, Repr

/-- The host network at reset: no session (R372). -/
def Net.init : Net := { sess := [], rings := [], hellos := [], nextDeposit := 0, noContextAt := none }

/-! ## The Span (spec/16) -/

/-- A cell received and not yet taken in CellSeq order (R383, R384); `bad` marks a cell error. -/
structure Cell where
  seq : Nat
  typ : Nat
  first : Bool
  last : Bool
  data : Bytes
  bad : Bool
  chan : Nat
  at_ : Nat
  deriving DecidableEq, Repr

/-- The receiver of one class of one direction: the next CellSeq, cells held for reordering, and the message under assembly
(type, payload so far, whether it holds a cell error). -/
structure CellRx where
  next : Nat
  held : List Cell
  msg : Option (Nat × Bytes × Bool)
  deriving DecidableEq, Repr

/-- A receiver before any cell. -/
def CellRx.init : CellRx := { next := 0, held := [], msg := none }

/-- A cell that waits at a sender (R383): type, First, Last, class, CellSeq, payload, and the instant from which it waits, 0.1 ns. -/
structure TxCell where
  typ : Nat
  first : Bool
  last : Bool
  cls : Nat
  seq : Nat
  data : Bytes
  at_ : Nat
  deriving DecidableEq, Repr

/-- The packer of one direction (R383, R384): the next CellSeq of each class, the cells that wait, the instants from which its six channels
are free (0.1 ns), and the classes of the last 63 cells, newest first. -/
structure Packer where
  seq0 : Nat
  seq1 : Nat
  wait0 : List TxCell
  wait1 : List TxCell
  free : List Nat
  sent : List Nat
  deriving DecidableEq, Repr

/-- A packer before any cell. -/
def Packer.init : Packer := { seq0 := 0, seq1 := 0, wait0 := [], wait1 := [], free := [0, 0, 0, 0, 0, 0], sent := [] }

/-- The packers of the two islands. -/
structure Pack where
  host : Packer
  field : Packer
  deriving DecidableEq, Repr

/-- The packers at reset. -/
def Pack.init : Pack := { host := .init, field := .init }

/-- One crossing channel at its receiver: instants of its cell errors (R389), good LINK_TESTs in a row (R390), and the counters that
LINK_STATE carries: cell errors, IDLE blocks inserted and deleted (R385). -/
structure Chan where
  errs : List Nat
  tests : Nat
  bad : Nat
  ins : Nat
  del : Nat
  deriving DecidableEq, Repr

/-- A channel before any cell. -/
def Chan.init : Chan := { errs := [], tests := 0, bad := 0, ins := 0, del := 0 }

/-- The Span: both directions' receivers, the channels, the sessions and credits known to the field island, the messages that
wait at each island, and the judgement of loss. -/
structure Span where
  rx : List (Nat × CellRx)
  chans : List (Nat × Chan)
  /-- Sessions that SESSION_NOTE opened: session, role, streams (R387). -/
  noted : List (Nat × Nat × Nat)
  /-- Free descriptors by ring, as STREAM_CREDIT gave them. -/
  credit : List (Nat × Nat)
  inH : List (Nat × Bytes)
  inF : List (Nat × Bytes)
  /-- RxGood of each direction's receiver and TxUse of its sender, six bits each (R389). -/
  goodH2F : Nat
  goodF2H : Nat
  useH2F : Nat
  useF2H : Nat
  /-- Instants of the last valid message at each island, 0.1 ns, and the judgements of loss (R392, R393). -/
  validH : Nat
  validF : Nat
  lostH : Bool
  lostF : Bool
  /-- What each island has received since the loss: a LINK_STATE, any message (R394). -/
  linkH : Bool
  linkF : Bool
  /-- `LossTimeout` of the field island in ms (R395). -/
  fieldLoss : Nat
  /-- Instant of the last SpanFirewallDrop of the field island and of the host island, 0.1 ns (R387, R388). -/
  fwAt : Option Nat
  fwHost : Option Nat
  /-- BOOT_REQs outstanding: image, reason, offset, length (R387). -/
  bootReq : List (Nat × Nat × Nat × Nat)
  /-- Images whose copy in the firmware region is marked bad (R291). -/
  badBoot : List Nat
  /-- BOOT_DATA received by image: bytes from offset 0. -/
  boot : List (Nat × Bytes)
  counts : Nat
  /-- Instant of the last periodic messages, and of the last LINK_TEST by channel, 0.1 ns (R386, R390). -/
  sentAt : Option Nat
  testAt : List (Nat × Nat)
  /-- Slave time at the stamp point of a TIME cell that has arrived and waits (R382). -/
  timeAt : Option Int
  /-- Field events were raised while the Span was lost, and the sessions whose next field record carries Gap (R392). -/
  missed : Bool
  gaps : List Nat
  deriving DecidableEq, Repr

/-- The Span at reset: no channel locked. -/
def Span.init : Span :=
  { rx := [], chans := [], noted := [], credit := [], inH := [], inF := [], goodH2F := 0, goodF2H := 0, useH2F := 0, useF2H := 0,
    validH := 0, validF := 0, lostH := false, lostF := false, linkH := false, linkF := false, fieldLoss := 10, fwAt := none, fwHost := none,
    bootReq := [], badBoot := [], boot := [], counts := 0, sentAt := none, testAt := [], timeAt := none, missed := false, gaps := [] }

/-! ## Clocks and power (spec/18) -/

/-- The crystal monitor of an island (R411-R413): counts of the present series of good windows. -/
structure Xtal where
  series : List Nat
  deriving DecidableEq, Repr

/-- Where the DVFS sequencer stands (R423). -/
inductive DvfsStep where
  | idle
  /-- Raise: the voltage write has gone out and no status has come. -/
  | raiseStatus
  /-- Raise: the voltage is polled. -/
  | raisePoll
  /-- Raise: the voltage is reached; `SettleTime` runs, or the PLL still locks. -/
  | raiseSettle
  /-- Lower: the idle PLL locks. -/
  | lowerLock
  /-- Lower: the frequency has switched and the voltage write awaits its status. -/
  | lowerStatus
  deriving DecidableEq, Repr

/-- The DVFS sequencer: its step, the point it moves to, the latest target held, the start of the transition and of the settle
time (0.1 ns), and whether the idle PLL is locked. -/
structure Dvfs where
  step : DvfsStep
  next : Nat
  target : Nat
  start : Nat
  settle : Option Nat
  locked : Bool
  deriving DecidableEq, Repr

/-- Clocks and power. -/
structure Pow where
  xtalH : Xtal
  xtalF : Xtal
  dvfs : Dvfs
  /-- The field island's own power state, and the latest request held during a transition as 8 times its tag plus its state (R427, R429). -/
  state : Nat
  held : Option Nat
  /-- Camera ports disabled by the step to STANDBY, to be enabled again (R427). -/
  cams : Nat
  /-- Domains whose multiplexer waits for an edge of the present source (R416). -/
  muxWait : List (Nat × Nat)
  /-- Gates whose close waits for a busy bus port: island (0 host), bit (R418). -/
  gateWait : List (Nat × Nat)
  /-- Writes that raised the need and complete with the transition (R422): session, object, value. -/
  later : List (Nat × Nat × Val)
  /-- HOLD by loss of the Span (R392 step 4, FIELD_STATUS bit 2). -/
  spanHold : Bool
  deriving DecidableEq, Repr

/-- Clocks and power at reset: oscillators only, the field island not started. -/
def Pow.init : Pow :=
  { xtalH := ⟨[]⟩, xtalF := ⟨[]⟩,
    dvfs := { step := .idle, next := 0, target := 2, start := 0, settle := none, locked := false },
    state := 4, held := none, cams := 0, muxWait := [], gateWait := [], later := [], spanHold := false }

/-! ## Reset and start-up (spec/19) -/

/-- One island's episode (R433, R434). -/
structure Episode where
  /-- The episode runs: the release point has not been reached. -/
  active : Bool
  /-- Sources asserted now, and seen in the episode (bits of R432). -/
  asserted : Nat
  seen : Nat
  /-- Effective reach: 0 COLD, 1 WARM, 2 ISLAND (R434). -/
  reach : Nat
  /-- Fuse loading runs; loads that failed in this sequence (R439, R440). -/
  loading : Bool
  failed : Nat
  /-- Instant of the release of the last source, 0.1 ns. -/
  released : Nat
  /-- End of the timed sources asserted, 0.1 ns (R432). -/
  pulseEnd : Nat
  /-- The island's firmware runs. -/
  run : Bool
  deriving DecidableEq, Repr

/-- A power-on episode whose source has released, with the fuse load under way. -/
def Episode.init : Episode :=
  { active := true, asserted := 0, seen := 1, reach := 0, loading := true, failed := 0, released := 0, pulseEnd := 0, run := false }

/-- Resets and start-up. -/
structure Rst where
  host : Episode
  field : Episode
  /-- `ConfirmStart` was written during the present start (R446). -/
  confirmed : Bool
  /-- Start of the boot watchdog, 0.1 ns (R446). -/
  watchdog : Option Nat
  recovery : Bool
  /-- Host firmware has served a field boot since it started, or found the field island running (R444). -/
  served : Bool
  /-- Step reached on the field side: 5 boot, 6 ageing, 7 training, 8 bring-up, 9 enumeration, 10. -/
  fieldStep : Nat
  /-- Blocks that wait for idle before their reset: kind, instance and the instant of the request, 0.1 ns (R437). -/
  waiting : List (BlockKind × Nat × Nat)
  deriving DecidableEq, Repr

/-- Resets at the release of power-on. -/
def Rst.init : Rst :=
  { host := .init, field := .init, confirmed := false, watchdog := none, recovery := false, served := false, fieldStep := 0,
    waiting := [] }

/-! ## Fuses, flash, keys and debug (spec/14 images, spec/22) -/

/-- A copy of the ageing log in the boot flash (R463): its Sequence and its entries, oldest first. -/
structure AgeCopy where
  seq : Nat
  entries : List Bytes
  deriving DecidableEq, Repr

/-- A copy of what the boot header holds: its Sequence, the two credential floors and `ObserverOpen` (R501). -/
structure BootHeader where
  seq : Nat
  vendor : Nat
  owner : Nat
  opened : Bool
  deriving DecidableEq, Repr

/-- The boot flash: the Renvos copies and the firmware slots (empty: erased), the slots marked failed, an image operation in progress, the
ageing log and the boot header. -/
structure Flash where
  copyA : Bytes
  copyB : Bytes
  slots : List (Nat × Bytes)
  /-- Mask of slots marked failed (R498). -/
  marked : Nat
  /-- A save in progress: copy (1 A, 2 B) and the image to write (R349). -/
  saving : Option (Nat × Bytes)
  /-- The two copies of the ageing log (R463). -/
  ageA : AgeCopy
  ageB : AgeCopy
  /-- The two copies of the boot header (R501). -/
  headA : BootHeader
  headB : BootHeader
  deriving DecidableEq, Repr

/-- An empty flash. -/
def Flash.init : Flash := { copyA := [], copyB := [], slots := [], marked := 0, saving := none, ageA := ⟨0, []⟩, ageB := ⟨0, []⟩, headA := ⟨0, 0, 0, false⟩, headB := ⟨0, 0, 0, false⟩ }

/-- Keys, lifecycle and debug beyond the objects. -/
structure Sec where
  /-- A lifecycle advance whose fuses are being blown (R495). -/
  advance : Option Nat
  /-- The challenge in force: its bytes, the instant of its read and its number (R503). -/
  challenge : Option (Bytes × Nat)
  seq : Nat
  /-- End of the grant, 0.1 ns; none until locked. Signer of the grant: 0 vendor, 1 owner, 2 open. -/
  grantEnd : Option Nat
  signer : Nat
  /-- Roles that each open session's credential admits, and its issuer, by session (R500, R501). -/
  creds : List (Nat × Nat)
  /-- Highest SecurityVersion that the field island has run since its last COLD sequence (R498). -/
  fieldRun : Nat
  /-- Firmware slots in use and the one being activated (R466). -/
  armed : Bool
  activateAt : Option Nat
  /-- A halt of field debug stands (R502). -/
  halted : Bool
  deriving DecidableEq, Repr

/-- Security at reset. -/
def Sec.init : Sec :=
  { advance := none, challenge := none, seq := 0, grantEnd := none, signer := 2, creds := [], fieldRun := 0,
    armed := false, activateAt := none, halted := false }

/-! ## Duplex (spec/21) -/

/-- A part of a journal item (R477), or a health item (R476): its number, staging group, part flags and offset, effect lines of planes
0-3, entry head and value (for a health item, the R223 entry), and the records that carried it: the first and the last of an unbroken run. -/
structure MirrorItem where
  seq : Nat
  group : Nat
  flags : Nat
  off : Nat
  effect : List Int
  head : Bytes
  val : Bytes
  sent : Option (Nat × Nat)
  deriving DecidableEq, Repr

/-- The duplex unit: what an ACTIVE keeps for its peer and what a STANDBY holds of its active. -/
structure Dux where
  /-- Instant from which `PairTimeout` counts (R469, R470), 0.1 ns. -/
  since : Option Nat
  peerSide : Nat
  peerFaulted : Nat
  /-- Greatest epoch seen anywhere, M of R484. -/
  maxEpoch : Nat
  /-- Instants of the last STATUS and of the last valid MIRROR, 0.1 ns. -/
  statusAt : Option Nat
  mirrorAt : Option Nat
  /-- Instant at which a port last reported a changed LastLine (R491). -/
  lastLineAt : Nat
  /-- CycleSeq of the last record sent, and the last JournalSeq given. -/
  cycle : Nat
  jseq : Nat
  journal : List MirrorItem
  health : List MirrorItem
  /-- Tail entries not yet acknowledged: R207 entry and the records that carried it, as for journal items. -/
  tail : List (Bytes × Option (Nat × Nat))
  /-- A snapshot is in progress (R482). -/
  snapshot : Bool
  /-- STANDBY: last CycleSeq received, last JournalSeq applied from this ACTIVE, the parts received of a long value. -/
  got : Option Nat
  applied : Option Nat
  part : Bytes
  /-- STANDBY: the count offset seen last, how often in a row, and the adopted one (R479). -/
  dLast : Int
  dRun : Nat
  dAdopted : Option Int
  /-- STANDBY: OpenedLine of each plane in the records received (R480), the last Backlog, and the state of the snapshot: applied
  whole with every record since (R482). -/
  openedLine : List Int
  backlog : Nat
  snapDone : Bool
  /-- STANDBY: the last record came with a snapshot in progress. -/
  snapIn : Bool
  /-- The active part's last epoch and whether RELINQUISH was received. -/
  peerEpoch : Nat
  relinquished : Bool
  /-- The peer left the pair by a STATUS with Role 0 (R470). -/
  peerSolo : Bool
  /-- Instant of the decision of the last takeover, until its first strobe (LastGap). -/
  takeAt : Option Nat
  /-- PROBEs without echo: token and instant; the last latencies (R473). -/
  probes : List (Nat × Nat)
  lat : List Nat
  token : Nat
  /-- Instant of the last PROBE, 0.1 ns. -/
  probeAt : Nat
  conflict : Bool
  deriving DecidableEq, Repr

/-- The duplex unit at reset: SOLO. -/
def Dux.init : Dux :=
  { since := none, peerSide := 0, peerFaulted := 0, maxEpoch := 0, statusAt := none, mirrorAt := none, lastLineAt := 0, cycle := 0,
    jseq := 0, journal := [], health := [], tail := [], snapshot := false, got := none, applied := none,
    part := [], dLast := 0, dRun := 0, dAdopted := none, openedLine := [0, 0, 0, 0], backlog := 0, snapDone := false, snapIn := false, peerEpoch := 0,
    relinquished := false, peerSolo := false, takeAt := none, probes := [], lat := [], token := 0, probeAt := 0, conflict := false }
/-! ## Pier link (spec/07) -/

/-- One head port beyond its objects. What a bonded link shares is held alike in each of its ports. -/
structure Port where
  /-- UP since the pier last entered service (R194). -/
  wasUp : Bool
  /-- An attempt is due (R189, R190); `fallback` says on which path, `fails` how many main attempts in a row have failed. -/
  due : Bool
  fallback : Bool
  fails : Nat
  /-- Start of the attempt and of the step in progress, 0.1 ns. -/
  start : Nat
  stageAt : Nat
  /-- Steps 2 to 4 are done on HRX; the carrier reports RxBlockLock; it reports Aligned. -/
  locked : Bool
  rxLock : Bool
  aligned : Bool
  /-- IDENTITY data by part of the attempt in progress (R181). -/
  ident : List (Nat × Nat)
  /-- The epoch claimed in step 8 (R191). -/
  claim : Option Nat
  /-- CarrierId last seen (R220). -/
  seen : Option Nat
  /-- Instant of the last LINE STAT, 0.1 ns (R193). -/
  statAt : Nat
  /-- Instant at which the port entered DOWN to wait for `RetryInterval` (R190). -/
  downAt : Option Nat
  /-- Instant of the last ControlCheckError, 0.1 ns. -/
  checkAt : Option Nat
  /-- MarkSeq of the lane (R179), and the slot at which its last MARK fell due, 0.1 ns (R186). -/
  markSeq : Nat
  markAt : Nat
  /-- Eye width of the lane at the last adaptation, 1/64 UI; none before one (R454). -/
  eye : Option Nat
  /-- The end of a frame in progress for which control blocks wait, and how many; the instant until which HTX carries the blocks that
  follow a frame that was cut, 0.1 ns (R186, R206). -/
  waits : Nat × Nat
  htxAt : Nat
  deriving DecidableEq, Repr

/-- A port before its first attempt. -/
def Port.init : Port :=
  { wasUp := false, due := false, fallback := false, fails := 0, start := 0, stageAt := 0, locked := false, rxLock := false,
    aligned := false, ident := [], claim := none, seen := none, statAt := 0, downAt := none, checkAt := none, markSeq := 0, markAt := 0, eye := none,
    waits := (0, 0), htxAt := 0 }

/-! ## Nozzle health (spec/09) -/

/-- A defect entry (R223), with what the rules of probes and pending entries need: the instant it was applied, whether a value in
limits came since, the line where its probe took effect, and the instant of its last valid window. Instants in ns of the field
time base. -/
structure Defect where
  chan : Nat
  kind : Nat
  source : Nat
  method : Nat
  applied : Bool
  proposed : Bool
  probe : Bool
  unhidden : Bool
  manual : Nat
  forced : Bool
  stamp : Nat
  confirms : Nat
  clears : Nat
  value : Nat
  appliedAt : Int
  okSince : Bool
  probeLine : Int
  validAt : Int
  deriving DecidableEq, Repr

/-- The result of one measured nozzle that waits for the control cycle: channel, value, and the class of a confirmed finding (0
open, 1 short, 2 drift), none for a value in limits (R221, R222). -/
structure ResResult where
  chan : Nat
  value : Nat
  cls : Option Nat
  deriving DecidableEq, Repr

/-- The inspection report of a window (R226, R276): its plane, camera and lines, the channels found missing (4) or deviated (5),
and the channels found clear; only channels for which the window is usable appear. -/
structure Report where
  plane : Nat
  camera : Nat
  first : Int
  last : Int
  partialFrame : Bool
  found : List (Nat × Nat)
  clear : List Nat
  deriving DecidableEq, Repr

/-- The nozzle health unit. -/
structure Health where
  table : List Defect
  queue : List Defect
  res : List ResResult
  reports : List Report
  /-- Channels whose entry enters probe in the next control cycle (R232, R234). -/
  probes : List Nat
  /-- Planes whose methods must be selected again (R228). -/
  dirty : List Nat
  /-- Channels whose entry has changed since the last control cycle (R476). -/
  touched : List Nat
  /-- The table was full when last judged (R236), and the instant of the last DefectLost, 0.1 ns. -/
  full : Bool
  lostAt : Option Nat
  /-- The lines from which a new State or Hide of a channel holds (R226). -/
  changed : List (Nat × Int)
  deriving DecidableEq, Repr

/-- The unit at reset: empty. -/
def Health.init : Health := { table := [], queue := [], res := [], reports := [], probes := [], dirty := [], touched := [], full := false, lostAt := none, changed := [] }

/-- The measurements of one head (R219-R222, R456-R459). -/
structure Meas where
  /-- A sweep is in progress, or due for a new carrier; its values are the baseline run. -/
  sweeping : Bool
  due : Bool
  baseline : Bool
  /-- The next nozzle of the sweep. -/
  next : Nat
  /-- The chunk in progress: first nozzle, count, kind, and whether it is a confirmation. -/
  chunk : Option (Nat × Nat × Nat × Bool)
  /-- Nozzles of the chunk that have been reported. -/
  got : Nat
  /-- Values that wait for their confirmation: nozzle, value, class (R222). -/
  confirm : List (Nat × Nat × Nat)
  /-- A temperature-offset run is due (R459). -/
  offset : Bool
  /-- End of the last complete sweep, ns of the field time base. -/
  doneAt : Int
  /-- HeaterDriftTrend has been raised for this carrier (R458). -/
  drifted : Bool
  deriving DecidableEq, Repr

/-- A head before any measurement. -/
def Meas.init : Meas :=
  { sweeping := false, due := false, baseline := false, next := 0, chunk := none, got := 0, confirm := [], offset := false, doneAt := 0,
    drifted := false }

/-! ## Calibration and ageing (spec/20) -/

/-- A run that is due (R452): subject, instance, the instant it fell due (ns of the field time base), and whether it has been
reported as overdue. -/
structure CalDue where
  subj : Nat
  inst : Nat
  since : Int
  warned : Bool
  deriving DecidableEq, Repr

/-- A flat-field run of a camera (R460): its start (0.1 ns), good frames so far, and per column the sum of stage-3 values and the
number of rows. -/
structure FlatRun where
  start : Nat
  frames : Nat
  sums : List Nat
  rows : Nat
  deriving DecidableEq, Repr

/-- Calibration and the ageing log. -/
structure Cal where
  due : List CalDue
  /-- DieTemp at the last accepted run, by 256 × subject + instance (R451). -/
  temps : List (Nat × Nat)
  flats : List (Nat × FlatRun)
  /-- End of the last DRAM retrain, 0.1 ns (R455). -/
  retrained : Option Nat
  /-- The ageing log that field firmware holds, oldest first, and the Sequence of its next entry (R463). -/
  log : List Bytes
  logSeq : Nat
  /-- Instant of the last measurement of the ring oscillators, 0.1 ns (R461). -/
  roAt : Option Nat
  deriving DecidableEq, Repr

/-- Calibration at reset. -/
def Cal.init : Cal := { due := [], temps := [], flats := [], retrained := none, log := [], logSeq := 0, roAt := none }

/-! ## Cameras (spec/10) -/

/-- An expectation (R242): the stamp of its pulse (ns of the field time base), the trigger's key, the schedule position at the pulse,
and the flags that its frame carries. -/
structure Expect where
  tp : Int
  key : Int
  lineKey : Bool
  plane : Nat
  phase : Nat
  pos : Int
  delayed : Bool
  late : Bool
  deriving DecidableEq, Repr

/-- A generation (R246-R248): its number, the start of its first record and its end (ns of the field time base), whether it failed,
and the records still to be sent. -/
structure Gen where
  num : Nat
  first : Option Int
  done : Option Int
  failed : Bool
  recs : List Bytes
  deriving DecidableEq, Repr

/-- A frame (R240-R250). `cfg` holds the camera's objects in force at its Frame Start (R265); `ref` the stamp of the Frame Start of frame
n − d (R248); `rows` the stage-1 values of each line received, none for an invalid one; `pos` the high-water mark of the
schedule position at its start. -/
structure Frame where
  cam : Nat
  num : Nat
  accepted : Bool
  inLine : Bool
  exp : Option Expect
  field : Nat
  /-- Its place among the accepted frames since the enable, from 1. -/
  idx : Nat
  start : Int
  /-- The marks of the four planes at its Frame Start, in 2⁻⁴⁸ line (R274). -/
  marks : List Int
  ref : Option Int
  cfg : List (Nat × Val)
  rows : List (Option (List Nat))
  long : Bool
  /-- The metadata record once the frame has ended (R249). -/
  head : Bytes
  /-- It occupies a slot of its ring; the pipeline has finished with it; coding jobs that read it (R250). -/
  slot : Bool
  done : Bool
  jobs : Nat
  deriving DecidableEq, Repr

/-- One camera port. -/
structure Cam where
  /-- Frame Starts on `ImageVc` since the enable, and their latest stamps, newest first (R240, R248). -/
  count : Nat
  starts : List Int
  expects : List Expect
  frame : Option Frame
  /-- Instant of the last packet of the frame, 0.1 ns (R243). -/
  packet : Nat
  /-- Frames that have ended and occupy ring slots, oldest first. -/
  ring : List Frame
  /-- Generations queued, the ones that have ended, and the reads of the last with reads: its number and bytes (R246). -/
  queue : List Gen
  ended : List Gen
  reads : Nat
  /-- The last generation completed before the enable (R248). -/
  gen0 : Nat
  /-- Start of the pulse that is active, and the end of the last one, 0.1 ns (R241). -/
  pulse : Option Nat
  pulseEnd : Option Nat
  /-- Instant of the last UntriggeredFrame, 0.1 ns. -/
  untrigAt : Option Nat
  /-- Accepted frames since the enable, for `PreviewEvery` and `CodeEvery`. -/
  seen : Nat
  /-- The D-PHY lanes are in their low-power receive state (R266). -/
  lowPower : Bool
  deriving DecidableEq, Repr

/-- A camera at reset. -/
def Cam.init : Cam :=
  { count := 0, starts := [], expects := [], frame := none, packet := 0, ring := [], queue := [], ended := [], reads := 0, gen0 := 0
    pulse := none, pulseEnd := none, untrigAt := none, seen := 0, lowPower := true }

/-- A preview that waits in the preview ring (R262): camera, frame number, start stamp and bytes. -/
structure Preview where
  cam : Nat
  num : Nat
  stamp : Nat
  data : Bytes
  deriving DecidableEq, Repr

/-- The cameras, the in-line camera in effect (R252), and the preview ring, oldest first. -/
structure Cams where
  cam : List (Nat × Cam)
  inLine : Nat
  previews : List Preview
  deriving DecidableEq, Repr

/-- The cameras at reset. -/
def Cams.init : Cams := { cam := [], inLine := 0, previews := [] }

/-! ## Inspection (spec/11) -/

/-- The statistics of a nozzle channel in an open window (R275): deficit, evidence, and whether an invalid expected value
touched its columns. -/
structure Stat where
  deficit : Int
  evidence : Nat
  bad : Bool
  deriving DecidableEq, Repr

/-- A window of a plane (R274): its index, first line and length, the plane's objects that apply to it (R284), the cameras it is closed
for, the cameras whose Partial frames took part, the statistics of its nozzle channels (R275), and the correlation sums of R279: across and
along. -/
structure Win where
  idx : Nat
  first : Int
  lines : Nat
  cfg : List (Nat × Val)
  closed : List Nat
  parts : List Nat
  stats : List (Nat × Stat)
  cx : List Nat
  cy : List Nat
  deriving DecidableEq, Repr

/-- One axis of a plane's registration loop (R281): its effect line, the slew used on the present page, and the last correction with its
line. -/
structure Axis where
  effect : Option Int
  used : Nat
  last : Nat
  lastLine : Int
  deriving DecidableEq, Repr

/-- An axis before any correction. -/
def Axis.init : Axis := { effect := none, used := 0, last := 0, lastLine := 0 }

/-- The analysis of one plane. -/
structure Ana where
  /-- First line and index of the window that begins next (R274). -/
  next : Int
  idx : Nat
  /-- Windows that have begun and are not closed for every enabled camera, oldest first. -/
  wins : List Win
  /-- The objects of the plane before the commits that take effect at a line still to open, and that line (R284). -/
  keep : Option (Int × List (Nat × Val))
  /-- Estimates of the last windows (R279): index, along and across in loop units. -/
  ests : List (Nat × Option Int × Option Int)
  /-- Errors that wait for the reference plane's window: index and first line. -/
  waits : List (Nat × Int)
  along : Axis
  across : Axis
  /-- Cmax when the extension was allocated (R271). -/
  cmax : Nat
  deriving DecidableEq, Repr

/-- The analysis of a plane that has never been enabled. -/
def Ana.init : Ana := { next := 0, idx := 0, wins := [], keep := none, ests := [], waits := [], along := .init, across := .init, cmax := 0 }

/-! ## DRAM (spec/12) -/

/-- An entry of a row-hammer table (R302). -/
structure HammerEntry where
  rank : Nat
  row : Nat
  count : Nat
  deriving DecidableEq, Repr

/-- One subchannel beyond its objects. Instants in 0.1 ns. -/
structure Sub where
  /-- The next REFab of the grid, and the last one issued (R296-R299). -/
  due : Nat
  last : Nat
  /-- Polls in a row at 85 °C or below since a hot one, and the instant of the last poll. -/
  cool : Nat
  polled : Nat
  /-- REFab issued since the tables were cleared (R304). -/
  since : Nat
  /-- The row-hammer tables by bank address (R302). -/
  tables : List (Nat × List HammerEntry)
  /-- Instants of uncorrectable reads, newest first (R292). -/
  errs : List Nat
  /-- Start of the retrain in progress (R301). -/
  retrain : Nat
  /-- `Ranks`, `Density` and `DataRate` as the last full training took them (R286). -/
  ranks : Nat
  density : Nat
  rate : Nat
  /-- The fill of line staging in percent as the last command on this subchannel saw it (R40, R297, R301). -/
  fill : Nat
  deriving DecidableEq, Repr

/-- A subchannel before training. -/
def Sub.init : Sub := { due := 0, last := 0, cool := 0, polled := 0, since := 0, tables := [], errs := [], retrain := 0, ranks := 1, density := 0, rate := 5600, fill := 0 }

/-! ## Compression (spec/13) -/

/-- The frame of a coding job (R263): camera, frame number, start stamp, and for a crop its first column, first row, width and height. -/
structure CodeSrc where
  cam : Nat
  num : Nat
  start : Int
  crop : Option (List Nat)
  deriving DecidableEq, Repr

/-- A compression job (R318-R323). `sess` is the submitting session, none for a coding job; `frame` the source of a coding job, with its
metadata in `head` and the bytes that it codes in `input`. -/
structure Job where
  id : Nat
  sess : Option Nat
  region : Nat
  mode : Nat
  level : Nat
  src : Nat
  len : Nat
  ring : Nat
  tag : Nat
  frame : Option CodeSrc
  head : Bytes
  input : Bytes
  /-- Archive bytes of the allotment not yet written, and the bytes written into the block being filled (R316). -/
  room : Nat
  fill : Bytes
  /-- Bits of the output stream that wait for a whole byte, and bytes that did not fit. -/
  bits : List Bool
  rest : Bytes
  /-- The last 32 KiB of input (R310), and the input of the block that `rest` belongs to. -/
  hist : Bytes
  held : Nat
  consumed : Nat
  produced : Nat
  /-- Bytes handed to STREAM messages. -/
  sent : Nat
  blocks : Nat
  stored : Nat
  raw : Bool
  crc : BitVec 32
  start : Option Nat
  /-- `Cancel` or the session's close waits for the end of the block (R324). -/
  cancel : Bool
  deriving DecidableEq, Repr

/-- A STREAM message of archive output that waits for the Span or for credit (R316, R386): channel, job, ring (0xFF by `Streams`), body,
the archive blocks that return to the pool when it is sent, and the block of the job's output that it carries part of (none: a record). -/
structure ArchMsg where
  chan : Nat
  job : Nat
  ring : Nat
  body : Bytes
  blocks : Nat
  part : Option Nat
  deriving DecidableEq, Repr

/-- One channel: the job that runs or is STOPPED with the instant of its stop, and the queue. -/
structure CompChan where
  run : Option Job
  stopAt : Option Nat
  queue : List Job
  /-- Coding jobs that this channel has run (R321). -/
  coded : Nat
  deriving DecidableEq, Repr

/-- A channel at reset. -/
def CompChan.init : CompChan := { run := none, stopAt := none, queue := [], coded := 0 }

/-- The compression unit. -/
structure Comp where
  chans : List (Nat × CompChan)
  /-- Messages that wait to be sent, oldest first. -/
  out : List ArchMsg
  deriving DecidableEq, Repr

/-- The unit at reset. -/
def Comp.init : Comp := { chans := [], out := [] }


/-! ## The whole machine -/

/-- The state of one AZ9 and its queue of waiting commands. -/
structure State where
  /-- Commands that wait, first in first out. -/
  pending : List Instr
  /-- Physical time of the last command, 0.1 ns. The model's own field (log entry 1). -/
  now : Nat
  ident : Ident
  /-- Objects whose value differs from their default, by key; keys rising (log entry 4). -/
  dict : List (Nat × Val)
  /-- Change counts of DOMAIN objects (R342). -/
  chg : List (Nat × Nat)
  /-- Emissions of the last command. The model's own field (log entry 3). -/
  out : List Emit
  /-- Counter that names the next free value. The model's own field (log entry 6). -/
  free : Nat
  flt : Flt
  /-- Host-island events raised by this command that wait for delivery to the sessions (R345). -/
  hostEv : List EventRec
  /-- Field-island events raised by this command that wait to cross the Span (R345). -/
  fieldEv : List EventRec
  tim : Tim
  web : Web
  sched : Sched
  planes : List (Nat × Plane)
  strips : Strips
  screen : Screen
  heads : List (Nat × Head)
  ports : List (Nat × Port)
  health : Health
  meas : List (Nat × Meas)
  cal : Cal
  cams : Cams
  ana : List (Nat × Ana)
  dram : List (Nat × Sub)
  comp : Comp
  groups : Groups
  net : Net
  span : Span
  pack : Pack
  pow : Pow
  rst : Rst
  flash : Flash
  sec : Sec
  dux : Dux
  deriving DecidableEq, Repr

/-- The AZ9 right after power-on reset: every field as its unit's `init` gives, the dictionary at its defaults, the queue
empty. The part is an AZ9-64DV (DESIGN CHOICE, log entry 7). -/
def State.reset : State :=
  { pending := [], now := 0, ident := { variant := 0, stepping := 0x0100, uniqueId := 0 }, dict := [], chg := [],
    out := [], free := 0, flt := .init, hostEv := [], fieldEv := [], tim := .init, web := .init, sched := .init, planes := [],
    strips := .init, screen := .init, heads := [], ports := [], health := .init, meas := [], cal := .init, cams := .init, ana := [], dram := [], comp := .init, groups := .init, net := .init, span := .init, pack := .init,
    pow := .init, rst := .init, flash := .init, sec := .init, dux := .init }

end Sys2Proof.Machine
end

