-- ==== Sys2Proof/Machine/Ops.lean ====
section
/-! DEFINITION. The named operations over the state: sparse maps, dictionary objects, time, emissions, free values, and the
raising of events with their log entry and their handling (R344, R507-R517). -/

namespace Sys2Proof.Machine

/-! ### Sparse maps: lists of (key, value), keys strictly rising, no value equal to the default -/

/-- The value at a key; the default where the key is not listed. -/
def smGet {α : Type} (d : Nat → α) : List (Nat × α) → Nat → α
  | [], k => d k
  | (k', v) :: r, k => if k' = k then v else smGet d r k

/-- The map without a key. -/
def smErase {α : Type} : List (Nat × α) → Nat → List (Nat × α)
  | [], _ => []
  | (k', v) :: r, k => if k' = k then smErase r k else (k', v) :: smErase r k

/-- The map with a pair put before the first greater key. -/
def smIns {α : Type} : List (Nat × α) → Nat → α → List (Nat × α)
  | [], k, v => [(k, v)]
  | (k', v') :: r, k, v => if k < k' then (k, v) :: (k', v') :: r else (k', v') :: smIns r k v

/-- The map with a key set; setting the default removes the entry. -/
def smSet {α : Type} [DecidableEq α] (d : Nat → α) (m : List (Nat × α)) (k : Nat) (v : α) : List (Nat × α) :=
  if v = d k then smErase m k else smIns (smErase m k) k v

/-- The map with a function applied to every value. -/
def smMap {α : Type} [DecidableEq α] (d : Nat → α) (f : α → α) (m : List (Nat × α)) : List (Nat × α) :=
  (m.map (fun p => (p.1, f p.2))).filter (fun p => decide (p.2 ≠ d p.1))

/-- The canonical form: keys strictly rising and no listed value equal to the default. -/
def smWf {α : Type} [DecidableEq α] (d : Nat → α) : List (Nat × α) → Bool
  | [] => true
  | (k, v) :: r => decide (v ≠ d k) && (match r with | [] => true | (k', _) :: _ => decide (k < k')) && smWf d r

/-! ### Dictionary objects -/

/-- The numeric value of an object in a dictionary, the live one or one that a line holds since it opened (0 for a byte
string). -/
def dnum (d : List (Nat × Val)) (key : Nat) : Int :=
  match smGet objDefault d key with | .num n => n | .bytes _ => 0

/-- The same as a natural. -/
def dnat (d : List (Nat × Val)) (key : Nat) : Nat := (dnum d key).toNat

/-- The bytes of a DOMAIN or STRING object in a dictionary. -/
def dbyt (d : List (Nat × Val)) (key : Nat) : Bytes :=
  match smGet objDefault d key with | .num _ => [] | .bytes b => b

/-- The value of the object at `key`. -/
def State.val (s : State) (key : Nat) : Val := smGet objDefault s.dict key

/-- The numeric value of an object. -/
def State.num (s : State) (key : Nat) : Int := dnum s.dict key

/-- The numeric value of an object as a natural. -/
def State.nat (s : State) (key : Nat) : Nat := dnat s.dict key

/-- A BOOL object. -/
def State.flag (s : State) (key : Nat) : Bool := s.num key != 0

/-- The bytes of a DOMAIN or STRING object. -/
def State.byt (s : State) (key : Nat) : Bytes := dbyt s.dict key

/-- The object at `key` takes value `v`; a DOMAIN object that changes raises its ChangeCount (R342). -/
def State.setVal (s : State) (key : Nat) (v : Val) : State :=
  { s with
    dict := smSet objDefault s.dict key v
    chg := match v with
      | .num _ => s.chg
      | .bytes _ => if s.val key = v then s.chg else smSet (fun _ => 0) s.chg key ((smGet (fun _ => 0) s.chg key + 1) % 65536) }

/-- A numeric object takes a value. -/
def State.setN (s : State) (key : Nat) (n : Int) : State := s.setVal key (.num n)

/-- A BOOL object takes a value. -/
def State.setF (s : State) (key : Nat) (b : Bool) : State := s.setVal key (.num (if b then 1 else 0))

/-- A DOMAIN object takes a value. -/
def State.setB (s : State) (key : Nat) (b : Bytes) : State := s.setVal key (.bytes b)

/-- The ChangeCount of a DOMAIN object whose bytes the model computes at each read rises by 1 (R342). -/
def State.touch (s : State) (key : Nat) : State :=
  { s with chg := smSet (fun _ => 0) s.chg key ((smGet (fun _ => 0) s.chg key + 1) % 65536) }

/-- A counter of `w` bits rises by `n` and wraps ("Wraps" in the object tables). -/
def State.bump (s : State) (key : Nat) (w : Nat) (n : Nat := 1) : State := s.setN key (((s.nat key + n) % 2 ^ w : Nat) : Int)

/-- A 32-bit counter rises by 1. -/
def State.inc (s : State) (key : Nat) : State := s.bump key 32

/-! ### Emissions, free values, pins -/

/-- One emission more. -/
def State.emit (s : State) (e : Emit) : State := { s with out := s.out ++ [e] }

/-- A level driven on a pin. -/
def State.pin (s : State) (p : Pin) (l : Bool) : State := s.emit (.pin p l)

/-- The next free value and the state after it (log entry 6). -/
def State.fresh (s : State) : Nat × State := (Config.freeNat s.free, { s with free := s.free + 1 })

/-! ### Units -/

/-- Encoder channel `e`. -/
def State.enc (s : State) (e : Nat) : Enc := smGet (fun _ => Enc.init) s.web.enc e
/-- Encoder channel `e` replaced. -/
def State.setEnc (s : State) (e : Nat) (x : Enc) : State :=
  { s with web := { s.web with enc := smSet (fun _ => Enc.init) s.web.enc e x } }
/-- Plane `k`. -/
def State.plane (s : State) (k : Nat) : Plane := smGet (fun _ => Plane.init) s.planes k
/-- Plane `k` replaced. -/
def State.setPlane (s : State) (k : Nat) (x : Plane) : State :=
  { s with planes := smSet (fun _ => Plane.init) s.planes k x }
/-- Head `h`. -/
def State.head (s : State) (h : Nat) : Head := smGet (fun _ => Head.init) s.heads h
/-- Head `h` replaced. -/
def State.setHead (s : State) (h : Nat) (x : Head) : State :=
  { s with heads := smSet (fun _ => Head.init) s.heads h x }
/-- A change of the position schedule. -/
def State.setSched (s : State) (x : Sched) : State := { s with sched := x }
/-- A change of the web position unit. -/
def State.setWeb (s : State) (x : Web) : State := { s with web := x }

/-! ### Time (R396, R399, R400) -/

/-- 4 ns ticks that pass between two instants in 0.1 ns. -/
def ticksBetween (a b : Nat) : Nat := b / 40 - a / 40

/-- A time base after `n` ticks (R396). -/
def TimeBase.advance (b : TimeBase) (n : Nat) : TimeBase := { b with val := b.val + b.inc * n }

/-- The state at instant `t`: physical time moves on (never back), both time bases count their ticks, and the emissions of
the last command are gone (log entries 1 and 3). -/
def State.tickTo (s : State) (t : Nat) : State :=
  let n := ticksBetween s.now (max s.now t)
  { s with
    now := max s.now t
    out := []
    tim := { s.tim with master := s.tim.master.advance n, slave := s.tim.slave.advance n } }

/-- A time base in whole ns since the epoch. -/
def TimeBase.ns (b : TimeBase) : Int := b.val / 2 ^ 32

/-- STAMP32 of a time in ns: seconds modulo 4 and nanoseconds (R400). -/
def stamp32 (ns : Int) : Nat := (ns % 4000000000).toNat

/-- The time of an island in ns: the master on the host, the slave on the field (R400). -/
def State.islandNs (s : State) : Side → Int
  | .host => s.tim.master.ns
  | .field => s.tim.slave.ns

/-- A time base at instant `now`, interpolated within the 4 ns tick (R382, R401). -/
def TimeBase.fine (b : TimeBase) (now : Nat) : Int := b.val + b.inc * ((now % 40 / 10 : Nat) : Int) / 4

/-- The field time base in ns, interpolated within the 4 ns tick: the stamp of an encoder edge (R58, R400, R408). -/
def State.fieldNs (s : State) : Int := s.tim.slave.fine s.now / 2 ^ 32

/-- STAMP32 of an encoder edge now. -/
def State.edgeStamp (s : State) : Nat := stamp32 s.fieldNs

/-- STAMP32 on an island now. -/
def State.stamp (s : State) (i : Side) : Nat := stamp32 (s.islandNs i)

/-- The physical instant in whole ns: what spacings, windows and predictions are held in (R44, R399, R406). -/
def State.ns (s : State) : Nat := s.now / 10

/-! ### Presence (R5, R11, R17) -/

/-- Head ports present, from the fuse shadow (R8). -/
def State.nHeads (s : State) : Nat := s.nat Obj.Identity.headPorts
/-- Piers present. -/
def State.nPiers (s : State) : Nat := s.nHeads / 4
/-- Cameras present. -/
def State.nCams (s : State) : Nat := s.nat Obj.Identity.cameraPorts
/-- DRAM subchannels present: two per channel. -/
def State.nSub (s : State) : Nat := 2 * s.nat Obj.Identity.dramChannels
/-- The nozzle-channel pool. -/
def State.pool (s : State) : Nat := s.nat Obj.Identity.nozzleChannels
/-- The Stay link is present: Duplex of VariantCode (R9). -/
def State.hasStay (s : State) : Bool := bit (s.nat Obj.Identity.variantCode) 2

/-! ### Block resets (R437) -/

/-- A block waits for idle before its reset. -/
def State.waits (s : State) (b : BlockKind) (i : Nat) : Bool := s.rst.waiting.any (fun w => w.1 == b && w.2.1 == i)

/-- A busy block is asked to go idle. -/
def State.startWait (s : State) (b : BlockKind) (i : Nat) : State :=
  { s with rst := { s.rst with waiting := s.rst.waiting ++ [(b, i, s.now)] } }

/-- A block's wait ends. -/
def State.endWait (s : State) (b : BlockKind) (i : Nat) : State :=
  { s with rst := { s.rst with waiting := s.rst.waiting.filter (fun w => !(w.1 == b && w.2.1 == i)) } }

/-! ### Events (R344, R507-R517, R539) -/

/-- Priority and escalation of a subsystem (R515). -/
def subsysRow : Nat → Nat × Bool
  | 0xA0 => (1, false) | 0x20 => (2, true) | 0x22 => (3, false) | 0x80 => (4, false) | 0x70 => (5, true)
  | 0x30 => (6, false) | 0x15 => (7, false) | 0x43 => (8, false) | 0x42 => (9, true) | 0x31 => (10, false)
  | 0x50 => (11, false) | 0x51 => (12, true) | 0x44 => (13, false) | 0x60 => (14, true) | 0x62 => (15, false)
  | 0x71 => (16, true) | 0x21 => (17, true) | 0x13 => (18, true) | 0x11 => (19, false) | 0x16 => (20, false)
  | 0x23 => (21, false) | _ => (22, false)

/-- The log part of an island. -/
def State.log (s : State) : Side → LogPart
  | .host => s.flt.hostLog
  | .field => s.flt.fieldLog

/-- The log part of an island replaced. -/
def State.setLog (s : State) (i : Side) (p : LogPart) : State :=
  match i with
  | .host => { s with flt := { s.flt with hostLog := p } }
  | .field => { s with flt := { s.flt with fieldLog := p } }

/-- A change of the fault machinery. -/
def State.setFlt (s : State) (f : Flt) : State := { s with flt := f }

/-- `EntriesLost` of an island. -/
def entriesLost : Side → Nat
  | .host => Obj.HostLogStatus.hostEntriesLost
  | .field => Obj.FieldLogStatus.fieldEntriesLost

/-- Drops the oldest INFO or WARN entry of a queue, if any. -/
def dropMinor : List EventRec → Option (List EventRec)
  | [] => none
  | e :: r => if e.cls ≤ 1 then some r else (dropMinor r).map (e :: ·)

/-- An entry arrives at the input queue of its part (R509, R513): INFO only under `LogInfo`, only ERROR and FATAL while an
overrun is latched (R518), 64 entries. -/
def State.enqueue (s : State) (e : EventRec) : State :=
  let overrun := match e.side with
    | .host => s.flt.hostOverrun
    | .field => s.flt.fieldOverrun
  if (e.cls = 0 && !s.flag Obj.FaultControl.logInfo) || (overrun && decide (e.cls ≤ 1)) then s
  else
    let p := s.log e.side
    if p.queue.length < 64 then s.setLog e.side { p with queue := p.queue ++ [e], begun := if p.queue.isEmpty then s.now else p.begun }
    else if e.cls ≤ 1 then (s.setLog e.side { p with gap := true }).inc (entriesLost e.side)
    else match dropMinor p.queue with
      | some q => (s.setLog e.side { p with queue := q ++ [e], gap := true }).inc (entriesLost e.side)
      | none => s.setLog e.side { p with overflow := true }

/-- The `Handling` object (R517). -/
def handlingBytes (l : List Handling) : Bytes :=
  (l.map (fun h => leBytes 1 h.subsys ++ leBytes 1 h.inst ++ leBytes 1 h.step ++ leBytes 1 (if h.held then 1 else 0)
    ++ leBytes 4 h.start)).flatten

/-- The handling instances replaced, and `Handling` with them. -/
def State.setHandling (s : State) (l : List Handling) : State :=
  (s.setFlt { s.flt with handling := l }).setB Obj.handling (handlingBytes l)

/-- The sequence number that an island's next event takes (R344). -/
def State.nextSeq (s : State) : Side → Nat
  | .host => s.flt.hostSeq
  | .field => s.flt.fieldSeq

/-- An event is recorded: it takes its island's sequence number, goes to the log's queue and out (a host event to the
sessions, a field event across the Span, R345). -/
def State.post (s : State) (e : EventRec) : State :=
  let e := { e with seq := s.nextSeq e.side }
  let s := (s.enqueue e).emit (.event e)
  match e.side with
  | .host => { s.setFlt { s.flt with hostSeq := (s.flt.hostSeq + 1) % 2 ^ 32 } with hostEv := s.hostEv ++ [e] }
  | .field => { s.setFlt { s.flt with fieldSeq := (s.flt.fieldSeq + 1) % 2 ^ 32 } with fieldEv := s.fieldEv ++ [e] }

/-- The record of an event raised now: plane and line by R539, context words of 32 bits. -/
def State.mkEvent (s : State) (i : Side) (ev : Nat × Nat) (inst : Nat) (pl : Option (Nat × Int)) (w : List Int) : EventRec :=
  { side := i, code := ev.1, cls := ev.2, stamp := s.stamp i
    line := match pl with | some (_, l) => l | none => 0
    plane := match pl with | some (k, _) => k | none => 0xFF
    seq := 0, w0 := low 32 (w.getD 0 0), w1 := low 32 (w.getD 1 0), w2 := low 32 (w.getD 2 0), inst := inst, flags := 0 }

/-- An ERROR or FATAL event starts or adds to the handling of its instance (R514, R515): the first starts it at step 1; a
later one is Secondary and, in a subsystem that escalates, moves the instance one step up, or is Held at
`EscalationCeiling`. Answers the log flags, the new handling list and the step refused. -/
def escalate (ceiling : Nat) (now stamp : Nat) (side : Side) (code inst : Nat) (l : List Handling) : Nat × List Handling × Option Nat :=
  match l.find? (fun h => h.side = side && h.subsys = code / 256 && h.inst = inst) with
  | none => (0, l ++ [{ side := side, subsys := code / 256, inst := inst, step := 1, held := false, start := stamp, last := now }], none)
  | some h =>
    let upd := fun (h' : Handling) => l.map (fun x => if x.side = side && x.subsys = code / 256 && x.inst = inst then h' else x)
    if !(subsysRow (code / 256)).2 || h.step ≥ 4 then (2, upd { h with last := now }, none)
    else if h.step + 1 > ceiling then (2 + 16, upd { h with last := now, held := true }, some (h.step + 1))
    else (2 + 4, upd { h with last := now, step := h.step + 1 }, none)

/-- An event is raised on an island (R344, R509, R514): recorded, logged, and, when ERROR or FATAL, handled; a refused step raises EscalationHeld. What waits for the control cycle
carries above its flags the step that its instance then stood at. -/
def State.raise (s : State) (i : Side) (ev : Nat × Nat) (inst : Nat := 0) (pl : Option (Nat × Int) := none)
    (w : List Int := []) : State :=
  let e := s.mkEvent i ev inst pl w
  if ev.2 < 2 then s.post e
  else
    let (fl, l, refused) := escalate (s.nat Obj.FaultControl.escalationCeiling) s.now e.stamp i ev.1 inst s.flt.handling
    let s := (s.post { e with flags := fl }).setHandling l
    let step := match l.find? (fun h => h.side = i && h.subsys = ev.1 / 256 && h.inst = inst) with | some h => h.step | none => 1
    let s := s.setFlt { s.flt with todo := s.flt.todo ++ [{ e with flags := fl + 256 * step }] }
    match refused with
    | none => s
    | some st =>
      let e := s.mkEvent i Ev.escalationHeld 0 none [(ev.1 / 256 : Nat), inst, st]
      let (fl, l, _) := escalate 0 s.now e.stamp i e.code 0 s.flt.handling
      (s.post { e with flags := fl }).setHandling l

/-- An event of the field island. -/
def State.ev (s : State) (ev : Nat × Nat) (w : List Int := []) (inst : Nat := 0) : State := s.raise .field ev inst none w

/-- An event of the field island at a line of a plane. -/
def State.evAt (s : State) (ev : Nat × Nat) (k : Nat) (line : Int) (w : List Int := []) (inst : Nat := 0) : State :=
  s.raise .field ev inst (some (k, line)) w

/-- An event of the host island. -/
def State.hev (s : State) (ev : Nat × Nat) (w : List Int := []) (inst : Nat := 0) : State := s.raise .host ev inst none w

/-- The first unopened line of a plane (R99, R539). -/
def State.unopened (s : State) (k : Nat) : Int := (s.plane k).opened + 1

/-- An event of the field island whose rule names a plane and no line (R539). -/
def State.evPl (s : State) (ev : Nat × Nat) (k : Nat) (w : List Int := []) (inst : Nat := 0) : State :=
  s.evAt ev k (s.unopened k) w inst

/-- Folds a step over a list of instances. -/
def State.each (s : State) (l : List Nat) (f : State → Nat → State) : State := l.foldl f s

end Sys2Proof.Machine
end

