-- ==== Sys2Proof/Machine/PackOps.lean ====
section
/-! DEFINITION. The packers of the Span: the cells of a message, and when each starts on which channel (R383, R384, R391). -/

namespace Sys2Proof.Machine

/-- The class of a message type (R385). -/
def spanClass (typ : Nat) : Nat := if typ = 0x02 ∨ typ = 0x05 ∨ typ = 0x44 then 1 else 0

/-- The control block of a cell (R383). -/
def TxCell.ctrl (c : TxCell) : Block :=
  withCheck (0x5A + c.typ * 2 ^ 8 + (if c.first then 2 ^ 16 else 0) + (if c.last then 2 ^ 17 else 0) + c.cls * 2 ^ 18 + c.seq * 2 ^ 24
    + c.data.length * 2 ^ 40)

/-- The 252 payload bytes of a cell; unused ones are 0 (R383). -/
def TxCell.payload (c : TxCell) : Bytes := c.data ++ List.replicate (252 - c.data.length) 0#8

/-- The cells of a message from CellSeq `seq` on (R383). -/
def cellsOf (typ seq now : Nat) (body : Bytes) : List TxCell :=
  let parts := chunks 252 (max body.length 1) body
  parts.zipIdx.map (fun p =>
    { typ := typ, first := p.2 == 0, last := p.2 + 1 == parts.length, cls := spanClass typ, seq := (seq + p.2) % 65536, data := p.1, at_ := now })

/-- A message joins the cells of its class, in the order the sender starts them (R384). -/
def Packer.queue (p : Packer) (now typ : Nat) (body : Bytes) : Packer :=
  if spanClass typ = 0 then
    let l := cellsOf typ p.seq0 now body
    { p with wait0 := p.wait0 ++ l, seq0 := (p.seq0 + l.length) % 65536 }
  else
    let l := cellsOf typ p.seq1 now body
    { p with wait1 := p.wait1 ++ l, seq1 := (p.seq1 + l.length) % 65536 }

/-- The first cell of a queue waits at instant `t`. -/
def waits (l : List TxCell) (t : Nat) : Bool := match l with | c :: _ => decide (c.at_ ≤ t) | [] => false

/-- A cell takes the first of the channels `use` that is free at instant `t`; 33 blocks of 8 ns pass on it (R383, R384). -/
def Packer.place (p : Packer) (use : List Nat) (t : Nat) (c : TxCell) : Packer × Nat :=
  let ch := (use.find? (fun i => decide (p.free.getD i 0 ≤ t))).getD 0
  ({ p with free := p.free.set ch (t + 2640), sent := (c.cls :: p.sent).take 63 }, ch)

/-- Cells start up to instant `now` (R384): each on the first free channel in use; class 0 goes first, but takes at most 16 of any 64
consecutive cells while class-1 cells wait. Cells for which no channel is free wait in order (R391). Answers the cells with their channels
and instants. -/
def Packer.pump (use : List Nat) (now : Nat) : Nat → Packer → Packer × List (Nat × Nat × TxCell)
  | 0, p => (p, [])
  | n + 1, p =>
    match (use.map (fun i => p.free.getD i 0)).min?, ((p.wait0.head?.toList ++ p.wait1.head?.toList).map (·.at_)).min? with
    | some f, some w =>
      let t := max f w
      if now < t then (p, [])
      else
        let urgent := waits p.wait0 t && (!waits p.wait1 t || decide ((p.sent.filter (· == 0)).length < 16))
        match urgent, p.wait0, p.wait1 with
        | true, c :: r, _ =>
          let (p, ch) := ({ p with wait0 := r } : Packer).place use t c
          let (q, l) := Packer.pump use now n p
          (q, (ch, t, c) :: l)
        | false, _, c :: r =>
          let (p, ch) := ({ p with wait1 := r } : Packer).place use t c
          let (q, l) := Packer.pump use now n p
          (q, (ch, t, c) :: l)
        | _, _, _ => (p, [])
    | _, _ => (p, [])

/-- The packer of an island. -/
def Pack.of (p : Pack) : Side → Packer
  | .host => p.host
  | .field => p.field

/-- The packer of an island replaced. -/
def Pack.put (p : Pack) (i : Side) (x : Packer) : Pack :=
  match i with
  | .host => { p with host := x }
  | .field => { p with field := x }

/-- The channels that an island uses, 0 to 5, ascending (R387, R389). -/
def State.usedBy (s : State) (i : Side) : List Nat :=
  (List.range 6).filter (bit (match i with | .host => s.span.useH2F | .field => s.span.useF2H))

/-- The packer of an island starts the cells that are due on the channels in use. -/
def State.pumpSpan (s : State) (i : Side) : State :=
  let p := s.pack.of i
  let (p, l) := Packer.pump (s.usedBy i) s.now (p.wait0.length + p.wait1.length) p
  let base := match i with | .host => 0 | .field => 6
  { s with pack := s.pack.put i p, out := s.out ++ l.map (fun x => Emit.cell (base + x.1) x.2.1 x.2.2.ctrl x.2.2.payload (crc32 x.2.2.payload)) }

/-- A channel that an island takes into use carries cells from now on. -/
def State.freeFrom (s : State) (i : Side) (c : Nat) : State :=
  let p := s.pack.of i
  { s with pack := s.pack.put i { p with free := p.free.set c (max (p.free.getD c 0) s.now) } }

/-- A cell of its own on channel `c` of an island, beside the packer: a failed channel carries LINK_TEST alone (R390). It takes no CellSeq. -/
def State.sendAlone (s : State) (i : Side) (c typ : Nat) (body : Bytes) : State :=
  let base := match i with | .host => 0 | .field => 6
  (cellsOf typ (s.pack.of i).seq0 s.now body).foldl (fun s x => s.emit (.cell (base + c) s.now x.ctrl x.payload (crc32 x.payload)))
    (s.emit (.span i typ body))

/-- A Span message leaves an island (R385): its cells join the packer and start as they come due. -/
def State.sendSpan (s : State) (i : Side) (typ : Nat) (body : Bytes) : State :=
  let s := s.emit (.span i typ body)
  State.pumpSpan { s with pack := s.pack.put i ((s.pack.of i).queue s.now typ body) } i

end Sys2Proof.Machine
end

