-- ==== Sys2Proof/Machine/NetOps.lean ====
section
/-! DEFINITION. Operations of sessions and rings (spec/15): responses, ring descriptors, and the delivery of events and stream
data to the sessions that select them (R344, R345, R365-R376). -/

namespace Sys2Proof.Machine

/-! ### Contexts -/

/-- Session context `i`. -/
def State.sess (s : State) (i : Nat) : Sess := smGet (fun _ => Sess.init) s.net.sess i
/-- Session context `i` replaced. -/
def State.setSess (s : State) (i : Nat) (x : Sess) : State :=
  { s with net := { s.net with sess := smSet (fun _ => Sess.init) s.net.sess i x } }
/-- The descriptors of ring `r`, oldest first. -/
def State.ring (s : State) (r : Nat) : List Descr := smGet (fun _ => []) s.net.rings r
/-- The descriptors of ring `r` replaced, with `Occupancy`. -/
def State.setRing (s : State) (r : Nat) (l : List Descr) : State :=
  { s with net := { s.net with rings := smSet (fun _ => []) s.net.rings r l } }.setN (Obj.Ring.occupancy r) l.length

/-- Context `i` is open, or in handshake (R361). -/
def State.sessState (s : State) (i : Nat) : Nat := s.nat (Obj.Session.state i)
/-- The open contexts, in ascending number. -/
def State.openSessions (s : State) : List Nat := (List.range 256).filter (fun i => s.sessState i == 2)

/-- The rings that a session holds, in ascending number, of one direction (0 ingress, 1 egress). -/
def State.ringsOf (s : State) (i dir : Nat) : List Nat :=
  (List.range 64).filter (fun r => bit (s.nat (Obj.Session.rings i)) r && s.nat (Obj.Ring.direction r) == dir)

/-! ### Messages to a session (R360, R365) -/

/-- Header bytes 0 to 19, which every part of a message shares and its tag covers (R357-R359). -/
def msgHead (typ i seq flags total : Nat) : Bytes :=
  leBytes 2 0x474E ++ leBytes 1 1 ++ leBytes 1 typ ++ leBytes 4 i ++ leBytes 8 seq ++ leBytes 2 flags ++ leBytes 2 total

/-- A message cut into datagrams of at most `mtu` bytes, SegOffset placing each part (R357, R358). -/
def datagrams (mtu : Nat) (head whole : Bytes) : List Bytes :=
  ((chunks (max (mtu - 24) 1) (max whole.length 1) whole).zipIdx).map (fun p =>
    head ++ leBytes 2 (max (mtu - 24) 1 * p.2 : Nat) ++ leBytes 2 0 ++ p.1)

/-- The datagrams of a message leave a port (R358): each is a frame. -/
def State.sendFrames (s : State) (port : Nat) (peer head whole : Bytes) : State :=
  let parts := datagrams (s.nat (Obj.HostPort.mtu port)) head whole
  (s.bump (Obj.HostPort.txFrames port) 64 parts.length).emit (.wire port peer parts)

/-- A body protected from device to host under K_dh, with the nonce S_dh and the Sequence: cipher text and tag (R359). -/
def Sess.sealed (x : Sess) (seq : Nat) (head body : Bytes) : Bytes :=
  (List.range (body.length + 16)).map (Config.gcmSeal (sub x.key 32 32) (sub x.key 68 4 ++ leBytes 8 seq) head body)

/-- The datagrams of message `seq` go where the session's last new verified message came from (R359, R372). -/
def State.sendWire (s : State) (i typ seq flags : Nat) (body : Bytes) : State :=
  let head := msgHead typ i seq flags body.length
  s.sendFrames (s.nat (Obj.Session.port i)) (s.byt (Obj.Session.peer i)) head ((s.sess i).sealed seq head body)

/-- A message leaves for a session under its next Sequence, with the given Flags (R357, R360, R370). -/
def State.sendMsg (s : State) (i typ : Nat) (body : Bytes) (flags : Nat := 0) : State :=
  let x := s.sess i
  let s := s.setSess i { x with txSeq := x.txSeq + 1, lastTx := s.now }
  ((s.bump (Obj.Session.txMessages i) 64).sendWire i typ x.txSeq flags body).emit (.message i typ body)

/-- The 16-byte prefix of a response (R365). -/
def respPrefix (seq status abort : Nat) : Bytes := leBytes 8 seq ++ leBytes 1 status ++ leBytes 3 0 ++ leBytes 4 abort

/-- The response to Sequence `seq` leaves and is kept among the last 64 (R360). -/
def State.respond (s : State) (i seq typ status abort : Nat) (rest : Bytes := []) : State :=
  let b := respPrefix seq status abort ++ rest
  let x := s.sess i
  let l := x.resp ++ [{ seq := seq, tx := x.txSeq, typ := typ, body := b }]
  (s.setSess i { x with resp := l.drop (l.length - 64) }).sendMsg i typ b 1

/-- A value as a READ response carries it (R366). -/
def readBody (ty : Nat) (v : Bytes) : Bytes := leBytes 1 ty ++ leBytes 1 0 ++ leBytes 2 v.length ++ v

/-- The ingress descriptor of an answered DOMAIN message goes (R373). -/
def State.unring (s : State) (i seq : Nat) : State :=
  (s.ringsOf i 0).foldl (fun s r =>
    let l := s.ring r
    if l.any (fun d => d.seq == seq) then s.setRing r (l.filter (fun d => d.seq != seq)) else s) s

/-- The answer to an access (R365, R366): the oldest access of the session that may run is answered under its Sequence; the
abort code and the value go to the caller. A number above 256 names no session and no JTAG path: nobody is answered. -/
def State.answer (s : State) (i abort : Nat) (rest : Bytes := []) : State :=
  if 256 < i then s
  else
  let s := s.emit (.reply i abort rest)
  let x := s.sess i
  match x.wait with
  | m :: r =>
    if m.seq < x.low then
      let s := s.setSess i { x with wait := r }
      (if m.typ = 7 then s.unring i m.seq else s).respond i m.seq m.typ 0 abort rest
    else s
  | [] => s

/-- The link of a host port goes down (R413, R417, R448). -/
def State.portDown (s : State) (p : Nat) : State :=
  if s.flag (Obj.HostPort.linkState p) then
    ((((s.setN (Obj.HostPort.linkState p) 0).setN (Obj.HostPort.linkSpeed p) 0).setN (Obj.HostPort.fecInUse p) 0).inc
      (Obj.HostPort.linkDrops p)).hev Ev.hostLinkDown [] p
  else s

/-! ### Egress rings (R369, R373) -/

/-- A message enters an egress ring as one descriptor; none where the ring is full. -/
def State.pushRing (s : State) (r : Nat) (typ : Nat) (body : Bytes) (stamp : Nat) : Option State :=
  let l := s.ring r
  if l.length < s.nat (Obj.Ring.depth r) then
    some (s.setRing r (l ++ [{ typ := typ, body := body, seq := 0, ready := s.islandNs .host, stamp := stamp }]))
  else none

/-- The session's lowest-numbered egress ring whose StreamMask holds a bit (R369). -/
def State.ringFor (s : State) (i b : Nat) : Option Nat :=
  (s.ringsOf i 1).find? (fun r => bit (s.nat (Obj.Ring.streamMask r)) b)

/-- An event record (R344). -/
def EventRec.bytes (e : EventRec) (gap : Bool) : Bytes :=
  leBytes 2 e.code ++ leBytes 1 e.cls ++ leBytes 1 ((e.code / 256 : Nat) : Int) ++ leBytes 4 e.stamp ++ leBytes 6 e.line
    ++ leBytes 1 e.plane ++ leBytes 1 (if gap then 1 else 0) ++ leBytes 4 e.seq ++ leBytes 4 e.w0 ++ leBytes 4 e.w1
    ++ leBytes 4 e.w2

/-- Schedule events follow bit 1 of `Streams` (R85, R89, R345). -/
def schedEvent (code : Nat) : Bool :=
  code == Ev.scheduleMarker.1 || code == Ev.scheduleExecuted.1 || code == Ev.scheduleFailed.1

/-- Whether a session selects a record, and by which bit of `Streams` (R345). -/
def Sess.selects (x : Sess) (code cls : Nat) : Option Nat :=
  if schedEvent code then (if bit x.streams 1 then some 1 else none)
  else if bit x.streams 0 && decide (x.classMin ≤ cls) then some 0 else none

/-- A record is lost for a session (R345). -/
def State.loseRecord (s : State) (i : Nat) : State :=
  let x := s.sess i
  s.setSess i { x with evLost := (x.evLost + 1) % 2 ^ 32, gap := true }

/-- The bytes of an event record with its Gap flag set when the session lost one before it. -/
def gapRec (b : Bytes) (gap : Bool) : Bytes :=
  if gap then b.take 15 ++ leBytes 1 (setBit (fld b 15 1) 0 true) ++ b.drop 16 else b

/-- A 32-byte record goes to a session (R344, R345, R369): into the EVENT message that its ring took last at this instant while
it holds fewer than 32 records, else into a new one (log entry 13). -/
def State.deliver (s : State) (i : Nat) (b : Bytes) : State :=
  let x := s.sess i
  match x.selects (fld b 0 2) (fld b 2 1) with
  | none => s
  | some bitN => match s.ringFor i bitN with
    | none => s.loseRecord i
    | some r =>
      let rec_ := gapRec b x.gap
      let l := s.ring r
      match l.getLast? with
      | some d =>
        if d.typ = 10 ∧ d.ready = s.islandNs .host ∧ d.body.length < 1024 then
          (s.setRing r (l.dropLast ++ [{ d with body := d.body ++ rec_ }])).setSess i { x with gap := false }
        else match s.pushRing r 10 rec_ (fld b 4 4) with
          | some s => s.setSess i { x with gap := false }
          | none => s.loseRecord i
      | none => match s.pushRing r 10 rec_ (fld b 4 4) with
          | some s => s.setSess i { x with gap := false }
          | none => s.loseRecord i

/-- A record goes to every open session that selects it. -/
def State.deliverAll (s : State) (b : Bytes) : State := s.each s.openSessions (fun s i => s.deliver i b)

/-- STREAM data goes to the egress ring of every open session that selects bit `b` of `Streams`; data with no room is lost
(R345, R369). -/
def State.streamAll (s : State) (b : Nat) (body : Bytes) : State :=
  s.each s.openSessions (fun s i =>
    if bit (s.sess i).streams b then
      match s.ringFor i b with
      | none => s
      | some r => match s.pushRing r 11 body (fld body 16 4) with | some s => s | none => s.inc (Obj.Ring.drops r)
    else s)

/-- The 20-byte header of a STREAM body (R369). -/
def streamHead (kind source flags item off len stamp : Nat) : Bytes :=
  leBytes 1 kind ++ leBytes 1 source ++ leBytes 1 flags ++ leBytes 1 0 ++ leBytes 4 item ++ leBytes 4 off ++ leBytes 4 len
    ++ leBytes 4 stamp

/-- The field island sends a Span message (R385). -/
def State.toHost (s : State) (typ : Nat) (body : Bytes) : State := s.sendSpan .field typ body
/-- The host island sends a Span message (R385). -/
def State.toField (s : State) (typ : Nat) (body : Bytes) : State := s.sendSpan .host typ body

/-- The host island tells the field island how many descriptors of a ring are free (R386). -/
def State.sendCredit (s : State) (r : Nat) : State :=
  s.toField 0x09 (leBytes 1 r ++ leBytes 3 0 ++ leBytes 4 ((s.nat (Obj.Ring.depth r) - (s.ring r).length : Nat) : Int))

/-- The host island gives up a deposit that has not been answered (R385 DEPOSIT_ABORT): 0 session closed, 1 ring reset, 2 Span lost. -/
def State.abortDeposit (s : State) (w : StripWait) (reason : Nat) : State :=
  s.toField 0x03 (leBytes 4 w.deposit ++ leBytes 1 reason ++ leBytes 3 0)

/-- A field STREAM message crosses, to a ring or routed by `Streams` (ring 0xFF, R385); none while the field island holds the Span lost
(R392). -/
def State.streamField (s : State) (ring : Nat) (body : Bytes) : State :=
  if s.span.lostF then s else s.toHost 0x44 (leBytes 1 ring ++ leBytes 3 0 ++ body)

/-- The STREAM bodies of an item, in parts of at most 32,768 bytes (R369; a body holds at most 65,519). -/
def streamParts (kind source item stamp : Nat) (data : Bytes) : List Bytes :=
  let n := data.length
  ((List.range (cdiv (max n 1) 32768))).map (fun i =>
    let part := sub data (32768 * i) 32768
    streamHead kind source ((if i = 0 then 1 else 0) + (if n ≤ 32768 * (i + 1) then 2 else 0)) item (32768 * i) n stamp ++ part)

/-- An item goes to the sessions that subscribe to its stream. -/
def State.streamItem (s : State) (kind source item stamp : Nat) (data : Bytes) : State :=
  (streamParts kind source item stamp data).foldl (fun s b => s.streamField 0xFF b) s

/-- The end of every command: host events go to the sessions, field events set out across the Span in EVENT messages of at most
32 records, unless the field island holds the Span lost (R345, R385, R392). -/
def State.route (s : State) : State :=
  let h := s.hostEv
  let f := s.fieldEv
  let s := { s with hostEv := [], fieldEv := [] }
  let s := h.foldl (fun s e => s.deliverAll (e.bytes false)) s
  if f.isEmpty then s
  else if s.span.lostF then { s with span := { s.span with missed := true } }
  else (chunks 32 f.length f).foldl (fun s l =>
    s.toHost 0x43 (leBytes 1 l.length ++ leBytes 3 0 ++ (l.map (fun e => e.bytes false)).flatten)) s

end Sys2Proof.Machine
end

