-- ==== Sys2Proof/Machine/Cmd.lean ====
section
/-! DEFINITION. The frame of every command: time moves to the command's instant, the command acts, its events set out, and the
queue of waiting commands, the part's identity and the clock stay as they were (log entry 1). -/

namespace Sys2Proof.Machine

/-- The end of a command that began in `s` at instant `t`: its events set out; the queue and the identity are those of `s`. -/
def State.finish (u s : State) (t : Nat) : State := { u.route with pending := s.pending, ident := s.ident, now := max s.now t }

/-- The outcome of a command at instant `t` whose effect is `f`. -/
def cmd (t : Nat) (s : State) (f : State → State) : Host.Outcome State Fault Refusal := .next ((f (s.tickTo t)).finish s t)

end Sys2Proof.Machine
end

