-- ==== Sys2Proof/Machine/Geometry.lean ====
section
/-! DEFINITION. Bar geometry (spec/04) and the periods that follow from it (R73, R195, R197): heads, rows, columns, joints,
targets, the trestle's sizes and the geometry check. Functions over a dictionary `d` serve the live dictionary, a staged one
and the one that a line holds since it opened. -/

namespace Sys2Proof.Machine

/-- The dictionary of the AZ9's objects that differ from their defaults. -/
abbrev Dict := List (Nat × Val)

/-! ### Heads and rows -/

/-- Head ports of the part, from a dictionary. -/
def dHeads (d : Dict) : Nat := dnat d Obj.Identity.headPorts

/-- Head `h` belongs to plane `k` (R102). -/
def inPlane (d : Dict) (k h : Nat) : Bool :=
  decide (h < dHeads d) && dnat d (Obj.HeadRecord.plane h) == k && dnat d (Obj.HeadRecord.nozzleCount h) != 0

/-- The heads of plane `k`, ascending. -/
def planeHeads (d : Dict) (k : Nat) : List Nat := (List.range 64).filter (inPlane d k)

/-- Head `h` is in use by some plane. -/
def inUse (d : Dict) (h : Nat) : Bool := decide (dnat d (Obj.HeadRecord.plane h) < 4) && inPlane d (dnat d (Obj.HeadRecord.plane h)) h

/-- Row of a head: 0 A, 1 B. -/
def rowOf (d : Dict) (h : Nat) : Nat := dnat d (Obj.HeadRecord.row h)

/-- Nozzles of a head. -/
def nozzles (d : Dict) (h : Nat) : Nat := dnat d (Obj.HeadRecord.nozzleCount h)

/-- `LateralOrigin`. -/
def origin (d : Dict) (h : Nat) : Nat := dnat d (Obj.HeadRecord.lateralOrigin h)

/-- Whether head `h` of plane `k` fires line `L`: every line in a single-row plane; row A even lines and row B odd lines in an
interleaved one (R101). -/
def rowFires (d : Dict) (k h : Nat) (L : Int) : Bool :=
  dnat d (Obj.PlaneConfig.rowMode k) == 0 || (L % 2).toNat == rowOf d h

/-- Heads of plane `k` in row `r`, by ascending `LateralOrigin` (R106). -/
def rowHeads (d : Dict) (k r : Nat) : List Nat :=
  sortBy (fun a b => decide (origin d a ≤ origin d b)) ((planeHeads d k).filter (fun h => rowOf d h == r))

/-- The rows that a plane uses (R101). -/
def rowsUsed (d : Dict) (k : Nat) : List Nat := if dnat d (Obj.PlaneConfig.rowMode k) = 0 then [0] else [0, 1]

/-- Column of nozzle `i` of head `h` (R103). -/
def column (d : Dict) (h i : Nat) : Nat :=
  if dnum d (Obj.HeadRecord.mirror h) = 0 then origin d h + i else origin d h + nozzles d h - 1 - i

/-- Nozzle of head `h` at column `x`, if the head reaches it. -/
def nozzleAt (d : Dict) (h x : Nat) : Option Nat :=
  if origin d h ≤ x ∧ x < origin d h + nozzles d h then
    some (if dnum d (Obj.HeadRecord.mirror h) = 0 then x - origin d h else origin d h + nozzles d h - 1 - x)
  else none

/-- Nozzle channel of nozzle `i` of head `h` (R103). -/
def channel (d : Dict) (h i : Nat) : Nat := dnat d (Obj.HeadRecord.channelBase h) + i

/-- `PlaneWidth`. -/
def width (d : Dict) (k : Nat) : Nat := dnat d (Obj.PlaneConfig.planeWidth k)

/-- Joint width J of two consecutive heads of a row (R106). -/
def jointWidth (d : Dict) (a b : Nat) : Int := (origin d a + nozzles d a : Nat) - (origin d b : Nat)

/-- The drive-side neighbour of a head in a row list. -/
def nextIn : List Nat → Nat → Option Nat
  | a :: b :: r, h => if a = h then some b else nextIn (b :: r) h
  | _, _ => none

/-- The operator-side neighbour. -/
def prevIn : List Nat → Nat → Option Nat
  | a :: b :: r, h => if b = h then some a else prevIn (b :: r) h
  | _, _ => none

/-- Neighbours of head `h` in its row: operator-side and drive-side. -/
def neighbours (d : Dict) (k h : Nat) : Option Nat × Option Nat :=
  let l := rowHeads d k (rowOf d h)
  (prevIn l h, nextIn l h)

/-! ### Joint weights (R107, R109) -/

/-- Entry `t` of the plane's joint table; by default 128 × (128 − t) (R120). -/
def jointEntry (d : Dict) (k t : Nat) : Nat :=
  match dbyt d (Obj.jointTable k) with
  | [] => 128 * (128 - t)
  | b => fld b (2 * t) 2

/-- w_op(i) of a joint of width `J` (R107). -/
def wOp (d : Dict) (k J i : Nat) : Nat :=
  if dnat d (Obj.PlaneConfig.jointProfile k) = 0 then (16384 * (2 * (J - i) - 1) + J) / (2 * J)
  else jointEntry d k ((2 * i + 1) * 64 / J)

/-- The 8 × 8 ordered matrix B of R109. -/
def matrixB (x y : Nat) : Nat :=
  let u := x ^^^ y
  ((u % 2) * 32) + ((y % 2) * 16) + ((u / 2 % 2) * 8) + ((y / 2 % 2) * 4) + ((u / 4 % 2) * 2) + (y / 4 % 2)

/-- In a dot plane the operator-side head owns the drop of joint column `i` on line `L` (R109). -/
def opOwns (w i : Nat) (L : Int) : Bool := decide (w > 256 * matrixB (i % 8) (L % 8).toNat + 128)

/-! ### Along the web (R111, R112) -/

/-- Combined offset of head `h` of plane `k` in 1/1024 line (R112). -/
def offset1024 (d : Dict) (k h : Nat) : Int :=
  1024 * dnum d (Obj.HeadRecord.offsetLines h) + dnum d (Obj.HeadRecord.offsetPhase h) + dnum d (Obj.PlaneConfig.planePhase k)

/-- T(h, L) in 2⁻⁴⁸ line (R111). -/
def target (d : Dict) (k h : Nat) (L : Int) : Int := (1024 * L + offset1024 d k h) * 2 ^ 38

/-! ### Codes, blocks and periods (R116, R172, R177, R195, R197) -/

/-- Codes per 64-bit word for a code width (R116, R177). -/
def codesPerWord : Nat → Nat
  | 1 => 64 | 2 => 32 | _ => 21

/-- Block time in 0.1 ns for a rate code of `Link` (R172). -/
def blockTime : Nat → Nat
  | 0 => 128 | 1 => 256 | 2 => 288 | 3 => 360 | _ => 720

/-- Payload blocks of a full frame of head `h` (R177). -/
def payloadCount (d : Dict) (h : Nat) : Nat :=
  cdiv (nozzles d h) (codesPerWord (dnat d (Obj.PlaneConfig.dropBits (dnat d (Obj.HeadRecord.plane h)))))

/-- Ports of the link that carries head port `h`, and its lanes N (R187). -/
def linkPorts (d : Dict) (h : Nat) : List Nat × Nat :=
  match dnat d (Obj.PierConfig.bonding (h / 4)) with
  | 0 => ([h], 1)
  | 1 => ([h / 4 * 4, h / 4 * 4 + 1, h / 4 * 4 + 2, h / 4 * 4 + 3], 4)
  | _ => ([h / 2 * 2, h / 2 * 2 + 1], 2)

/-- Slot count B of the link of head `h` (R195). -/
def slotCount (d : Dict) (h : Nat) : Nat :=
  let (ps, n) := linkPorts d h
  ((ps.filter (inUse d)).map (fun p => 2 + cdiv (payloadCount d p) n)).sum

/-- Rate code of the link of head `h` (bits [2:0] of `Link`). -/
def linkRate (d : Dict) (h : Nat) : Nat := dnat d (Obj.PortStatus.link h) % 8

/-- TminLink of the link of head `h` in 0.1 ns; 0 where the link carries no head in use (R195). -/
def tminLink (d : Dict) (h : Nat) : Nat :=
  if (linkPorts d h).1.any (inUse d) then
    (slotCount d h + 8) * blockTime (linkRate d h) + 10 * dnat d Obj.FiringTiming.strobeSetup
  else 0

/-- The head period Th in 0.1 ns (R197). -/
def headPeriod (d : Dict) (h : Nat) : Nat := max (10 * dnat d (Obj.HeadRecord.minPeriod h)) (tminLink d h)

/-- Tmin of a plane in 0.1 ns: the longest Th of its heads, 10.0 µs with none (R73). -/
def tminPlane (d : Dict) (k : Nat) : Nat :=
  match planeHeads d k with
  | [] => 100000
  | l => l.foldl (fun m h => max m (headPeriod d h)) 0

/-- `MaxLineRate` as a fraction in lines/s (R73). -/
def maxRate (d : Dict) (k : Nat) : Nat × Nat :=
  ((if dnat d (Obj.PlaneConfig.rowMode k) = 0 then 1 else 2) * 10 ^ 10, tminPlane d k)

/-! ### The trestle (R116, R117) -/

/-- LineBytes(h). -/
def lineBytes (d : Dict) (h : Nat) : Nat := 8 * payloadCount d h

/-- D(h) in lines. -/
def depth (d : Dict) (h : Nat) : Nat :=
  dnat d (Obj.HeadRecord.offsetLines h) + dnat d (Obj.PlaneSchedule.openLead (dnat d (Obj.HeadRecord.plane h))) + 8

/-- S(h) slots. -/
def slots (d : Dict) (h : Nat) : Nat :=
  if dnat d (Obj.PlaneConfig.rowMode (dnat d (Obj.HeadRecord.plane h))) = 0 then depth d h else cdiv (depth d h) 2

/-- A head's ring begins at this byte of its plane's block: the rings are packed in ascending h, the slots of each end to end (R116). -/
def ringOffset (d : Dict) (k h : Nat) : Nat := (((planeHeads d k).filter (fun g => decide (g < h))).map (fun g => slots d g * lineBytes d g)).sum

/-- Plane block in bytes. -/
def planeBlock (d : Dict) (k : Nat) : Nat := ((planeHeads d k).map (fun h => slots d h * lineBytes d h)).sum

/-- Free ranges (offset, size) of the trestle region, given the allocated (offset, size) ranges in ascending offset. -/
def freeRanges (size : Nat) : Nat → List (Nat × Nat) → List (Nat × Nat)
  | at_, [] => if at_ < size then [(at_, size - at_)] else []
  | at_, (o, n) :: r => (if at_ < o then [(at_, o - at_)] else []) ++ freeRanges size (max at_ (o + n)) r

/-- The allocated plane blocks and the render extensions `x` (R271), ascending. -/
def allocated (d : Dict) (x : List (Nat × Nat)) : List (Nat × Nat) :=
  sortBy (fun a b => decide (a.1 ≤ b.1)) (x ++ ((List.range 4).filter (fun k => dnum d (Obj.PlaneConfig.trestleOffset k) ≠ 0xFFFFFFFFFFFFFFFF)).map
    (fun k => (dnat d (Obj.PlaneConfig.trestleOffset k), planeBlock d k)))

/-- The free ranges of the trestle region now. -/
def trestleFree (d : Dict) (x : List (Nat × Nat)) : List (Nat × Nat) :=
  freeRanges (dnat d Obj.Trestle.trestleRegion) 0 (allocated d x)

/-- Cmax of plane `k`: its largest `CameraOffset` over the enabled cameras, in lines rounded up (R271). -/
def cMax (d : Dict) (k : Nat) : Nat :=
  ((List.range 4).filter (fun c => dnum d (Obj.CameraPort.enable c) ≠ 0)).foldl (fun m c =>
    max m (cdiv (dnat d (Obj.CameraOffset.cameraOffset c k)) 1024)) 0

/-- E(h): slots of the render extension of head `h` for a greatest camera distance `cmax` (R271). -/
def extSlots (d : Dict) (cmax k h : Nat) : Nat :=
  cdiv (cmax + dnat d Obj.AnalysisControl.renderSlack - dnat d (Obj.HeadRecord.offsetLines h))
    (if dnat d (Obj.PlaneConfig.rowMode k) = 0 then 1 else 2)

/-- The trestle region begins here in DRAM: after the fixed and the sized regions (R306). -/
def trestleBase (d : Dict) : Nat :=
  128 * 2 ^ 20 + dnat d Obj.RegionMap.stripStoreSize + dnat d Obj.RegionMap.cameraRingSize + dnat d Obj.RegionMap.previewRingSize
    + dnat d Obj.RegionMap.archiveSize

/-- The byte of the trestle region at which the slot of line `L` of head `h` begins (R116, R271): the lines that the head's row fires take its
slots in turn, those of the plane's block and then those of its render extension `x` for a greatest camera distance `cmax`; none while
the plane holds no block. Which slot a line takes is the model's choice (log entry 157). -/
def slotAddress (d : Dict) (x : Option (Nat × Nat)) (cmax k h : Nat) (L : Int) : Option Nat :=
  if dnum d (Obj.PlaneConfig.trestleOffset k) = 0xFFFFFFFFFFFFFFFF then none
  else
    let n := slots d h
    let e := match x with | some _ => extSlots d cmax k h | none => 0
    let turn := if dnat d (Obj.PlaneConfig.rowMode k) = 0 then L else L / 2
    let j := (turn % (max (n + e) 1 : Nat)).toNat
    if j < n then some (dnat d (Obj.PlaneConfig.trestleOffset k) + ringOffset d k h + j * lineBytes d h)
    else
      let before := (((planeHeads d k).filter (fun g => decide (g < h))).map (fun g => extSlots d cmax k g * lineBytes d g)).sum
      some ((x.getD (0, 0)).1 + before + (j - n) * lineBytes d h)

/-- Bytes of plane `k`'s render extension (R271). -/
def extBytes (d : Dict) (k : Nat) : Nat := ((planeHeads d k).map (fun h => extSlots d (cMax d k) k h * lineBytes d h)).sum

/-! ### The geometry check (R118) -/

/-- Consecutive pairs of a list. -/
def pairs {α : Type} : List α → List (α × α)
  | a :: b :: r => (a, b) :: pairs (b :: r)
  | _ => []

/-- Whether two heads' channel runs overlap (R115). -/
def runsOverlap (d : Dict) (a b : Nat) : Bool :=
  decide (channel d a 0 < channel d b (nozzles d b) ∧ channel d b 0 < channel d a (nozzles d a))

/-- A joint is within R106. -/
def jointOk (d : Dict) (ab : Nat × Nat) : Bool :=
  let J := jointWidth d ab.1 ab.2
  decide (0 ≤ J ∧ J ≤ 128 ∧ 2 * J ≤ nozzles d ab.1 ∧ 2 * J ≤ nozzles d ab.2)

/-- One row's first failure: 5 start or shared origin, 6 joint, 7 end (R106). -/
def rowReason (d : Dict) (k r : Nat) : Nat → Option Nat
  | 5 => match rowHeads d k r with
    | [] => none
    | h :: l => if origin d h ≠ 0 then some h else
        ((pairs (h :: l)).find? (fun p => origin d p.1 == origin d p.2)).map (·.2)
  | 6 => ((pairs (rowHeads d k r)).find? (fun p => !jointOk d p)).map (·.2)
  | 7 => match (rowHeads d k r).getLast? with
    | none => none
    | some h => if origin d h + nozzles d h < width d k then some h else none
  | _ => none

/-- The first failure of the geometry check on plane `k`, with the render extensions `x` in place, as reason and head (0xFF none); reason 0
when it passes (R118). The head concerned is the lowest of the plane that overlaps, and the drive-side head of a pair that shares an origin or
makes a bad joint (log entry 150); a plane that holds its block is not judged again for the room that it has (log entry 151). -/
def geometryCheck (d : Dict) (x : List (Nat × Nat)) (k : Nat) : Nat × Nat :=
  let hs := planeHeads d k
  let find := fun (p : Nat → Bool) => hs.find? p
  if width d k = 0 ∨ dnum d (Obj.LineGenerator.linesPerCount k) = 0 then (1, 0xFF)
  else match (if dnat d (Obj.PlaneConfig.rowMode k) = 0 then find (fun h => rowOf d h == 1) else none) with
  | some h => (2, h)
  | none =>
    if (rowsUsed d k).any (fun r => (rowHeads d k r).isEmpty) then (2, 0xFF)
    else match find (fun h => decide (channel d h (nozzles d h) > dnat d Obj.Identity.nozzleChannels)) with
    | some h => (3, h)
    | none => match find (fun h => (List.range 64).any (fun g => g != h && inUse d g && runsOverlap d h g)) with
    | some h => (4, h)
    | none => match (rowsUsed d k).findSome? (fun r => rowReason d k r 5) with
    | some h => (5, h)
    | none => match (rowsUsed d k).findSome? (fun r => rowReason d k r 6) with
    | some h => (6, h)
    | none => match (rowsUsed d k).findSome? (fun r => rowReason d k r 7) with
    | some h => (7, h)
    | none => match find (fun h => decide (offset1024 d k h < 0 ∨ offset1024 d k h > 16384 * 1024)) with
    | some h => (8, h)
    | none =>
      let need := planeBlock d k
      let others := ((allocated d x).map (·.2)).sum
      if dnum d (Obj.PlaneConfig.enable k) = 0 ∧ others + need > dnat d Obj.Trestle.trestleRegion then (9, 0xFF)
      else if dnum d (Obj.PlaneConfig.enable k) = 0 ∧ !(trestleFree d x).any (fun r => decide (need ≤ r.2)) then (10, 0xFF)
      else (0, 0xFF)

/-! ### Derived objects -/

/-- Whether any plane is enabled ("planes disabled" of R75 and after). -/
def State.anyPlane (s : State) : Bool := (List.range 4).any (fun k => s.flag (Obj.PlaneConfig.enable k))

/-- The render extensions in place (R271). -/
def State.exts (s : State) : List (Nat × Nat) := (List.range 4).filterMap (fun k => (s.plane k).ext)

/-- The head record's and the plane's derived read-only objects follow their inputs (R73, R116, R120, R195, R197). -/
def State.refreshGeometry (s : State) : State :=
  let d := s.dict
  let s := s.each ((List.range 64).filter (fun h => decide (h < s.nHeads))) (fun s h =>
    let k := dnat d (Obj.HeadRecord.plane h)
    let used := inUse d h
    let nb := if used then neighbours d k h else (none, none)
    let j := fun (o : Option Int) => match o with | some w => clamp w 0 128 | none => 0
    let s := s.setN (Obj.HeadRecord.jointOperator h) (j (nb.1.map (fun a => jointWidth d a h)))
    let s := s.setN (Obj.HeadRecord.jointDrive h) (j (nb.2.map (fun b => jointWidth d h b)))
    let s := s.setN (Obj.HeadRecord.trestleSlots h) (if used then slots d h else 0)
    let s := s.setN (Obj.HeadRecord.lineBytes h) (if used then lineBytes d h else 0)
    let s := s.setN (Obj.PortStatus.tminLink h) (cdiv (tminLink d h) 10)
    s.setN (Obj.HeadFiring.headPeriod h) (cdiv (headPeriod d h) 10))
  let s := s.each (List.range 4) (fun s k =>
    let r := maxRate d k
    (s.setN (Obj.PlaneConfig.trestleBytes k) (planeBlock d k)).setN (Obj.LineGenerator.maxLineRate k) (freeDiv r.1 r.2))
  let s := s.setN Obj.Trestle.trestleRequired
    (((List.range 4).filter (fun k => dnum d (Obj.PlaneConfig.enable k) ≠ 0)).map (planeBlock d)).sum
  s.setN Obj.Trestle.trestleLargestFree (((trestleFree d s.exts).map (·.2)).foldl max 0)

end Sys2Proof.Machine
end

