-- ==== Sys2Proof/Machine/FireOps.lean ====
section
/-! DEFINITION. Operations on lines and strobes (spec/02 R70-R74, spec/08): predictions, the commit of a strobe, the
resolution of a line and its record entry, withdrawal, captures. -/

namespace Sys2Proof.Machine

/-! ### Captures (R408) -/

/-- Capture unit `u`. -/
def State.cap (s : State) (u : Nat) : CapUnit := smGet (fun _ => CapUnit.init) s.tim.caps u
/-- Capture unit `u` replaced. -/
def State.setCap (s : State) (u : Nat) (x : CapUnit) : State :=
  { s with tim := { s.tim with caps := smSet (fun _ => CapUnit.init) s.tim.caps u x } }

/-- Unit `u` stamps an event at `st` (R408): a record of 8 bytes, or one lost when the FIFO of 16 is full. -/
def State.capture (s : State) (u : Nat) (falling : Bool) (st : Nat) : State :=
  let c := s.cap u
  let seen := (c.seen + 1) % 65536
  if c.recs.length < 16 then
    let rec_ : Bytes := leBytes 4 st ++ leBytes 1 u
      ++ leBytes 1 ((if falling then 1 else 0) + (if c.lost then 2 else 0) : Nat) ++ leBytes 2 c.seen
    let c' := { c with recs := c.recs ++ [rec_], seen := seen, lost := false }
    (s.setCap u c').setB (Obj.Capture.records u) c'.recs.flatten
  else (s.setCap u { c with seen := seen, lost := true }).inc (Obj.Capture.lost u)

/-- A field event stamped by every unit 4 to 7 whose `Source` and `Param` select it: 1 or 2 an encoder's index, 3 a head's
strobe, 4 a camera's frame start. -/
def State.captureField (s : State) (src : Nat) (param : Option Nat) (st : Nat) : State :=
  s.each [4, 5, 6, 7] (fun s u =>
    if s.nat (Obj.Capture.source u) = src ∧ (param = none ∨ param = some (s.nat (Obj.Capture.param u))) then
      s.capture u false st else s)

/-! ### Role, certainty and prediction -/

/-- The part strobes, sends frames and claims: SOLO or ACTIVE (R468). -/
def State.owner (s : State) : Bool := decide (s.nat Obj.DuplexStatus.role ≤ 1)

/-- The position is uncertain. -/
def State.uncertain (s : State) : Bool := s.nat Obj.PositionCertainty.positionState == 1

/-- The position is uncertain under policy 0 (R65, R72, R96). -/
def State.blankWeb (s : State) : Bool := s.uncertain && s.nat Obj.PositionCertainty.uncertainPolicy == 0

/-- The encoder that drives the line generator (R42). -/
def State.source (s : State) : Nat := s.nat Obj.WebSource.primarySource

/-- The estimate has run 2 counts beyond the last accepted edge (R72): the time since that edge, on the field time base that the speed
is measured on, exceeds 2 / v. -/
def State.pastLimit (s : State) : Bool :=
  decide (((s.now - 10 * s.web.lineT) * s.web.lineVN : Nat) * s.tim.slave.inc > ((2 * 10 ^ 10 * s.web.lineVD : Nat) : Int) * 2 ^ 34)

/-- A predicted crossing of a target above `acc` in 0.1 ns of physical time: the stamp of the last accepted edge plus the lines still to
go over lines per second of the field time base, held to 0.5 ns (R71, R406); the rounding to 0.5 ns is free (log entry 6). None while R72
offers no prediction. -/
def State.predictAt (s : State) (q acc target : Int) : Option Nat :=
  let w := s.web
  if w.lineVN = 0 ∨ w.limited ∨ !w.lineFwd ∨ s.blankWeb ∨ q ≤ 0 ∨ s.pastLimit then none
  else some (10 * w.lineT
    + 5 * (freeDiv ((target - acc) * (w.lineVD * (2 * 10 ^ 9) * 2 ^ 34 : Nat)) (q * (w.lineVN : Int) * s.tim.slave.inc)).toNat)

/-- The predicted crossing of a target of plane `k` that is not yet reached (R71). -/
def State.predict (s : State) (k : Nat) (target : Int) : Option Nat :=
  let p := s.plane k
  if target ≤ p.hwm then none else s.predictAt p.q p.acc target

/-! ### Outcomes (R205) -/

/-- Precedence of a withholding outcome; a greater number yields to a smaller (R205). -/
def precedence : Nat → Nat
  | 6 => 1 | 11 => 2 | 7 => 3 | 5 => 4 | 2 => 5 | 8 => 6 | 10 => 7 | 4 => 8 | 3 => 9 | _ => 10

/-- The outcome that decides between two causes of one line. -/
def worse (a b : Nat) : Nat := if precedence b < precedence a then b else a

/-- A line takes one more cause of withholding. -/
def FireLine.withhold (f : FireLine) (o : Nat) : FireLine :=
  { f with hold := some (match f.hold with | none => o | some p => worse p o) }

/-- The 16 bytes of a record entry (R207). -/
def FireRec.bytes (h : Nat) (r : FireRec) : Bytes :=
  leBytes 6 r.line ++ leBytes 1 r.outcome ++ leBytes 1 r.flags ++ leBytes 1 r.energy ++ leBytes 1 h ++ leBytes 2 r.drops
    ++ leBytes 4 r.stamp

/-- Adds 1 to the U64 at position `i` of a table of `n` U64. -/
def addU64 (n i : Nat) (b : Bytes) : Bytes :=
  let b := if b.isEmpty then List.replicate (8 * n) 0#8 else b
  b.take (8 * i) ++ leBytes 8 ((fld b (8 * i) 8 + 1 : Nat) : Int) ++ b.drop (8 * i + 8)

/-- A control block with its Check (R175). -/
def ctrl (n : Nat) : Bool × Block := (true, withCheck n)

/-- LABORT for a line (R179). -/
def labort (line : Int) (reason : Nat) : Bool × Block := ctrl (0x4B + low 24 line * 2 ^ 8 + reason * 2 ^ 32)

/-- An entry of the record of head `h` joins the tail that an ACTIVE part mirrors; it replaces one of the same line (R478). -/
def State.mirrorEntry (s : State) (h : Nat) (b : Bytes) : State :=
  if s.nat Obj.DuplexStatus.role ≠ 1 then s
  else
    let same := fun (x : Bytes × Option (Nat × Nat)) => x.1.take 6 == b.take 6 && fld x.1 9 1 == h
    { s with dux := { s.dux with tail := s.dux.tail.filter (fun x => !same x) ++ [(b, none)] } }

/-- The line's plane for a head. -/
def State.planeOf (s : State) (h : Nat) : Nat := s.nat (Obj.HeadRecord.plane h)

/-- The counts and objects that a final entry of head `h` moves (R209). -/
def State.countEntry (s : State) (h : Nat) (r : FireRec) : State :=
  let s := ((s.setN (Obj.HeadFiring.lastLine h) r.line).setN (Obj.HeadFiring.lastOutcome h) r.outcome).touch (Obj.HeadFiring.recordTail h)
  s.setB (Obj.HeadFiring.outcomeCounts h) (addU64 13 r.outcome (s.byt (Obj.HeadFiring.outcomeCounts h)))

/-- An entry is appended to the ring of head `h` (R207-R209); a final one counts. A full ring loses its oldest entry. -/
def State.pushEntry (s : State) (h : Nat) (r : FireRec) : State :=
  let hd := s.head h
  let l := hd.record ++ [r]
  let deep := decide (l.length > s.nat Obj.FiringTiming.recordDepth)
  let reading := bit (s.nat Obj.AnalysisControl.renderActive) (s.planeOf h)
  let lost := deep && reading && decide (hd.unread ≥ l.length - 1)
  let s := s.setHead h { hd with record := if deep then l.drop 1 else l, pushed := hd.pushed + 1, fresh := min (hd.fresh + 1) (if deep then hd.record.length else l.length)
                                 unread := if lost then hd.unread else hd.unread + 1
                                 blind := if lost then hd.blind ++ (l.take 1).map (·.line) else hd.blind }
  let s := if r.final then s.countEntry h r else s
  if lost then (s.inc (Obj.HeadFiring.recordOverwrites h)).evAt Ev.recordOverwrite (s.planeOf h) r.line [] h else s

/-- An earlier line of the head is still to be resolved; one that a reversal withdrew appears at its later resolution (R207). -/
def Head.before (hd : Head) (line : Int) : Bool := hd.lines.any (fun f => f.st != .strobed && !bit f.flags 4 && decide (f.line < line))

/-- Entries that waited for those of earlier lines join the record, in ascending line (R207). -/
def State.settle (s : State) (h : Nat) : State :=
  let hd := s.head h
  let l := sortBy (fun (a b : FireRec) => decide (a.line ≤ b.line)) hd.held
  let ok := l.takeWhile (fun r => !hd.before r.line)
  ok.foldl (fun s r => s.pushEntry h r) (s.setHead h { hd with held := l.drop ok.length })

/-- The entry of a line that is resolved joins the mirrored tail, and the record after those of earlier lines (R207, R478). -/
def State.record (s : State) (h : Nat) (r : FireRec) : State :=
  let s := s.mirrorEntry h (r.bytes h)
  (s.setHead h { s.head h with held := (s.head h).held ++ [r] }).settle h

/-- A provisional entry gives way to the final one of its line (R208). -/
def confirmEntry (r : FireRec) (l : List FireRec) : List FireRec := l.map (fun x => if x.line = r.line && !x.final then r else x)

/-- Port `h`. -/
def State.port (s : State) (h : Nat) : Port := smGet (fun _ => Port.init) s.ports h
/-- Port `h` replaced. -/
def State.setPort (s : State) (h : Nat) (x : Port) : State := { s with ports := smSet (fun _ => Port.init) s.ports h x }

/-- The ports of the link of head port `h` (R187). -/
def State.link (s : State) (h : Nat) : List Nat := (linkPorts s.dict h).1

/-- The instant at which the blocks that fall due now leave HTX of head `h`: now, or at the end of the frame that its link carries
or of the blocks that followed one that was cut (R186). -/
def State.htxFree (s : State) (h : Nat) : Nat :=
  (s.link h).foldl (fun m p => ((s.head p).lines.filter (fun f => f.frame == .sent)).foldl (fun m f => max m f.frameEnd) (max m (s.port p).htxAt)) s.now

/-- Pier blocks go out on every HTX lane of the link of `h` from instant `at_` (R187). -/
def State.sendAt (s : State) (h at_ : Nat) (l : List (Bool × Block)) : State := (s.link h).foldl (fun s p => s.emit (.pier p at_ l)) s

/-- A block waits on the link of `h` for the end of a frame at `at_`. -/
def State.waitAt (s : State) (h at_ : Nat) : State :=
  (s.link h).foldl (fun s p => s.setPort p { s.port p with waits := (at_, if (s.port p).waits.1 = at_ then (s.port p).waits.2 + 1 else 1) }) s

/-- A control block goes out on every HTX lane of the link of `h`, in the first gap between frames (R186, R187). -/
def State.sendCtrl (s : State) (h : Nat) (b : Bool × Block) : State :=
  let at_ := s.htxFree h
  (if s.now < at_ then s.waitAt h at_ else s).sendAt h at_ [b]

/-- The link of `h` is taken after a cut at `at_`: by the block that ends the frame, where `n` is 1, and by those that waited for its end. -/
def State.takeLink (s : State) (h fin at_ n : Nat) : State :=
  (s.link h).foldl (fun s p =>
    let w := if (s.port p).waits.1 = fin then (s.port p).waits.2 else 0
    s.setPort p { s.port p with htxAt := at_ + (n + w) * blockTime (linkRate s.dict h) }) s

/-- The end of the block in progress on the link of `h` in a frame that began at `start`; now, where none is in progress. -/
def State.blockEnd (s : State) (h start : Nat) : Nat :=
  let tb := blockTime (linkRate s.dict h)
  start + cdiv (s.now - start) tb * tb

/-- The port of head `h` is UP (R191). -/
def State.portUp (s : State) (h : Nat) : Bool := s.nat (Obj.PortStatus.state h) == 2

/-- Thermal state Hard, or the lines that R215 still blanks. -/
def State.tooHot (s : State) (h : Nat) : Bool :=
  s.nat (Obj.HeadThermal.state h) == 2 || (s.head h).afterHard

/-- The holdoff of head `h`, 0.1 ns (R203). -/
def State.holdoff (s : State) (h : Nat) : Nat :=
  min (10 * s.nat Obj.FiringTiming.frameHoldoff)
    (headPeriod s.dict h - 10 * s.nat Obj.FiringTiming.strobeSetup - (slotCount s.dict h + 8) * blockTime (linkRate s.dict h))

/-- The head's next frame is ready as line `f` is resolved: its window opens at once and nothing withholds it. Its LSTART alone then ends
the old frame (R182, R206). -/
def State.superseded (s : State) (h : Nat) (f : FireLine) : Bool :=
  s.holdoff h == 0 && !s.blankWeb && s.portUp h && !s.tooHot h
    && (match (s.head h).lines.find? (fun g => decide (g.line > f.line)) with | some g => g.codes.isSome && g.hold.isNone | none => false)

/-- Ends the frame of a line that is withheld or withdrawn after its LSTART was sent, after the block in progress (R206): a frame cut
before its end has sent no LEND. Where `next` says so, the next LSTART, ready at that boundary, ends it alone. -/
def State.cancelFrame (s : State) (h : Nat) (f : FireLine) (reason : Nat) (next : Bool := false) : State :=
  if f.frame = .sent then
    let cut := decide (s.now < f.frameEnd)
    let at_ := if cut then s.blockEnd h f.frameStart else s.htxFree h
    let s := if cut then
        (s.link h).foldl (fun s p => s.emit (.pierCut p at_))
          (s.setN (Obj.PortStatus.framesSent h) (((s.nat (Obj.PortStatus.framesSent h) + 2 ^ 64 - 1) % 2 ^ 64 : Nat) : Int))
      else s
    let supers := next && s.superseded h f
    let s := s.takeLink h f.frameEnd at_ (if supers then 0 else 1)
    if supers then s
    else (s.sendAt h at_ [labort f.line reason]).inc (Obj.PortStatus.framesAborted h)
  else s

/-- A run of dropped lines of head `h` ends at a line that is not dropped (R74). -/
def State.endDrops (s : State) (h : Nat) : State :=
  match (s.head h).dropRun with
  | some (f, n) => (s.setHead h { s.head h with dropRun := none }).evAt Ev.dropRunEnded (s.planeOf h) f [h, n]
  | none => s

/-- A run of late lines of head `h` ends at a later line that is not late (R204). -/
def State.endLate (s : State) (h : Nat) (line : Int) : State :=
  match (s.head h).lateRun with
  | some (f, n) => if f < line then (s.setHead h { s.head h with lateRun := none }).evAt Ev.lateRunEnded (s.planeOf h) f [h, n] else s
  | none => s

/-- A withheld line's place in the runs of its head: it drops, it is late, or it ends them (R74, R204). -/
def State.runs (s : State) (h : Nat) (line : Int) (o : Nat) : State :=
  let k := s.planeOf h
  let s := if o = 2 then
      match (s.head h).dropRun with
      | none => (s.setHead h { s.head h with dropRun := some (line, 1) }).evAt Ev.linesDropped k line [h]
      | some (f, n) => s.setHead h { s.head h with dropRun := some (f, n + 1) }
    else s.endDrops h
  if o = 3 then
    match (s.head h).lateRun with
    | none => (s.setHead h { s.head h with lateRun := some (line, 1) }).evAt Ev.lateFrame k line [h] h
    | some (f, n) => s.setHead h { s.head h with lateRun := some (f, n + 1) }
  else s.endLate h line

/-- A line of head `h` leaves the lines in flight. -/
def State.dropLine (s : State) (h : Nat) (line : Int) : State :=
  let hd := s.head h
  s.setHead h { hd with lines := hd.lines.filter (fun f => f.line != line) }

/-- The instant that stands for a withheld line in R74: its prediction, or now where its target has been reached. -/
def State.crossing (s : State) (h : Nat) (f : FireLine) : Option Nat :=
  match s.predict (s.planeOf h) f.target with
  | some t => some t
  | none => if f.target ≤ (s.plane (s.planeOf h)).hwm then some s.now else (s.head h).prevTs

/-- A withheld line is resolved with an outcome (R203, R205): no strobe, its frame ended, its entry final at once. `at_` is the instant at
which its strobe would have been fixed, where the commit has one. -/
def State.resolve (s : State) (h : Nat) (f : FireLine) (o : Nat) (reason : Nat := 1) (at_ : Option Nat := none) : State :=
  let k := s.planeOf h
  let s := s.cancelFrame h f reason true
  let s := s.dropLine h f.line
  let s := s.setHead h { s.head h with
    resolved := some s.now
    quiet := (s.head h).quiet + 1
    prevTs := if o = 2 then (s.head h).prevTs else if f.st = .committed then some f.ts else at_.or (s.crossing h f) }
  let s := if o = 2 then s.bump (Obj.LineGenerator.droppedLines k) 64 else s
  let s := s.runs h f.line o
  s.record h { line := f.line, outcome := o, flags := f.flags, energy := f.energy
               drops := f.drops
               stamp := s.stamp .field, final := true }

/-- Outcomes that leave the ink of a line in doubt (R226). -/
def unsure (o : Nat) : Bool := o == 1 || o == 12

/-- A strobed line's entry becomes final where it stands (R208, R216). -/
def State.finalise (s : State) (h : Nat) (f : FireLine) (o : Nat) (flags : Nat) (stamp : Nat) : State :=
  let s := s.dropLine h f.line
  let s := if o = 9 then (s.inc (Obj.PortStatus.framesRejected h)).evAt Ev.frameRejected (s.planeOf h) f.line [] (h / 4) else s
  let r : FireRec := { line := f.line, outcome := o, flags := flags, energy := f.energy, drops := f.drops, stamp := stamp, final := true }
  let s := s.mirrorEntry h (r.bytes h)
  let hd := s.head h
  (s.setHead h { hd with record := confirmEntry r hd.record, held := confirmEntry r hd.held
                         doubt := if unsure o then hd.doubt ++ [f.line] else hd.doubt }).countEntry h r

/-- One line of head `h` replaced. -/
def State.setLine (s : State) (h : Nat) (f : FireLine) : State :=
  let hd := s.head h
  s.setHead h { hd with lines := hd.lines.map (fun g => if g.line = f.line then f else g) }

/-- Every cause that withholds a line of head `h` when its strobe would be fixed at `ts` (R205): the deciding one. A line that would drop is
blank-web while the position is uncertain (R67). -/
def State.cause (s : State) (h : Nat) (f : FireLine) (ts : Nat) : Option Nat :=
  let add := fun (o : Option Nat) (c : Bool) (n : Nat) => if c then some (match o with | none => n | some p => worse p n) else o
  let o := f.hold
  let tight : Bool := match (s.head h).prevTs with | none => false | some p => decide (ts < p + headPeriod s.dict h)
  let o := add o (s.blankWeb || (tight && s.uncertain)) 5
  let o := add o tight 2
  let o := add o (match (s.head h).take with
    | none => false
    | some t => t == 0 || decide (ts < t + max (10 * s.nat Obj.FiringTiming.commitLead) (tminLink s.dict h))) 7
  let o := add o (!s.portUp h) 10
  add o (s.tooHot h) 4

/-- The strobe of a line of head `h` is committed at its prediction or, where that is missing or less than `CommitLead`
ahead, `CommitLead` after now with the Deferred flag (R199-R201); a cause of withholding resolves the line instead. A part
that is not SOLO or ACTIVE commits nothing (R468). -/
def State.commitStrobe (s : State) (h : Nat) (f : FireLine) : State :=
  if !s.owner || f.st ≠ .waiting then s
  else
    let lead := 10 * s.nat Obj.FiringTiming.commitLead
    let pr := s.predict (s.planeOf h) f.target
    let late := match pr with | none => true | some t => decide (t < s.now + lead)
    let ts := match pr with | none => s.now + lead | some t => if t < s.now + lead then s.now + lead else t
    match s.cause h f ts with
    | some o => s.resolve h f o 1 (some ts)
    | none =>
      let fl := (f.flags &&& 0xFA) ||| (if late then 1 else 0) ||| (if s.uncertain then 4 else 0)
      let s := s.setLine h { f with st := .committed, ts := ts, flags := fl, prev := (s.head h).prevTs }
      let s := (s.setHead h { s.head h with prevTs := some ts, take := none }).endDrops h
      if late then s.evAt Ev.strobeDeferred (s.planeOf h) f.line [] h else s

/-- The earlier of two previous strobes; none before any. -/
def earlier : Option Nat → Option Nat → Option Nat
  | some a, some b => some (min a b)
  | _, _ => none

/-- A committed strobe is withdrawn when the cause comes at least `GuardTime` before it (R202): `none` returns the line to
waiting with the Rewound flag, and the head's previous undropped line is again the one before it; `some o` resolves it. -/
def State.withdraw (s : State) (h : Nat) (f : FireLine) (o : Option Nat) (reason : Nat) : State :=
  if f.st = .committed ∧ s.now + 400 ≤ f.ts then
    let s := s.evAt Ev.strobeWithdrawn (s.planeOf h) f.line [] h
    match o with
    | some o => s.resolve h f o reason
    | none =>
      let s := s.cancelFrame h f reason
      let s := s.setLine h { f with st := .waiting, flags := (f.flags &&& 0xFA) ||| 16
                                    frame := if f.frame = .closed then .closed else .window }
      s.setHead h { s.head h with prevTs := earlier (s.head h).prevTs f.prev }
  else s

/-- Every committed strobe of head `h` is offered for withdrawal. -/
def State.withdrawHead (s : State) (h : Nat) (o : Option Nat) (reason : Nat) : State :=
  (s.head h).lines.foldl (fun s f => s.withdraw h f o reason) s

/-- An accepted reverse edge withdraws the committed strobes of every head (R202); a line of a plane that has been disabled is then
uncommitted, and ABORTED (R134). -/
def State.reverseHeads (s : State) : State :=
  s.each ((List.range 64).filter (fun h => !(s.head h).lines.isEmpty)) (fun s h =>
    s.withdrawHead h (if s.flag (Obj.PlaneConfig.enable (s.planeOf h)) then none else some 8) 1)

/-- Every uncommitted line of head `h` that has opened takes the cause of a page abort, or of a pier that leaves (R134, R438); a frame
already sent for it ends (R206). -/
def State.holdWaiting (s : State) (h : Nat) (o : Nat) : State :=
  ((s.head h).lines.filter (fun f => f.st = .waiting)).foldl (fun s f =>
    let s := s.cancelFrame h f 1
    s.setLine h (({ f with frame := if f.frame = FrameState.sent then FrameState.aborted else f.frame } : FireLine).withhold o)) s

/-- The first line of head `h` with a property. -/
def State.findLine (s : State) (h : Nat) (p : FireLine → Bool) : Option FireLine := (s.head h).lines.find? p

/-- The targets of plane `k` that its accumulator has reached: uncommitted lines are committed at once (R72); lines already
withheld are resolved as they become due. -/
def State.reach (s : State) (k : Nat) : State :=
  (planeHeads s.dict k).foldl (fun s h =>
    ((s.head h).lines.filter (fun f => f.st = .waiting && decide (f.target ≤ (s.plane k).hwm))).foldl
      (fun s f => s.commitStrobe h f) s) s

end Sys2Proof.Machine
end

