-- ==== Sys2Proof/Machine/WinOps.lean ====
section
/-! DEFINITION. The windows of inspection and the axes of the registration loops, as the opening of lines and the start of pages move
them on (R274, R281, R282). -/

namespace Sys2Proof.Machine

/-- The analysis of plane `k`. -/
def State.anaOf (s : State) (k : Nat) : Ana := smGet (fun _ => Ana.init) s.ana k
/-- The analysis of plane `k` replaced. -/
def State.setAna (s : State) (k : Nat) (x : Ana) : State := { s with ana := smSet (fun _ => Ana.init) s.ana k x }

/-- Objects of plane `k` that a window keeps from its start (R284). -/
def windowCfg (d : Dict) (k : Nat) : Dict := d.filter (fun e => e.1 / 256 == 0x6210 + k || e.1 / 256 == 0x6218 + k || e.1 / 256 == 0x6220 + k)

/-- Plane `k` is enabled (R268, R274): its windows start over at ⌈a0⌉, with nothing stale. -/
def State.anchorWindows (s : State) (k : Nat) : State :=
  let first := -(-(s.plane k).ancA / 2 ^ 48)
  (s.setAna k { s.anaOf k with next := first, idx := 0, wins := [], keep := none, ests := [], waits := [], along := { (s.anaOf k).along with effect := none }
                               across := { (s.anaOf k).across with effect := none } }).setN (Obj.PlaneRender.windowIndex k) 0

/-- The objects that a window of plane `k` beginning at line `L` takes (R284): those in force, but for a commit that takes effect at `L`
itself, which applies from the next window. -/
def State.windowObjects (s : State) (k : Nat) (L : Int) : List (Nat × Val) :=
  match (s.anaOf k).keep with
  | some (l, d) => if l = L then d else windowCfg s.dict k
  | none => windowCfg s.dict k

/-- A commit is about to change objects of plane `k` at line `L`: a window that begins there keeps the present ones (R284). -/
def State.keepWindow (s : State) (k : Nat) (L : Int) : State := s.setAna k { s.anaOf k with keep := some (L, s.windowObjects k L) }

/-- The analysis of plane `k` stops (R275, R284): of its windows the one in progress remains, with nothing seen. -/
def State.stopWindows (s : State) (k : Nat) : State :=
  let a := s.anaOf k
  s.setAna k { a with wins := (a.wins.drop (a.wins.length - 1)).map (fun w => { w with closed := [], parts := [], stats := [], cx := [], cy := [] }) }

/-- As line `L` opens, the window that begins there begins: with `WindowLines` and the plane's objects in force (R274, R284). While no
analysis runs, only the window in progress is kept. -/
def State.beginWindow (s : State) (k : Nat) (L : Int) : State :=
  let a := s.anaOf k
  if L < a.next then s
  else
    let n := s.nat Obj.AnalysisControl.windowLines
    let w : Win := { idx := a.idx, first := a.next, lines := n, cfg := s.windowObjects k L, closed := [], parts := [], stats := [], cx := [], cy := [] }
    let old := if (s.plane k).ext.isSome then a.wins else []
    (s.setAna k { a with next := a.next + n, idx := (a.idx + 1) % 2 ^ 32, wins := old ++ [w] }).setN (Obj.PlaneRender.windowIndex k) a.idx

/-- The slew budgets of plane `k` renew at a page start (R281); a correction that takes effect there is charged to the new page. -/
def State.renewSlew (s : State) (k : Nat) (L : Int) : State :=
  let a := s.anaOf k
  let f := fun (x : Axis) => { x with used := if x.lastLine = L then x.last else 0 }
  s.setAna k { a with along := f a.along, across := f a.across }

/-- A change of `PlanePhase` or `LateralShift` takes effect at line `L` (R282). -/
def State.axisEffect (s : State) (key : Nat) (L : Int) : State :=
  match (List.range 4).find? (fun k => key == Obj.PlaneConfig.planePhase k || key == Obj.PlaneConfig.lateralShift k) with
  | none => s
  | some k =>
    let a := s.anaOf k
    if key = Obj.PlaneConfig.planePhase k then s.setAna k { a with along := { a.along with effect := some L } }
    else s.setAna k { a with across := { a.across with effect := some L } }

end Sys2Proof.Machine
end

