-- ==== Sys2Proof/Machine/PageOps.lean ====
section
/-! DEFINITION. Operations on strips and pages (spec/05): the container and descriptor checks, the page queue, the strip
store, the inflate engines and the tile deadlines. -/

namespace Sys2Proof.Machine

/-! ### Formats (R123, R125, R130) -/

/-- Code width of a dot format; none for a contone format. -/
def dotBits (fmt : Nat) : Option Nat := if 1 ≤ fmt ∧ fmt ≤ 3 then some fmt else none

/-- A format and resolution code that R123 names. -/
def formatOk (fmt res : Nat) : Bool :=
  ((dotBits fmt).isSome && res == 0) || ((fmt == 0x10 || fmt == 0x11) && decide (res < 16) && decide (bits res 2 1 ≤ 2))

/-- Along factor f. -/
def along (res : Nat) : Nat := 2 ^ bits res 2 1

/-- Bytes of one stored line of `cols` columns (R125). -/
def storedLine (fmt res cols : Nat) : Nat :=
  match dotBits fmt with
  | some b => 8 * cdiv cols (codesPerWord b)
  | none => let n := if bit res 0 then cols / 2 else cols
            if fmt = 0x11 then 2 * n else n

/-- Uncompressed length of a tile of `n` lines and `cols` columns (R125). -/
def tileBytes (fmt res n cols : Nat) : Nat := n / along res * storedLine fmt res cols

/-! ### The strip container (R123-R127) -/

/-- Whether a header passes the HEADER check of R127. -/
def headerOk (b : Bytes) : Bool :=
  let fmt := fld b 6 1; let res := fld b 7 1
  let n := fld b 24 4; let cols := fld b 32 4; let comp := fld b 36 1
  decide (64 ≤ b.length) && fld b 0 4 == 0x54535A41 && fld b 4 1 == 1 && decide (fld b 5 1 < 4) && formatOk fmt res
    && fld b 22 2 == 0 && decide (1 ≤ n ∧ n ≤ 65536) && n % along res == 0 && fld b 28 4 % 64 == 0
    && cols % 64 == 0 && decide (64 ≤ cols ∧ cols ≤ 262144) && decide (comp ≤ 1) && fld b 37 3 == 0
    && fld b 40 4 == tileBytes fmt res n cols && decide (fld b 40 4 ≤ 32768)
    && (comp != 0 || fld b 44 4 == fld b 40 4) && fld b 52 8 == 0 && fld b 60 4 == crc32 (b.take 60)

/-- The strip of a container whose header passed. -/
def stripOf (b : Bytes) : Strip :=
  { job := fld b 8 4, page := fld b 12 4, plane := fld b 5 1, firstLine := fld b 16 6, firstCol := fld b 28 4
    lineCount := fld b 24 4, cols := fld b 32 4, format := fld b 6 1, res := fld b 7 1, comp := fld b 36 1
    raw := fld b 40 4, crc := fld b 48 4, data := sub b 64 (fld b 44 4), st := .deposited, bound := false, dead := false, notOn := none }

/-- Two strips share a key (R127). -/
def sameKey (a b : Strip) : Bool :=
  a.job == b.job && a.page == b.page && a.plane == b.plane && a.firstLine == b.firstLine && a.firstCol == b.firstCol

/-- Bytes a strip takes in the store. -/
def Strip.size (x : Strip) : Nat := x.data.length + 64

/-- A change of the strip store, with its read-only objects (R144). -/
def State.setStrips (s : State) (x : Strips) : State :=
  let s := { s with strips := x }
  let s := s.setN Obj.StripStore.storeFree ((s.num Obj.StripStore.storeBytes) - ((x.held.map Strip.size).sum : Nat))
  let s := s.setN Obj.StripStore.stripsHeld x.held.length
  let s := s.setN Obj.StripStore.orphans (x.held.filter (fun y => !y.bound)).length
  s.setN Obj.InflateStatus.buffersFree
    ((32 - (x.held.filter (fun y => match y.st with | .inflating _ => true | .verified _ => true | _ => false)).length : Nat) : Int)

/-- The held strips replaced. -/
def State.setHeld (s : State) (l : List Strip) : State := s.setStrips { s.strips with held := l }

/-! ### Engines and the strips that leave (R128, R129, R136) -/

/-- `EnginesBusy` follows the engines. -/
def State.engineBits (s : State) : State :=
  s.setN Obj.InflateStatus.enginesBusy
    (((List.range 16).filter (fun e => s.nat (Obj.EngineStatus.state e) == 1)).foldl (fun m e => m + 2 ^ e) 0 : Nat)

/-- Engine `e` becomes idle; a reset that waited for that is no longer asked for (R437). -/
def State.idleEngine (s : State) (e : Nat) : State :=
  let s := s.setStrips { s.strips with engines := smSet (fun _ => none) s.strips.engines e none }
  (((s.setN (Obj.EngineStatus.state e) 0).setN (Obj.EngineStatus.plane e) 0xFF).engineBits).endWait .engine e

/-- The strip that engine `e` holds. -/
def State.engineStrip (s : State) (e : Nat) : Option Strip := s.strips.held.find? (fun x => x.st == .inflating e)

/-- Strips leave the store; an engine that held one becomes idle (R129, R136). -/
def State.dropStrips (s : State) (p : Strip → Bool) : State :=
  let es := (List.range 16).filter (fun e => match s.engineStrip e with | some x => p x | none => false)
  (s.setHeld (s.strips.held.filter (fun x => !p x))).each es (fun s e => s.idleEngine e)

/-- A strip that matches no tile of its page has been discarded: counted and reported (R128). -/
def State.mismatch (s : State) (k : Nat) : State :=
  (s.setStrips { s.strips with mismatches := s.strips.mismatches + 1 }).evPl Ev.stripMismatch k

/-! ### Page descriptors (R130, R131) -/

/-- The bands of a descriptor, with whether every reserved field is 0. -/
def parseBands (b : Bytes) : Nat → Nat → List Band × Bool
  | _, 0 => ([], true)
  | o, n + 1 =>
    let r := parseBands b (o + 8) n
    ({ first := fld b o 4, cols := fld b (o + 4) 3, blank := bit (fld b (o + 7) 1) 0 } :: r.1,
      r.2 && decide (fld b (o + 7) 1 < 2))

/-- Bands in ascending order, apart, multiples of 64, within the width; a band of no columns is refused (log entry 153). -/
def bandsOk (w : Nat) : Nat → List Band → Bool
  | _, [] => true
  | lo, b :: r => decide (lo ≤ b.first) && b.first % 64 == 0 && b.cols % 64 == 0 && decide (0 < b.cols)
      && decide (b.first + b.cols ≤ w) && bandsOk w (b.first + b.cols) r

/-- A page descriptor for plane `k`; none where R131 refuses it with abort 0x0201_0001. -/
def State.parsePage (s : State) (k : Nat) (b : Bytes) : Option Page :=
  let n := fld b 15 1
  let (bands, res0) := parseBands b 32 n
  let fmt := fld b 22 1; let res := fld b 23 1; let len := fld b 8 6; let mode := fld b 14 1; let tl := fld b 24 4
  let (rn, rd) := maxRate s.dict k
  let ok := decide (1 ≤ n ∧ n ≤ 16) && b.length == 32 + 8 * n && decide (1 ≤ len ∧ len < 2 ^ 47) && decide (mode ≤ 2)
    && (mode == 2 || fld b 16 6 == 0) && formatOk fmt res && decide (1 ≤ tl ∧ tl ≤ 65536) && tl % along res == 0
    && fld b 28 4 == 0 && res0 && len % along res == 0 && bandsOk (width s.dict k) 0 bands
    && (match dotBits fmt with | some w => w == s.nat (Obj.PlaneConfig.dropBits k) | none => true)
    && bands.all (fun x => x.blank || (decide (tileBytes fmt res (min tl len) x.cols ≤ 32768)
        && decide (storedLine fmt res x.cols * rn ≤ 800000000 * along res * rd)))
  if ok then
    some { job := fld b 0 4, page := fld b 4 4, length := len, startMode := mode, startLine := sfld b 16 6, format := fmt
           res := res, stripLines := tl, bands := bands, start := none, last := 0, chain := true, waits := false
           cut := false, faulted := [], judged := 0 }
  else none

/-- Lines of the tile of a page that starts at page line `i`. -/
def Page.tileLines (p : Page) (i : Nat) : Nat := min p.stripLines (p.length - i)

/-- A strip matches a tile of its page (R121). -/
def Page.matches (p : Page) (x : Strip) : Bool :=
  x.format == p.format && x.res == p.res && x.firstLine % p.stripLines == 0 && decide (x.firstLine < p.length)
    && x.lineCount == p.tileLines x.firstLine
    && p.bands.any (fun b => !b.blank && b.first == x.firstCol && b.cols == x.cols)

/-- The page of plane `k`'s queue that a strip names. -/
def State.pageFor (s : State) (x : Strip) : Option Page :=
  (s.plane x.plane).pages.find? (fun p => p.job == x.job && p.page == x.page)

/-- Orphans of a newly appended page bind, or are discarded with StripMismatch (R128). -/
def State.bindOrphans (s : State) (k : Nat) (p : Page) : State :=
  let mine := fun (x : Strip) => !x.bound && x.plane == k && x.job == p.job && x.page == p.page
  let bad := s.strips.held.filter (fun x => mine x && !p.matches x)
  let s := s.setHeld ((s.strips.held.filter (fun x => !(mine x && !p.matches x))).map
    (fun x => if mine x then { x with bound := true } else x))
  bad.foldl (fun s _ => s.mismatch k) s

/-! ### The queue (R132-R135) -/

/-- The queue's read-only objects (R144): depth, and the page started last while it has lines to come or to screen. -/
def State.setPages (s : State) (k : Nat) (l : List Page) : State :=
  let s := s.setPlane k { s.plane k with pages := l }
  let s := s.setN (Obj.PageQueue.queueDepth k) l.length
  match (l.filter (fun p => p.start.isSome)).getLast? with
  | some p => ((s.setN (Obj.PageQueue.activeJob k) p.job).setN (Obj.PageQueue.activePage k) p.page).setN
      (Obj.PageQueue.activeStartLine k) (p.start.getD 0)
  | none => ((s.setN (Obj.PageQueue.activeJob k) 0).setN (Obj.PageQueue.activePage k) 0).setN (Obj.PageQueue.activeStartLine k) 0

/-- The head of the queue: the first page that has not started (R132). -/
def headPage (l : List Page) : Option Page := l.find? (fun p => p.start.isNone)

/-- The head of the queue changed by `f`. -/
def mapHead (f : Page → Page) : List Page → List Page
  | [] => []
  | p :: r => if p.start.isNone then f p :: r else p :: mapHead f r

/-- The queue without its head. -/
def dropHead : List Page → List Page
  | [] => []
  | p :: r => if p.start.isNone then r else p :: dropHead r

/-- A page leaves the queue of plane `k`: its strips leave the store (R129), and later strips of it are EXPIRED (R127). -/
def State.freePage (s : State) (k : Nat) (p : Page) : State :=
  let s := s.dropStrips (fun x => x.plane == k && x.job == p.job && x.page == p.page)
  s.setStrips { s.strips with
    gone := if s.strips.gone.contains (k, p.job, p.page) then s.strips.gone else s.strips.gone ++ [(k, p.job, p.page)] }

/-- The first line of plane `k` that has not been screened. -/
def State.unscreened (s : State) (k : Nat) : Int :=
  match (s.plane k).lines with | o :: _ => o.line | [] => (s.plane k).opened + 1

/-- Started pages whose last line has been screened leave the queue (R133): with PageDone unless cut short. -/
def State.retirePages (s : State) (k : Nat) : State :=
  let u := s.unscreened k
  let gone := (s.plane k).pages.filter (fun p => p.start.isSome && decide (p.last < u))
  let s := if gone.isEmpty then s else
    s.setPages k ((s.plane k).pages.filter (fun p => !(p.start.isSome && decide (p.last < u))))
  gone.foldl (fun s p =>
    let s := (s.freePage k p).setPlane k { (s.freePage k p).plane k with printed := some p.last }
    if p.cut then s else s.evPl Ev.pageDone k) s

/-- A started page of plane `k` has lines that have not opened: an AT_LINE page behind it has not come to the head (R132). -/
def State.pageRuns (s : State) (k : Nat) : Bool :=
  (s.plane k).pages.any (fun p => p.start.isSome && decide (p.last > (s.plane k).opened))

/-- An AT_LINE page at the head whose line has opened raises PageMissed and waits (R132). -/
def State.checkMissed (s : State) (k : Nat) : State :=
  match headPage (s.plane k).pages with
  | some p =>
    if p.startMode = 2 ∧ !p.waits ∧ !(s.plane k).noPage ∧ !s.pageRuns k ∧ p.startLine ≤ (s.plane k).opened then
      (s.setPages k (mapHead (fun q => { q with waits := true }) (s.plane k).pages)).evPl Ev.pageMissed k [] k
    else s
  | none => s

/-- A dot page whose width no longer matches `DropBits`. -/
def State.wrongDots (s : State) (k : Nat) (p : Page) : Bool :=
  (dotBits p.format).isSome && dotBits p.format != some (s.nat (Obj.PlaneConfig.dropBits k))

/-- The page at the head is removed with PageMissed (R132). -/
def State.removeHead (s : State) (k : Nat) (p : Page) : State :=
  ((s.setPages k (dropHead (s.plane k).pages)).freePage k p).evPl Ev.pageMissed k [] k

/-- Dot pages at the head whose width no longer matches `DropBits` are removed with PageMissed (R80). -/
def State.dropWrongDots (s : State) (k : Nat) : Nat → State
  | 0 => s
  | n + 1 =>
    match headPage (s.plane k).pages with
    | some p => if s.wrongDots k p then (s.removeHead k p).dropWrongDots k n else s
    | none => s

/-- No page of plane `k` starts: `Held` (R141), the field island holds the Span lost (R392), or an activation is armed (R466). -/
def State.noStart (s : State) (k : Nat) : Bool := s.flag (Obj.PageQueue.held k) || s.span.lostF || s.sec.armed

/-- The pages that cover line `L` of plane `k` or lie beyond it end before it, with PageTruncated (R133). -/
def State.truncatePages (s : State) (k : Nat) (L : Int) : State :=
  let beyond := (s.plane k).pages.filter (fun p => p.start.isSome && decide (p.last ≥ L))
  let s := s.setPages k ((s.plane k).pages.map (fun p =>
    if p.start.isSome && decide (p.last ≥ L) then { p with last := L - 1, cut := true } else p))
  beyond.foldl (fun s _ => s.evAt Ev.pageTruncated k L) s

/-- The page at the head starts at a plane line (R80, R132, R133): the page that covers the line ends before it. Where no page is left to
start, the plane prints none until a later start finds one. Answers whether a page started. -/
def State.startPage (s : State) (k : Nat) (L : Int) : State × Bool :=
  if s.noStart k then (s, false)
  else
    let s := (s.dropWrongDots k 1024).truncatePages k L
    match headPage (s.plane k).pages with
    | none => ((s.setPlane k { s.plane k with next := none, noPage := true }).retirePages k, false)
    | some p =>
      let s := if (dotBits p.format).isSome then s.setPlane k { s.plane k with dots := (s.plane k).dots ++ [(L, L + p.length - 1)] } else s
      let s := s.setPages k (mapHead (fun q => { q with start := some L, last := L + q.length - 1 }) (s.plane k).pages)
      let s := s.setPlane k { s.plane k with next := none, noPage := false }
      (((s.renewSlew k L).retirePages k).checkMissed k, true)

/-- The page at the head starts by itself as line `L` opens (R132): AT_LINE at its line, CHAINED at the line after its predecessor's last. -/
def State.startsAt (s : State) (k : Nat) (L : Int) (p : Page) : Bool :=
  !p.waits && !s.noStart k && !(s.plane k).noPage && !s.pageRuns k && ((p.startMode == 2 && p.startLine == L) || (p.startMode == 1 && (s.plane k).next == some L))

/-- No CHAINED page follows any longer: one that comes to the head now waits (R132). -/
def State.unchain (s : State) (k : Nat) : State := s.setPlane k { s.plane k with next := none }

/-- The start that R132 gives a page by itself as line `L` opens; a dot page of the wrong width is removed in its place. -/
def State.autoStart (s : State) (k : Nat) (L : Int) : Nat → State
  | 0 => s
  | n + 1 =>
    match headPage (s.plane k).pages with
    | none => s
    | some p =>
      if (s.plane k).pages.any (fun q => q.start == some L) ∨ !s.startsAt k L p then s
      else if s.wrongDots k p then (((s.removeHead k p).unchain k).checkMissed k).autoStart k L n
      else (s.startPage k L).1

/-- The last line of a page opens: the CHAINED page that is then at the head starts at the next line; one that comes to the head later
waits for a PageStart (R132). -/
def State.closeChain (s : State) (k : Nat) (L : Int) : State :=
  let l := (s.plane k).pages
  if l.any (fun q => q.start.isSome && q.last == L && q.chain && !q.cut) then
    let follows := match headPage l with | some p => p.startMode == 1 && !p.waits | none => false
    let s := s.setPages k (l.map (fun q => if q.start.isSome && q.last == L then { q with chain := false } else q))
    s.setPlane k { s.plane k with next := if follows then some (L + 1) else none }
  else s

/-- The page of plane `k` that holds plane line `L`. -/
def State.pageAt (s : State) (k : Nat) (L : Int) : Option Page :=
  (s.plane k).pages.find? (fun p => match p.start with | some S => decide (S ≤ L ∧ L ≤ p.last) | none => false)

/-- Ends the active page of plane `k`, one that has started and not yet been screened to its end (R133, R134): lines from the first
unopened one are blank; the next page only waits. Answers whether a page was active. -/
def State.abortPage (s : State) (k : Nat) : State × Bool :=
  let u := s.unopened k
  let act := (s.plane k).pages.filter (fun p => p.start.isSome && !p.cut)
  match act with
  | [] => (s, false)
  | _ =>
    let l := (s.plane k).pages.map (fun p =>
      if p.start.isSome && !p.cut then { p with last := min p.last (u - 1), cut := true, chain := false } else p)
    let s := s.setPages k (mapHead (fun q => { q with waits := true }) l)
    let s := act.foldl (fun s _ => s.evPl Ev.pageAborted k) s
    (s.retirePages k, true)

/-! ### Known starts and dispatch (R137) -/

/-- The pages of a queue with the start line where R137 knows it; `prev` is the last line of the page before that a CHAINED page would
follow, `arm` the key line of the earliest armed PageStart while the page is at the head. -/
def knownStarts (arm : Option Int) : Option Int → List Page → List (Page × Int)
  | _, [] => []
  | prev, p :: r =>
    match p.start with
    | some S => (p, S) :: knownStarts arm (if p.chain && !p.cut then some p.last else prev) r
    | none =>
      let own : Option Int :=
        if p.startMode = 2 ∧ !p.waits then some p.startLine
        else if p.startMode = 1 ∧ !p.waits ∧ prev.isSome then prev.map (· + 1)
        else arm
      match own with
      | some S => (p, S) :: knownStarts none (some (S + p.length - 1)) r
      | none => knownStarts none none r

/-- The key line of the earliest armed PageStart of plane `k`. -/
def State.armedStart (s : State) (k : Nat) : Option Int :=
  (s.sched.table.filter (fun e => e.action == 1 && e.plane == k)).foldl
    (fun m e => match m with | none => some e.key | some x => some (min x e.key)) none

/-- The pages of plane `k` with the start lines that are known (R137); where a PageStart has found no page, the head waits for the next
one (R80). -/
def State.starts (s : State) (k : Nat) : List (Page × Int) :=
  let l := (s.plane k).pages
  knownStarts (s.armedStart k) ((s.plane k).next.map (· - 1)) (if (s.plane k).noPage then mapHead (fun q => { q with waits := true }) l else l)

/-- First plane line F of a bound strip's tile, where its page's start is known. -/
def State.firstPlaneLine (s : State) (x : Strip) : Option Int :=
  ((s.starts x.plane).find?
    (fun p => p.1.job == x.job && p.1.page == x.page)).map (fun p => p.2 + x.firstLine)

/-- Engine `e` is idle. -/
def State.engineFree (s : State) (e : Nat) : Bool := s.nat (Obj.EngineStatus.state e) == 0

/-- The lowest free engine that a strip may take: one of its plane's `EngineMask`, and not the one that faulted with it (R137, R143). -/
def State.freeEngine (s : State) (x : Strip) : Option Nat :=
  (List.range 16).find? (fun e => s.engineFree e && bit (s.nat (Obj.PlaneInflate.engineMask x.plane)) e && x.notOn != some e)

/-- A strip waits for an engine: deposited, bound, its start known and the mark within reach (R137). Answers its lines to the
deadline (F − `OpenLead` less the mark, in 2⁻⁴⁸ line). -/
def State.eligible (s : State) (x : Strip) : Option Int :=
  match x.st, s.firstPlaneLine x with
  | .deposited, some F =>
    let k := x.plane
    let lead := s.num (Obj.PlaneSchedule.openLead k)
    if x.bound ∧ !x.dead ∧ (s.plane k).hwm ≥ (F - lead - s.num (Obj.PlaneInflate.inflateLead k)) * 2 ^ 48 then
      some ((F - lead) * 2 ^ 48 - (s.plane k).hwm)
    else none
  | _, _ => none

/-- Dispatch order (R137): strips with a predicted deadline instant, which an enabled plane gives, first, by instant; then fewest lines; ties
to the lower plane and the lower FirstColumn. -/
def State.dispatchKey (s : State) (x : Strip) : List Int :=
  match s.eligible x with
  | none => [2, 0, 0, 0]
  | some n =>
    match (if s.flag (Obj.PlaneConfig.enable x.plane) then s.predict x.plane ((s.plane x.plane).hwm + n) else none) with
    | some t => [0, t, x.plane, x.firstCol]
    | none => [1, n, x.plane, x.firstCol]

/-- Lexicographic order. -/
def lexLe : List Int → List Int → Bool
  | a :: r, b :: q => if a = b then lexLe r q else decide (a < b)
  | _, _ => true

/-- Applies `f` to the held strips with the key of `x`. -/
def State.mapStrip (s : State) (x : Strip) (f : Strip → Strip) : State :=
  s.setHeld (s.strips.held.map (fun y => if sameKey x y then f y else y))

/-- Engine `e` takes a strip. -/
def State.loadEngine (s : State) (e : Nat) (x : Strip) : State :=
  let s := s.mapStrip x (fun y => { y with st := .inflating e, notOn := none })
  let s := s.setStrips { s.strips with
    engines := smSet (fun _ => none) s.strips.engines e (some ⟨x.job, x.page, x.plane, x.firstLine, x.firstCol⟩) }
  let s := ((s.setN (Obj.EngineStatus.state e) 1).setN (Obj.EngineStatus.plane e) x.plane).setN (Obj.EngineStatus.job e) x.job
  ((s.setN (Obj.EngineStatus.page e) x.page).setN (Obj.EngineStatus.firstLine e) x.firstLine).engineBits

/-! ### Tile faults (R140, R141) -/

/-- One tile of plane `k` faults at the opening of its first line. -/
def State.tileFault (s : State) (k : Nat) (p : Page) (L : Int) (i : Nat) (col : Nat) (cause : Nat) : State :=
  let s := s.setPages k ((s.plane k).pages.map (fun q =>
    if q.job == p.job && q.page == p.page then { q with faulted := q.faulted ++ [(i, col)] } else q))
  let mine := fun (x : Strip) => x.plane == k && x.job == p.job && x.page == p.page && x.firstLine == i && x.firstCol == col
  -- a strip still inflating is freed when it verifies; any other is freed now
  let s := s.setHeld ((s.strips.held.filter (fun x => !(mine x && (match x.st with | .inflating _ => false | _ => true)))).map
    (fun x => if mine x then { x with dead := true } else x))
  let s := (s.inc (Obj.PageQueue.tileFaults k)).evAt Ev.stripFault k L [p.job, p.page, (cause * 2 ^ 24 + col : Nat)] k
  if s.nat (Obj.PageQueue.faultPolicy k) = 1 ∧ !s.flag (Obj.PageQueue.held k) then
    (((s.setF (Obj.PageQueue.held k) true)).setPages k (mapHead (fun q => { q with waits := true }) (s.plane k).pages)).evAt Ev.planeHeld k L [] k
  else s

/-- The tiles whose first line is plane line `L`: each must have a verified strip (R140 step 4). -/
def State.checkTiles (s : State) (k : Nat) (L : Int) : State :=
  match s.pageAt k L with
  | none => s
  | some p =>
    let i := (L - p.start.getD 0).toNat
    if i % p.stripLines ≠ 0 then s
    else (p.bands.filter (fun b => !b.blank)).foldl (fun s b =>
      match s.strips.held.find? (fun x => x.bound && x.plane == k && x.job == p.job && x.page == p.page
          && x.firstLine == i && x.firstCol == b.first) with
      | none => s.tileFault k p L i b.first 0
      | some x => match x.st with
        | .verified _ => s
        | .failed c => s.tileFault k p L i b.first (if c then 3 else 2)
        | _ => s.tileFault k p L i b.first 1) s

/-- The tiles of one row without a deposited strip, from page line `i` of page `p`. -/
def State.missingTiles (s : State) (k : Nat) (p : Page) (i : Nat) : Nat :=
  ((p.bands.filter (fun b => !b.blank)).filter (fun b => !s.strips.held.any (fun x =>
    x.bound && x.plane == k && x.job == p.job && x.page == p.page && x.firstLine == i && x.firstCol == b.first))).length

/-- Page lines at which the rows of tiles begin that have not been judged and whose first plane line is at or before `to_`, for a page that starts
at line `S`. -/
def Page.rowsDue (p : Page) (S to_ : Int) : List Nat :=
  let n := (to_ - S - p.judged) / p.stripLines + 1
  ((List.range n.toNat).map (fun j => p.judged + j * p.stripLines)).filter (fun i => decide (i < p.length))

/-- Every tile whose inflate point, F − `OpenLead` − `InflateLead`, the mark of plane `k` has reached, is judged once its start line is known:
one without a deposited strip counts in `WaitingStrips` (R140 step 2). -/
def State.countWaiting (s : State) (k : Nat) : State :=
  if !s.flag (Obj.PlaneConfig.enable k) then s
  else
    let to_ := (s.plane k).opened + s.num (Obj.PlaneInflate.inflateLead k)
    let due := (s.starts k).filter (fun q => !(q.1.rowsDue q.2 to_).isEmpty)
    let n := (due.map (fun q => ((q.1.rowsDue q.2 to_).map (s.missingTiles k q.1)).sum)).sum
    if due.isEmpty then s
    else (s.setPages k ((s.plane k).pages.map (fun p =>
        match due.find? (fun q => q.1.job == p.job && q.1.page == p.page) with
        | some q => { p with judged := p.judged + (p.rowsDue q.2 to_).length * p.stripLines }
        | none => p))).bump (Obj.PageQueue.waitingStrips k) 32 n

end Sys2Proof.Machine
end

