-- ==== Sys2Proof/Machine/GroupOps.lean ====
section
/-! DEFINITION. Commit groups (R335-R339): staged values, the checks of a commit and its effect. -/

namespace Sys2Proof.Machine

/-- The plane that an RWS or RWL object is bound to, none for no plane (R336): the objects of plane k's records, and a head
record's by the head's plane. -/
def boundPlane (d : Dict) (key : Nat) : Option Nat :=
  let ix := key / 256
  let at_ := fun (base : Nat) => if base ≤ ix ∧ ix < base + 4 then some (ix - base) else none
  if 0x4100 ≤ ix ∧ ix < 0x4140 then
    let k := dnat d (Obj.HeadRecord.plane (ix - 0x4100))
    if k < 4 then some k else none
  else [0x4000, 0x4008, 0x5108, 0x5200, 0x5208, 0x5210, 0x5218, 0x4408, 0x6210, 0x6218, 0x6220].findSome? at_

/-- Staged values of group `g`. -/
def State.staged (s : State) (g : Nat) : List (Nat × Val) := smGet (fun _ => []) s.groups.staged g

/-- Staged values as R347 entries, ascending. -/
def entryBytes (key : Nat) (v : Val) : Bytes :=
  let ty := match descOf key with | some d => d.ty | none => .dom
  let b := encodeVal ty v
  leBytes 2 ((key / 256 : Nat) : Int) ++ leBytes 1 ((key % 256 : Nat) : Int) ++ leBytes 1 ty.code ++ leBytes 4 b.length ++ b
    ++ List.replicate ((4 - b.length % 4) % 4) 0#8

/-- Staged values of group `g` replaced, with `StagedCount`; `Contents` changes. -/
def State.setStaged (s : State) (g : Nat) (l : List (Nat × Val)) : State :=
  let s := { s with groups := { s.groups with staged := smSet (fun _ => []) s.groups.staged g l } }
  (s.setN (Obj.CommitGroup.stagedCount g) l.length).touch (Obj.CommitGroup.contents g)

/-- The group that holds a staged value of an object (R336). -/
def State.stagedIn (s : State) (key : Nat) : Option Nat :=
  (s.groups.staged.find? (fun p => p.2.any (fun e => e.1 == key))).map (·.1)

/-- A dictionary with staged values laid over it (R337). -/
def overlay (d : Dict) (l : List (Nat × Val)) : Dict := l.foldl (fun d e => smSet objDefault d e.1 e.2) d

/-- Records of the RWS objects that relate to one another within a camera's or a plane's index (R259, R284): the order of
each pair of bounds. -/
def orderOk (d : Dict) : Bool :=
  (List.range 4).all (fun i =>
    decide (dnum d (Obj.PipelineConfig.coverStart i) ≤ dnum d (Obj.PipelineConfig.coverEnd i))
      && decide (dnum d (Obj.RegistrationLoop.regStart i) ≤ dnum d (Obj.RegistrationLoop.regEnd i))
      && decide (dnum d (Obj.StreakConfig.deviatedLevel i) ≤ dnum d (Obj.StreakConfig.missingLevel i)))

/-- The covers of enabled cameras do not overlap (R259). -/
def coversOk (d : Dict) : Bool :=
  let on := (List.range 4).filter (fun c => dnum d (Obj.CameraPort.enable c) ≠ 0)
  on.all (fun a => on.all (fun b => a == b || decide (dnum d (Obj.PipelineConfig.coverEnd a) < dnum d (Obj.PipelineConfig.coverStart b)
    ∨ dnum d (Obj.PipelineConfig.coverEnd b) < dnum d (Obj.PipelineConfig.coverStart a))))

/-- Bytes of one MiB. -/
def mib : Nat := 2 ^ 20

/-- The keys of the region sizes (R307). -/
def regionKeys : List Nat :=
  [Obj.RegionMap.stripStoreSize, Obj.RegionMap.cameraRingSize, Obj.RegionMap.previewRingSize, Obj.RegionMap.archiveSize]

/-- The trestle that a region map leaves (R306): what the fixed and the sized regions do not take. -/
def trestleLeft (d : Dict) (channelBytes channels : Nat) : Int :=
  (channelBytes * channels : Nat) - (128 * mib : Nat) - (dnat d Obj.RegionMap.stripStoreSize : Int) - dnat d Obj.RegionMap.cameraRingSize
    - dnat d Obj.RegionMap.previewRingSize - dnat d Obj.RegionMap.archiveSize

/-- Capacity per channel of the configured devices (R285). -/
def State.channelCapacity (s : State) : Nat :=
  s.nat Obj.DramConfig.ranks * (match s.nat Obj.DramConfig.density with | 0 => 16 | 1 => 24 | _ => 32) * 2 ^ 30

/-- The controller supports the configured combination (R285): one rank, or two of 16 Gbit devices at up to 5,200 MT/s; full training of another
fails (log entry 155). -/
def dramSupported (ranks density rate : Nat) : Bool := ranks == 1 || (ranks == 2 && density == 0 && decide (rate ≤ 5200))

/-- The region table: nine (offset, size) pairs from address 0, each on a 1 MiB boundary (R306). -/
def regionTable (d : Dict) (trestle : Int) : Bytes :=
  let sizes : List Nat := [mib, mib, 62 * mib, 64 * mib, dnat d Obj.RegionMap.stripStoreSize, dnat d Obj.RegionMap.cameraRingSize,
    dnat d Obj.RegionMap.previewRingSize, dnat d Obj.RegionMap.archiveSize, trestle.toNat]
  (sizes.foldl (fun (acc : Bytes × Nat) (n : Nat) =>
    (acc.1 ++ leBytes 8 (acc.2 : Int) ++ leBytes 8 (n : Int), (acc.2 + n : Nat))) ([], 0)).1

/-- The region map is laid out from the sizes in force (R306). -/
def State.layoutRegions (s : State) : State :=
  let t := trestleLeft s.dict (s.nat Obj.DramConfig.channelBytes) (s.nat Obj.Identity.dramChannels)
  let s := s.setN Obj.RegionMap.trestleSize t
  let s := s.setB Obj.RegionMap.regionTable (regionTable s.dict t)
  let s := s.setN Obj.StripStore.storeBytes (s.num Obj.RegionMap.stripStoreSize)
  let s := s.setN Obj.Trestle.trestleRegion t
  let blocks := s.nat Obj.RegionMap.archiveSize / 65536
  let s := (s.setN Obj.CompressionControl.archiveBlocks blocks).setN Obj.CompressionControl.archiveBlocksFree blocks
  (s.setHeld s.strips.held).refreshGeometry

/-- A compression job is active: one queued, running or stopped on any channel (R307). -/
def State.jobsActive (s : State) : Bool :=
  (List.range 8).any (fun ch => s.nat (Obj.Channel.state ch) != 0 || s.nat (Obj.Channel.queueDepth ch) != 0)

/-- The check of a commit over staged and in-force values together: the abort code, 0 where it passes (R112, R113, R118,
R259, R284, R307, R337). Before training the region sizes are held against the configured capacity. -/
def State.commitCheck (s : State) (l : List (Nat × Val)) : Nat :=
  let d := overlay s.dict l
  let planes := (List.range 4).filter (fun k => s.flag (Obj.PlaneConfig.enable k)
    && l.any (fun e => boundPlane s.dict e.1 == some k && (decide (0x4000 ≤ e.1 / 256 ∧ e.1 / 256 < 0x4200))))
  if l.any (fun e => regionKeys.contains e.1) && (s.anyPlane || (List.range 4).any (fun c => s.flag (Obj.CameraPort.enable c)) || s.jobsActive)
  then 0x03010007
  else if l.any (fun e => regionKeys.contains e.1)
      && decide (trestleLeft d (if s.nat Obj.DramConfig.channelBytes = 0 then s.channelCapacity else s.nat Obj.DramConfig.channelBytes)
        (s.nat Obj.Identity.dramChannels) < (2 ^ 30 : Nat))
  then 0x02010001
  else if (List.range 64).any (fun h => inUse d h && decide (offset1024 d (dnat d (Obj.HeadRecord.plane h)) h < 0
      ∨ offset1024 d (dnat d (Obj.HeadRecord.plane h)) h > 16384 * 1024) && l.any (fun e => e.1 == Obj.HeadRecord.offsetPhase h))
  then 0x02010001
  else if planes.any (fun k => decide ((geometryCheck d s.exts k).1 ≠ 0)) then 0x03020001
  else if !orderOk d then 0x02010001
  else if !coversOk d then 0x03020002
  else 0

/-- Keys of plane `k` whose commit clears the error terms (R164). -/
def clearsErr (k key : Nat) : Bool :=
  key == Obj.ScreenConfig.mode k || key == Obj.ScreenConfig.levels k || key == Obj.ScreenConfig.ledWeights k

/-- A committed map empties the regions whose contents it moves (R307): strips and orphans, frame rings, previews and archive blocks. -/
def State.emptyRegions (s : State) : State :=
  let s := s.dropStrips (fun _ => true)
  { s with cams := { s.cams with cam := smMap (fun _ => Cam.init) (fun c => { c with ring := [] }) s.cams.cam, previews := [] }
           comp := { s.comp with out := [] } }

/-- Planes whose along axis the values move (R111, R282): an `OffsetPhase` of one of their heads changes. -/
def State.movedPlanes (s : State) (l : List (Nat × Val)) : List Nat :=
  (List.range 4).filter (fun k => (planeHeads s.dict k).any (fun h => l.any (fun e =>
    e.1 == Obj.HeadRecord.offsetPhase h && decide (s.val e.1 ≠ e.2))))

/-- Applies checked values that take effect at `line` (R81, R164, R282, R284, R307). -/
def State.applyCommit (s : State) (l : List (Nat × Val)) (line : Int) : State :=
  let changed := fun (k : Nat) => l.any (fun e => clearsErr k e.1 && decide (s.val e.1 ≠ e.2))
  let ks := (List.range 4).filter changed
  let seen := (List.range 4).filter (fun k => l.any (fun e => e.1 / 256 == 0x6210 + k || e.1 / 256 == 0x6218 + k || e.1 / 256 == 0x6220 + k))
  let s := s.each seen (fun s k => s.keepWindow k line)
  let s := s.each (s.movedPlanes l) (fun s k => s.axisEffect (Obj.PlaneConfig.planePhase k) line)
  let s := l.foldl (fun s e => s.setVal e.1 e.2) s
  let s := s.each ks (fun s k => s.setPlane k { s.plane k with clearErr := some (s.unopened k) })
  if l.any (fun e => regionKeys.contains e.1) ∧ s.nat Obj.DramConfig.channelBytes ≠ 0 then s.emptyRegions.layoutRegions else s.refreshGeometry

/-- A commit of group `g` that takes effect at `line` (R337). Answers the outcome (0 DONE, 1 NOEFFECT, 2 FAILED) and the
abort code of a failed check. -/
def State.commit (s : State) (g : Nat) (line : Int) : State × Nat × Nat :=
  let l := s.staged g
  if l.isEmpty then (s.setN (Obj.CommitGroup.lastOutcome g) 1, 1, 0)
  else
    let c := s.commitCheck l
    if c ≠ 0 then
      let s := (s.setN (Obj.CommitGroup.lastOutcome g) 2).setN (Obj.CommitGroup.lastAbort g) c
      let b := s.nat (Obj.CommitGroup.binding g)
      (s.raise .field Ev.commitFailed 0 (if b < 4 then some (b, line) else none) [g, c], 2, c)
    else
      let s := (s.applyCommit l line).setStaged g []
      let s := (s.inc (Obj.CommitGroup.commitCount g)).setN (Obj.CommitGroup.lastCommitLine g) line
      (s.setN (Obj.CommitGroup.lastOutcome g) 0, 0, 0)

/-- The line at which an immediate commit of group `g` takes effect: its plane's first unopened line, or the schedule position
for a group bound to no plane (R337). -/
def State.commitLine (s : State) (g : Nat) : Int :=
  let b := s.nat (Obj.CommitGroup.binding g)
  if b < 4 then s.unopened b else s.num Obj.ScheduleControl.schedulePosition

end Sys2Proof.Machine
end

