-- ==== Sys2Proof/Machine/JournalOps.lean ====
section
/-! DEFINITION. The duplex journal (R477): the changes of mirrored objects that an ACTIVE part keeps for its STANDBY. -/

namespace Sys2Proof.Machine

/-- Objects whose changes the ACTIVE mirrors (R477). -/
def mirrored (ix : Nat) : Bool :=
  (decide (0x3000 ≤ ix ∧ ix ≤ 0x31FF) || decide (0x4000 ≤ ix ∧ ix ≤ 0x44FF) || decide (0x5000 ≤ ix ∧ ix ≤ 0x52FF)) && ix != 0x4402

/-- The Entry head of R347 of a value. -/
def entryHead (key : Nat) (len : Nat) : Bytes :=
  let ty := match descOf key with | some d => d.ty.code | none => 17
  leBytes 2 ((key / 256 : Nat) : Int) ++ leBytes 1 ((key % 256 : Nat) : Int) ++ leBytes 1 ty ++ leBytes 4 len

/-- The first unopened lines of planes 0 to 3. -/
def State.effectLines (s : State) : List Int := (List.range 4).map s.unopened

/-- The parts of a journal item: at most 4,096 bytes of the value each, the first and the last flagged (R477). -/
def journalParts (seq group : Nat) (effect : List Int) (head : Bytes) : Nat → Nat → Bytes → List MirrorItem
  | 0, _, _ => []
  | n + 1, off, v =>
    let last := decide (v.length ≤ 4096)
    { seq := seq, group := group, flags := (if off = 0 then 1 else 0) + (if last then 2 else 0), off := off, effect := effect
      head := head, val := v.take 4096, sent := none } ::
      (if last then [] else journalParts seq group effect head n (off + 4096) (v.drop 4096))

/-- The lines from which a change holds on the ACTIVE (R477); an enable holds from the first line that opens with it. -/
def State.effectOf (s : State) (key : Nat) (v : Bytes) : List Int :=
  (List.range 4).map (fun k => if key = Obj.PlaneConfig.enable k ∧ v = [1#8] then (s.plane k).first else s.unopened k)

/-- A journal item on the wire (R477). -/
def MirrorItem.bytes (x : MirrorItem) : Bytes :=
  leBytes 4 x.seq ++ leBytes 1 x.group ++ leBytes 1 x.flags ++ leBytes 2 x.val.length ++ leBytes 4 x.off
    ++ (x.effect.map (leBytes 6)).flatten ++ x.head ++ x.val ++ List.replicate ((4 - x.val.length % 4) % 4) 0#8

/-- Bytes of journal items not acknowledged, as `Backlog` reads (R478). -/
def State.backlog (s : State) : Nat := (s.dux.journal.map (fun x => x.bytes.length)).sum

/-- A change enters the journal of an ACTIVE part, with the lines from which it holds. -/
def State.pushJournal (s : State) (key group : Nat) (v : Bytes) (effect : List Int) : State :=
  let d := s.dux
  let l := journalParts (d.jseq + 1) group effect (entryHead key v.length) (v.length / 4096 + 1) 0 v
  { s with dux := { d with jseq := d.jseq + 1, journal := d.journal ++ l } }

/-- On an ACTIVE part a change of a mirrored object enters the journal; group 0xFF when it is no staging write (R477). A commit is
journaled as a write of the group's Commit. -/
def State.journal (s : State) (key group : Nat) (v : Bytes) : State :=
  let ix := key / 256
  if s.nat Obj.DuplexStatus.role = 1 ∧ (mirrored ix ∨ (0x1200 ≤ ix ∧ ix < 0x1300)) then s.pushJournal key group v (s.effectOf key v) else s

/-- A numeric object that the part's own loops write, journaled. -/
def State.setLoop (s : State) (key : Nat) (n : Int) : State :=
  let s := s.setN key n
  match descOf key with | some d => s.journal key 0xFF (encodeVal d.ty (.num n)) | none => s

end Sys2Proof.Machine
end

