-- ==== Sys2Proof/Machine/NeedOps.lean ====
section
/-! DEFINITION. The need of the field island and the start of DVFS transitions (R420-R424). -/

namespace Sys2Proof.Machine

/-! ### The need (R421) -/

/-- MHz that the heads in use of plane `k` need: NozzleCount over Th, rounded up to a whole MHz. -/
def headNeed (d : Dict) (k : Nat) : Nat :=
  ((planeHeads d k).map (fun h => if headPeriod d h = 0 then 0 else cdiv (nozzles d h * 10000) (headPeriod d h))).foldl max 0

/-- The active and the next page of a queue. -/
def nextTwo (l : List Page) : List Page :=
  (match (l.filter (fun p => p.start.isSome)).getLast? with | some p => [p] | none => []) ++ (headPage l).toList

/-- MHz that the bands of the active and next page of plane `k` need. -/
def State.bandNeed (s : State) (k : Nat) : Nat :=
  let (rn, rd) := maxRate s.dict k
  ((nextTwo (s.plane k).pages).flatMap (fun p => (p.bands.filter (fun b => !b.blank)).map (fun b =>
    cdiv (storedLine p.format p.res b.cols * rn) (along p.res * rd * 1000000)))).foldl max 0

/-- The plane term of the need over the planes `ks`. -/
def State.planeNeed (s : State) (ks : List Nat) : Nat := (ks.map (fun k => max (headNeed s.dict k) (s.bandNeed k))).foldl max 0

/-- Bits of a pixel of a RAW data type (R238). -/
def pixelBits (dt : Nat) : Nat := match dt with | 0x2B => 10 | 0x2D => 14 | _ => 12

/-- Peak pixel rate of camera `c` over 4, in MHz rounded up (R253). -/
def camNeed (d : Dict) (c : Nat) : Nat :=
  cdiv (dnat d (Obj.CameraPort.lanes c) * dnat d (Obj.CameraPort.maxLaneRate c)) (4 * pixelBits (dnat d (Obj.CameraPort.dataType c)))

/-- The camera term of the need: the in-line camera `c` where it is enabled. -/
def State.cameraNeed (s : State) (c : Nat) (on : Bool) : Nat := if on && decide (c < s.nCams) then camNeed s.dict c else 0

/-- The enabled planes. -/
def State.enabled (s : State) : List Nat := (List.range 4).filter (fun k => s.flag (Obj.PlaneConfig.enable k))

/-- The in-line camera. -/
def State.inLine (s : State) : Nat := s.nat Obj.CameraSelect.inLineCamera

/-- The plane and camera terms now. -/
def State.needNow (s : State) : Nat × Nat :=
  (s.planeNeed s.enabled, s.cameraNeed s.inLine (s.flag (Obj.CameraPort.enable s.inLine)))

/-- `NeedMHz` follows. -/
def State.showNeed (s : State) : State := s.setN Obj.Dvfs.needMHz ((max s.needNow.1 s.needNow.2 : Nat) : Int)

/-! ### Transitions (R420, R423) -/

/-- Frequency of a point in force. -/
def State.opFreq (s : State) (n : Nat) : Nat := s.nat (Obj.OperatingPoint.frequency n)

/-- Target voltage of a point in mV (R420). -/
def State.opVolt (s : State) (n : Nat) : Nat :=
  min 900 (s.nat (Obj.OperatingPoint.nominalVoltage n) + s.nat (Obj.OperatingPoint.guardband n))

/-- The lowest point that covers a need; OP3 where none does. -/
def State.coverPoint (s : State) (mhz : Nat) : Nat := ((List.range 4).find? (fun n => decide (mhz ≤ s.opFreq n))).getD 3

/-- A change of the power unit. -/
def State.setPow (s : State) (p : Pow) : State := { s with pow := p }

/-- One transition by one point toward the sequencer's target starts (R423); the voltage write leaves first when it raises. -/
def State.startDvfs (s : State) : State :=
  let v := s.pow.dvfs
  let cur := s.nat Obj.Dvfs.opInForce
  if v.target = cur then s.setPow { s.pow with dvfs := { v with step := .idle } }
  else if v.target > cur then
    (s.setPow { s.pow with dvfs := { v with step := .raiseStatus, next := cur + 1, start := s.now, settle := none, locked := false } }).emit
      (.avs (s.opVolt (cur + 1)))
  else s.setPow { s.pow with dvfs := { v with step := .lowerLock, next := cur - 1, start := s.now, settle := none, locked := false } }

/-- The sequencer is sent toward a point; during a transition only the latest target is held (R424). -/
def State.aimDvfs (s : State) (n : Nat) : State :=
  let idle := s.pow.dvfs.step == .idle
  let s := s.setPow { s.pow with dvfs := { s.pow.dvfs with target := n } }
  if idle then s.startDvfs else s

/-- A need above the frequency in force raises `OpTarget` (R422), outside STANDBY, where FCORE keeps OP0. Answers whether a
transition has to end first. -/
def State.raiseNeed (s : State) (mhz : Nat) : State × Bool :=
  if mhz ≤ s.opFreq (s.nat Obj.Dvfs.opInForce) ∨ s.pow.state = 2 then (s, false)
  else
    let n := s.coverPoint mhz
    let s := if s.nat Obj.Dvfs.opTarget < n then (s.setN Obj.Dvfs.opTarget n).ev Ev.opRaised else s
    (s.aimDvfs (max n (s.nat Obj.Dvfs.opTarget)), true)

/-- A page that becomes next, or an enable by the schedule, may raise the need (R422). -/
def State.checkNeed (s : State) : State :=
  let n := max s.needNow.1 s.needNow.2
  (if n > s.nat Obj.Dvfs.needMHz then (s.raiseNeed n).1 else s).showNeed

end Sys2Proof.Machine
end

