-- ==== Sys2Proof/Machine/SchedOps.lean ====
section
/-! DEFINITION. Operations of the position schedule (spec/03): entries, the opening of lines, the enable and disable of
planes, closures, RWL effects, and the moment of an accepted edge (R76-R99). -/

namespace Sys2Proof.Machine

/-! ### Positions (R47, R76, R77) -/

/-- How far a key (units and 1/1024) lies ahead of a position with 48 fraction bits, as a signed 48-bit difference. -/
def gap (key : Int) (phase : Nat) (pos : Int) : Int := sext 96 (key * 2 ^ 48 + (phase : Int) * 2 ^ 38 - pos)

/-- A key is crossed when a high-water mark rises from below it to it or beyond (R77). -/
def crossed (key : Int) (phase : Nat) (old new : Int) : Bool := decide (0 < gap key phase old) && decide (gap key phase new ≤ 0)

/-! ### Entries (R79, R86, R87, R90) -/

/-- The entry that 16 bytes spell, and whether its reserved bits are 0. -/
def parseEntry (b : Bytes) (seq : Nat) : SchedEntry × Bool :=
  let form := fld b 8 1
  ({ key := sfld b 0 6, phase := fld b 6 2, lineKey := bit form 0, plane := bits form 2 1, notify := bit form 3
     action := fld b 9 1, order := fld b 10 1, param := fld b 12 2, tag := fld b 14 2, seq := seq },
   decide (form < 16) && fld b 11 1 == 0 && decide (fld b 6 2 < 1024))

/-- An armed entry as `ScheduleTable` shows it: State reads 0x01. -/
def SchedEntry.bytes (e : SchedEntry) : Bytes :=
  leBytes 6 e.key ++ leBytes 2 e.phase
    ++ leBytes 1 (((if e.lineKey then 1 else 0) + 2 * e.plane + (if e.notify then 8 else 0) : Nat) : Int) ++ leBytes 1 e.action
    ++ leBytes 1 e.order ++ leBytes 1 1 ++ leBytes 2 e.param ++ leBytes 2 e.tag

/-- Rank of an action (R90). -/
def rank : Nat → Nat
  | 6 => 1 | 2 => 2 | 5 => 3 | 1 => 4 | 4 => 5 | 7 => 6 | 3 => 7 | _ => 8

/-- A line-space entry (R79). -/
def SchedEntry.lineSpace (e : SchedEntry) : Bool :=
  e.lineKey && (e.action == 1 || e.action == 2 || e.action == 4 || e.action == 5 || e.action == 6 || e.action == 7)

/-- Group of R90: position keys, line-space entries, line-keyed instants. -/
def SchedEntry.group (e : SchedEntry) : Int := if !e.lineKey then 0 else if e.lineSpace then 1 else 2

/-- How far an entry's key lies ahead of the position that it is compared with: the accumulator of its plane, or the schedule position
(R76, R77). -/
def State.ahead (s : State) (e : SchedEntry) : Int := gap e.key e.phase (if e.lineKey then (s.plane e.plane).acc else s.web.pos)

/-- The execution order of R90 as a key; keys ascend by signed 48-bit difference (R47). -/
def State.sortKey (s : State) (e : SchedEntry) : List Int :=
  [e.group, (if e.lineKey then e.plane else 0 : Nat), s.ahead e, e.order, rank e.action, e.seq]

/-- Entries in execution order. -/
def State.inOrder (s : State) (l : List SchedEntry) : List SchedEntry := sortBy (fun a b => lexLe (s.sortKey a) (s.sortKey b)) l

/-- The table replaced, with `ArmedEntries` and `ScheduleTable`. -/
def State.setTable (s : State) (l : List SchedEntry) : State :=
  let s := s.setSched { s.sched with table := l }
  (s.setN Obj.ScheduleControl.armedEntries l.length).setB Obj.scheduleTable ((s.inOrder l).map SchedEntry.bytes).flatten

/-- Why an entry is refused at insertion (R14, R81, R87): the abort code, 0 where it is accepted. -/
def State.entryAbort (s : State) (e : SchedEntry) (resOk : Bool) : Nat :=
  let h := e.param % 256
  let hi0 := decide (e.param < 256)
  let bind := s.nat (Obj.CommitGroup.binding h)
  let isHead := decide (h ≠ 0xFF)
  let absent := (e.action == 3 && decide (e.param % 16 ≥ 2 ^ s.nCams)) ||
    ((e.action == 6 || e.action == 7) && isHead && decide (h ≥ s.nHeads))
  let line0 := e.lineKey && e.phase == 0
  let pos0 := !e.lineKey && e.phase == 0
  let form := match e.action with
    | 1 => line0 && e.param == 0
    | 2 => hi0 && ((line0 && bind == e.plane) || (pos0 && e.plane == 0 && bind == 0xFF))
    | 3 => (e.lineKey || pos0) && decide (e.param < 16)
    | 4 | 5 => line0 && decide (e.param < 16) && s.nat (Obj.ClosureConfig.plane e.param) == e.plane
    | 6 => hi0 && ((pos0 && !isHead) || (line0 && isHead && inPlane s.dict e.plane h))
    | 7 => hi0 && line0 && (!isHead || inPlane s.dict e.plane h)
    | 8 => e.lineKey || pos0
    | _ => false
  let far := s.ahead e
  if absent then 0x07010001
  else if !resOk || !form || decide (far ≥ 2 ^ 94 ∨ far ≤ -(2 ^ 94)) then 0x02010001
  else 0

/-! ### Closures (R83, R110) -/

/-- Closure `x` opens at a line of plane `k` on the heads of its mask that belong to its `Plane` now: NOEFFECT when it is open. -/
def State.openClosure (s : State) (x k : Nat) (L : Int) : State × Nat :=
  if s.nat (Obj.ClosureConfig.state x) = 1 then (s, 2)
  else
    let m := ((planeHeads s.dict (s.nat (Obj.ClosureConfig.plane x))).filter (fun h => bit (s.nat (Obj.ClosureConfig.headMask x)) h)).foldl (fun m h => m + 2 ^ h) 0
    let s := s.setSched { s.sched with
      closures := s.sched.closures.filter (fun c => c.1 != x) ++ [(x, ⟨k, m, L, s.nat (Obj.ClosureConfig.maxLines x)⟩)] }
    ((s.setN (Obj.ClosureConfig.state x) 1).setN (Obj.ClosureConfig.openedAt x) L, 0)

/-- Closure `x` closes: NOEFFECT when it is not open. -/
def State.closeClosure (s : State) (x : Nat) : State × Nat :=
  if s.nat (Obj.ClosureConfig.state x) = 0 then (s, 2)
  else ((s.setSched { s.sched with closures := s.sched.closures.filter (fun c => c.1 != x) }).setN (Obj.ClosureConfig.state x) 0, 0)

/-- An open closure holds head `h` at line `L`. -/
def State.closed (s : State) (h : Nat) (L : Int) : Bool := s.sched.closures.any (fun c => bit c.2.mask h && decide (c.2.line ≤ L))

/-- Closures that reach `MaxLines` at line `L` close by themselves with ClosureOverrun. -/
def State.overrun (s : State) (k : Nat) (L : Int) : State :=
  ((s.sched.closures.filter (fun c => c.2.plane == k && decide (c.2.line + c.2.maxLines ≤ L))).foldl (fun s c =>
    (((s.closeClosure c.1).1).inc (Obj.ClosureConfig.overruns c.1)).evAt Ev.closureOverrun k L) s)

/-- `State` of every head record (R120): unused, plane disabled, firing or held. -/
def State.headStates (s : State) : State :=
  s.each ((List.range 64).filter (fun h => decide (h < s.nHeads))) (fun s h =>
    let k := s.planeOf h
    let v : Int := if !inUse s.dict h then 0 else if !s.flag (Obj.PlaneConfig.enable k) then 1
      else if !s.flag (Obj.HeadRecord.enable h) || s.closed h (s.plane k).opened then 3 else 2
    s.setN (Obj.HeadRecord.state h) v)

/-! ### Overspeed (R73) -/

/-- WEB_SLOW takes a level. -/
def State.driveWebSlow (s : State) (l : Bool) : State :=
  if s.flag Obj.Overspeed.webSlowState = l then s
  else ((s.setF Obj.Overspeed.webSlowState l).pin .webSlow l).ev Ev.webSlow

/-- `LineRate` and `LoadFraction` of an enabled plane and the load as a fraction (R73): lines/s are |v| times the lines per
count; reported to nearest (log entry 11). -/
def State.load (s : State) (k : Nat) : Nat × Nat :=
  let (rn, rd) := maxRate s.dict k
  -- |v| q / 2^48 over rn / rd
  (s.web.lineVN * (s.plane k).q.toNat * rd, s.web.lineVD * 2 ^ 48 * rn)

/-- Overspeed is evaluated for every enabled plane and WEB_SLOW follows (R73). -/
def State.overspeed (s : State) : State :=
  let on := (List.range 4).filter (fun k => s.flag (Obj.PlaneConfig.enable k))
  let s := s.each on (fun s k =>
    let ld := s.load k
    let s := s.setN (Obj.LineGenerator.lineRate k) (near (s.web.lineVN * (s.plane k).q) (s.web.lineVD * 2 ^ 48 : Nat))
    s.setN (Obj.LineGenerator.loadFraction k) (min 0xFFFF (near (ld.1 * 2 ^ 14 : Nat) (ld.2 : Nat))))
  let warn := s.nat Obj.Overspeed.warnFraction
  let hys := s.nat Obj.Overspeed.hysteresis
  let reaches := fun (f : Nat) (k : Nat) => decide ((s.load k).1 * 2 ^ 14 ≥ f * (s.load k).2)
  let auto := if on.isEmpty then false
    else if on.any (reaches warn) then true
    else if on.all (fun k => !reaches (warn - hys) k) then false
    else s.flag Obj.Overspeed.webSlowState
  match s.nat Obj.Overspeed.webSlowForce with
  | 1 => s.driveWebSlow true
  | 2 => s.driveWebSlow false
  | _ => s.driveWebSlow auto

/-! ### The enable and disable of planes (R69, R78, R84, R117-R119, R134) -/

/-- The trestle block of plane `k` is allocated: any free range that is large enough, at a free place in it (log entry 6). -/
def State.allocTrestle (s : State) (k : Nat) : State :=
  let need := planeBlock s.dict k
  let l := (trestleFree s.dict s.exts).filter (fun r => decide (need ≤ r.2))
  let (n, s) := s.fresh
  let (m, s) := s.fresh
  match l[n % (max l.length 1)]? with
  | some r => s.setN (Obj.PlaneConfig.trestleOffset k) ((r.1 + m % (r.2 - need + 1) : Nat) : Int)
  | none => s

/-- Every error term of plane `k` is cleared (R164). -/
def State.clearErrors (s : State) (d : Dict) (k : Nat) : State :=
  let mine := fun (n : Nat) => (planeHeads d k).any (fun h => decide (channel d h 0 ≤ n ∧ n < channel d h (nozzles d h)))
  { s with screen := { s.screen with err := s.screen.err.filter (fun e => !mine e.1) } }

/-- `RenderActive` and the range of plane `k`'s render extension: the analysis runs with a range, and stops without one (R271,
R284). -/
def State.setExt (s : State) (k : Nat) (x : Option (Nat × Nat)) : State :=
  let s := if x.isNone then s.stopWindows k else s
  (s.setPlane k { s.plane k with ext := x }).setN Obj.AnalysisControl.renderActive
    ((setBit (s.nat Obj.AnalysisControl.renderActive) k x.isSome : Nat) : Int)

/-- The renderer of plane `k` begins with nothing read; the ring extensions stay as allocated (R271). -/
def State.beginRender (s : State) (k : Nat) : State :=
  (s.setPlane k { s.plane k with readTo := [], overrun := false }).setAna k { s.anaOf k with cmax := cMax s.dict k }

/-- The analysis of plane `k` starts where the trestle region has a contiguous range for its extension; at a free place in a free
range that is large enough (log entry 6). -/
def State.startAnalysis (s : State) (k : Nat) : Option State :=
  let need := extBytes s.dict k
  let l := (trestleFree s.dict s.exts).filter (fun r => decide (need ≤ r.2))
  let (n, s') := s.fresh
  let (m, s') := s'.fresh
  match l[n % (max l.length 1)]? with
  | some r => some (((s'.setExt k (some (r.1 + m % (r.2 - need + 1), need))).beginRender k).refreshGeometry)
  | none => if need = 0 then some ((s.setExt k (some (0, 0))).beginRender k) else none

/-- Plane `k` stops at once (R120, R134): its trestle is released, uncommitted lines are ABORTED, the active page ends, its
line generator reads as a disabled plane's (R73). RWL writes that still wait for a line stay pending (log entry 143). -/
def State.disablePlane (s : State) (k : Nat) : State :=
  if !s.flag (Obj.PlaneConfig.enable k) then s
  else
    let s := (planeHeads s.dict k).foldl (fun s h =>
      ((s.head h).lines.filter (fun f => f.st = .waiting)).foldl (fun s f =>
        if s.owner then s.resolve h f (match f.hold with | some p => worse p 8 | none => 8) else s.dropLine h f.line) s) s
    let s := (s.abortPage k).1
    let s := s.setPlane k { s.plane k with lines := [], stop := none, next := none, printed := none, opening := false }
    let s := s.each (planeHeads s.dict k) (fun s h => s.setHead h { s.head h with slots := [] })
    let s := (s.retirePages k)
    let s := (s.setF (Obj.PlaneConfig.enable k) false).setN (Obj.PlaneConfig.trestleOffset k) 0xFFFFFFFFFFFFFFFF
    let s := (s.setN (Obj.LineGenerator.lineRate k) 0).setN (Obj.LineGenerator.loadFraction k) 0
    ((s.setExt k none).refreshGeometry).headStates.overspeed

/-! ### Outcomes (R89, R92) -/

/-- The schedule events' place: the key line of a line key (R539). -/
def SchedEntry.place (e : SchedEntry) : Option (Nat × Int) := if e.lineKey then some (e.plane, e.key) else none

/-- W2 of the schedule events: low bits of a position key, or the phase of a line key (R539). -/
def SchedEntry.word2 (e : SchedEntry) : Int := if e.lineKey then (e.phase : Nat) else e.key

/-- The counter of an outcome. -/
def outcomeKey : Nat → Nat
  | 0 => Obj.ScheduleControl.doneCount | 1 => Obj.ScheduleControl.lateCount | 2 => Obj.ScheduleControl.noEffectCount
  | 3 => Obj.ScheduleControl.failedCount | _ => Obj.ScheduleControl.skippedCount

/-- An executed entry's outcome is counted and reported; a late one raises ScheduleLate, and only its DONE becomes LATE. -/
def State.finishEntry (s : State) (e : SchedEntry) (late : Bool) (o : Nat) : State :=
  let o' := if late && o == 0 then 1 else o
  let s := s.inc (outcomeKey o')
  let s := if late then s.raise .field Ev.scheduleLate 0 e.place else s
  let w : List Int := [((o' + e.action * 256 : Nat) : Int), e.tag, e.word2]
  let s := if o' = 3 then s.raise .field Ev.scheduleFailed 0 e.place w else s
  if e.notify then s.raise .field Ev.scheduleExecuted 0 e.place w else s

/-- A Marker's event (R85, R96). -/
def State.marker (s : State) (e : SchedEntry) (late : Bool) : State :=
  s.raise .field Ev.scheduleMarker 0 e.place
    [((e.param + (if late then 2 ^ 16 else 0) + (if s.blankWeb then 2 ^ 17 else 0) : Nat) : Int), e.tag, e.word2]

/-- The enabled ports in the mask of a CameraTrigger entry (R241). -/
def State.triggerPorts (s : State) (e : SchedEntry) : List Nat :=
  (List.range 4).filter (fun c => bit e.param c && s.flag (Obj.CameraPort.enable c))

/-- The outcome of a CameraTrigger that is not skipped: NOEFFECT when it pulses no port (R241). -/
def State.triggerOutcome (s : State) (e : SchedEntry) : Nat := if (s.triggerPorts e).isEmpty then 2 else 0

/-- Camera pulses of a trigger entry are fixed at instant `due`, placed with 4 ns resolution, the rounding free (R82, R97, log entry 6): one
per camera of its mask. -/
def State.addTriggers (s : State) (e : SchedEntry) (due : Nat) (delayed late : Bool) : State :=
  let at_ := 40 * (freeDiv due 40).toNat
  s.each (s.triggerPorts e) (fun s c =>
    s.setSched { s.sched with
      trigs := s.sched.trigs ++ [{ seq := e.seq, camera := c, key := e.key, lineKey := e.lineKey, plane := e.plane, phase := e.phase
                                   tag := e.tag, due := some at_, committed := true, delayed := delayed, late := late, spaced := false }] })

/-- A whole-plane PlaneDisable of plane `k` at line `L`; the lowest line of several stands (R84). -/
def State.stopAt (s : State) (k : Nat) (L : Int) : State :=
  s.setPlane k { s.plane k with stop := some (match (s.plane k).stop with | some x => min x L | none => L) }

/-- One line-space entry takes effect from line `L` (R80-R84). Answers the outcome before lateness. A Commit entry commits its group as it was
keyed, whatever the group's Binding has become since (log entry 149). -/
def State.lineEntry (s : State) (e : SchedEntry) (L : Int) : State × Nat :=
  match e.action with
  | 1 => let (s, ok) := s.startPage e.plane L
         (s.countWaiting e.plane, if ok then 0 else 3)
  | 2 => let (s, o, _) := s.commit (e.param % 256) L
         (s, if o = 0 then 0 else if o = 1 then 2 else 3)
  | 4 => s.openClosure e.param e.plane L
  | 5 => s.closeClosure e.param
  | 6 => (s.setF (Obj.HeadRecord.enable (e.param % 256)) true, 0)
  | _ => if e.param % 256 = 0xFF then (s.stopAt e.plane L, 0)
         else (s.setF (Obj.HeadRecord.enable (e.param % 256)) false, 0)

/-- Removes an entry by its insertion sequence. -/
def State.takeEntry (s : State) (e : SchedEntry) : State := s.setTable (s.sched.table.filter (fun x => x.seq != e.seq))

/-- The line-space entries of line `L` of plane `k` execute in order (R78, R90). -/
def State.lineEntries (s : State) (k : Nat) (L : Int) : State :=
  (s.inOrder (s.sched.table.filter (fun e => e.lineSpace && e.plane == k && e.key == sext 48 L))).foldl (fun s e =>
    let (s, o) := (s.takeEntry e).lineEntry e L
    s.finishEntry e false o) s

/-! ### RWL writes (R99) -/

/-- `RwlPending` of plane `k`. -/
def State.rwlCount (s : State) (k : Nat) : State :=
  s.setN (Obj.PlaneSchedule.rwlPending k) (s.sched.rwl.filter (fun w => w.plane == k)).length

/-- Pending RWL writes of line `L` of plane `k` take effect in arrival order. -/
def State.rwlEffect (s : State) (k : Nat) (L : Int) : State :=
  let due := s.sched.rwl.filter (fun w => w.plane == k && decide (w.line ≤ L))
  if due.isEmpty then s
  else
    let s := s.setSched { s.sched with rwl := s.sched.rwl.filter (fun w => !(w.plane == k && decide (w.line ≤ L))) }
    ((due.foldl (fun s w => if s.num w.key = w.val then s else (s.setN w.key w.val).axisEffect w.key L) s).rwlCount k).refreshGeometry.headStates

/-! ### The opening of a line (R78, R110, R155) -/

/-- A head of plane `k` is set to fire line `L` as it opens (R110): its row fires it, it is enabled and no closure holds it. -/
def State.setToFire (s : State) (k h : Nat) (L : Int) : Bool :=
  rowFires s.dict k h L && s.flag (Obj.HeadRecord.enable h) && !s.closed h L

/-- A line in flight on head `h` as line `L` opens. -/
def newLine (d : Dict) (k h : Nat) (L : Int) (hold : Option Nat) : FireLine :=
  { line := L, target := target d k h L, codes := none, classes := [0, 0, 0, 0], st := .waiting, ts := 0, prev := none, stamp := 0, frame := .closed, frameStart := 0, frameEnd := 0
    energy := 0, drops := 0, flags := 0, hold := hold, atRisk := false, sawStat := false, sawHard := false, cut := false }

/-- Every head whose row fires line `L` gets it in flight, unless its target lies at or below the mark of the enable (R205) or
the line is at or beyond a whole-plane disable (R84). -/
def State.launch (s : State) (k : Nat) (L : Int) : State :=
  if (match (s.plane k).stop with | some x => decide (L ≥ x) | none => false) then s
  else (planeHeads s.dict k).foldl (fun s h =>
    let hold : Option Nat := if s.closed h L then some 6 else if !s.flag (Obj.HeadRecord.enable h) then some 11 else none
    if rowFires s.dict k h L ∧ target s.dict k h L > (s.plane k).hwm0 then
      let hd := s.head h
      s.setHead h { hd with lines := hd.lines ++ [newLine s.dict k h L hold], fixed := some (L, target s.dict k h L) }
    else s) s

/-- A commit asks that the error terms be cleared before line `L` (R164). -/
def Plane.clears (p : Plane) (L : Int) : Bool := match p.clearErr with | some x => decide (x ≤ L) | none => false

/-- Line `L` is the first of its page (R164). -/
def beginsPage (pg : Option Page) (L : Int) : Bool := match pg with | some p => p.start == some L | none => false

/-- Line `L` of plane `k` opens (R78): the closures that reach `MaxLines` close, before the entries of that line (log entry 148), its entries and RWL writes execute, pages start, tiles are
judged, and its content and configuration are fixed. -/
def State.openLine (s : State) (k : Nat) (L : Int) : State :=
  let was := s.sched
  let s := ((s.beginWindow k L).overrun k L).lineEntries k L
  let s := (s.rwlEffect k L).autoStart k L 1024
  let s := (s.setPlane k { s.plane k with opened := L }).setN (Obj.PlaneSchedule.openedLine k) (sext 48 L)
  let s := if s.sched ≠ was ∨ s.sched.closures.any (fun c => c.2.line == L) then s.headStates else s
  let s := (((s.countWaiting k).checkTiles k L).closeChain k L).checkMissed k
  let pg := s.pageAt k L
  let clear := (s.plane k).clears L
  let fresh := beginsPage pg L || clear
  let o : OpenLine := { line := L, page := pg.map (fun p => (p.job, p.page, p.start.getD 0)), fresh := fresh
                        heads := (planeHeads s.dict k).filter (fun h => s.setToFire k h L), cfg := s.dict, ntab := s.screen.ntab }
  let p := s.plane k
  let s := s.setPlane k { p with lines := p.lines ++ [o], clearErr := if clear then none else p.clearErr }
  s.launch k L

/-- Lines up to the high-water mark plus `OpenLead` open, in ascending order (R78). A STANDBY opens none of its own accord
(R480). -/
def State.openLines (s : State) (k : Nat) : State :=
  if s.nat Obj.DuplexStatus.role = 2 then s
  else
  let last := (s.plane k).hwm / 2 ^ 48 + s.num (Obj.PlaneSchedule.openLead k)
  let n := (last - (s.plane k).opened).toNat
  ((List.range n).foldl (fun s _ => s.openLine k (s.unopened k)) s).checkMissed k

/-! ### Instant entries (R79, R90, R92) -/

/-- Why an enable of plane `k` is refused (R69, R118, R295), with the check's report: the abort code, 0 where it may start. -/
def State.enableAbort (s : State) (k : Nat) : Nat × State :=
  let (r, h) := geometryCheck s.dict s.exts k
  let s := ((s.setN Obj.PlaneCheck.faultReason r).setN Obj.PlaneCheck.faultPlane k).setN Obj.PlaneCheck.faultHead h
  let ready := (List.range s.nSub).all (fun u => s.nat (Obj.DramStatus.state u) == 3 || s.nat (Obj.DramStatus.state u) == 4)
  (if !ready || s.nSub = 0 then 0x03030001 else if r ≠ 0 then 0x03020001 else 0, s)

/-- The first line of plane `k` that opens at an enable: the lowest line for which some head has a target above the mark
(R78, R111). -/
def firstLine (d : Dict) (k : Nat) (hwm : Int) : Int :=
  let cand := (planeHeads d k).map (fun h =>
    -- the lowest L with (1024 L + offset) 2^38 > hwm whose row the head fires
    let L := (hwm / 2 ^ 38 - offset1024 d k h) / 1024 + 1
    if rowFires d k h L then L else L + 1)
  match cand with | [] => hwm / 2 ^ 48 + 1 | a :: r => r.foldl min a

/-- Late execution of a line-space entry: from the first unopened line of its plane (R92). -/
def State.lateLineEntry (s : State) (e : SchedEntry) : State :=
  let (s, o) := (s.takeEntry e).lineEntry e (s.unopened e.plane)
  (s.finishEntry e true o).headStates

/-- A line-keyed instant entry, a CameraTrigger or a Marker, executes (R82, R85, R96, R97): at its crossing, or late. -/
def State.softInstant (s : State) (e : SchedEntry) (late : Bool) : State :=
  let s := s.takeEntry e
  if e.action = 3 then
    if s.blankWeb then s.finishEntry e late 4 else (s.addTriggers e (s.now + 20000) true late).finishEntry e late (s.triggerOutcome e)
  else (s.marker e late).finishEntry e late 0

/-- Instant entries at or below the mark of plane `k` execute as late at its enable (R93). -/
def State.lateInstants (s : State) (k : Nat) : State :=
  (s.inOrder (s.sched.table.filter (fun e => e.lineKey && !e.lineSpace && e.plane == k
    && decide (gap e.key e.phase (s.plane k).hwm ≤ 0)))).foldl (fun s e => s.softInstant e true) s

/-- Plane `k` is enabled (R69, R78, R117): trestle, error terms, high-water mark, and the lines below the first count as opened. Its own
lines are still to open. `at_` names the first line where the ACTIVE has given it (R480). -/
def State.beginPlane (s : State) (k : Nat) (at_ : Option Int := none) : State :=
  let s := (s.allocTrestle k).clearErrors s.dict k
  let acc := (s.plane k).acc
  let F := at_.getD (firstLine s.dict k acc)
  let lpc := s.num (Obj.LineGenerator.linesPerCount k)
  let q := match s.web.scaled with | some c => near (lpc * c.ratio) (2 ^ 48) | none => lpc
  let s := s.setF (Obj.PlaneConfig.enable k) true
  let s := s.setPlane k { s.plane k with hwm := acc, hwm0 := acc, q := q, first := F, opened := F - 1, lines := [], stop := none
                                         opening := true, clearErr := none, dots := [], ancS := s.web.pos, ancA := acc }
  let s := (s.anchorWindows k).each (planeHeads s.dict k) (fun s h => s.setHead h { s.head h with fixed := none, blind := [], fresh := 0, doubt := [] })
  let s := s.setN (Obj.LineGenerator.highWaterMark k) (sext 48 (acc / 2 ^ 48))
  let s := s.setN (Obj.ScreenStatus.errorResetLine k) (sext 48 F)
  s.setN (Obj.PlaneSchedule.openedLine k) (sext 48 (F - 1))

/-- The lines of a plane just enabled open (R78, R93): line-space entries below the first line execute as late, an AT_LINE page whose line
lies below it is missed (R132), and the lines within the mark's reach open. -/
def State.openPlane (s : State) (k : Nat) : State :=
  let late := s.inOrder (s.sched.table.filter (fun e => e.lineSpace && e.plane == k && decide (gap e.key 0 (s.unopened k * 2 ^ 48) < 0)))
  ((late.foldl (fun s e => s.lateLineEntry e) s).checkMissed k).openLines k

/-- The enable of plane `k` is complete (R93): the instant entries that it passes execute as late, and the analysis starts. -/
def State.settlePlane (s : State) (k : Nat) : State :=
  let s := ((s.setPlane k { s.plane k with opening := false }).lateInstants k).refreshGeometry.headStates
  if bit (s.nat Obj.AnalysisControl.planeMask) k then
    match s.startAnalysis k with
    | some s => s
    | none => s.evPl Ev.renderSpaceLow k
  else s

/-- Plane `k` is enabled at once (R69, R78, R93, R117). -/
def State.enablePlane (s : State) (k : Nat) (at_ : Option Int := none) : State := ((s.beginPlane k at_).openPlane k).settlePlane k

/-- `PendingPlanes` with bit `k` set to a level (R426). -/
def State.pendPlane (s : State) (k : Nat) (v : Bool) : State :=
  s.setN Obj.PowerControl.pendingPlanes ((setBit (s.nat Obj.PowerControl.pendingPlanes) k v : Nat) : Int)

/-- The session of a write that nobody made: the AZ9's own, or one that the journal of a pair brings; nobody is answered. -/
def nobody : Nat := 257

/-- A whole-plane enable by the schedule acts as a write of `Enable` (R84): the abort code of a refusal, or the enabled plane, whose lines
open with the other lines of the edge where `edge` says so (R90). Outside RUN the plane is noted as pending (R426); where the need rises
above the frequency in force, it is enabled with the transition (R422). -/
def State.tryEnable (s : State) (k : Nat) (edge : Bool) : State × Nat :=
  let (a, s') := s.enableAbort k
  if a ≠ 0 then (s', a)
  else if s.pow.state ≠ 0 then (s'.pendPlane k true, 0)
  else
    let (s2, wait) := s'.raiseNeed (max (s'.planeNeed (k :: s'.enabled)) s'.needNow.2)
    if wait then (s2.setPow { s2.pow with later := s2.pow.later ++ [(nobody, Obj.PlaneConfig.enable k, .num 1)] }, 0)
    else ((if edge then s2.beginPlane k else s2.enablePlane k).showNeed, 0)

/-- One instant entry executes (R81, R82, R84, R85): at its crossing, or late. A PlaneEnable of an enabled plane has no effect (log entry
141). -/
def State.instantEntry (s : State) (e : SchedEntry) (late : Bool) : State :=
  match e.action with
  | 2 => let (s, o, _) := (s.takeEntry e).commit (e.param % 256) (s.num Obj.ScheduleControl.schedulePosition)
         s.finishEntry e late (if o = 0 then 0 else if o = 1 then 2 else 3)
  | 6 =>
    let s := s.takeEntry e
    if s.flag (Obj.PlaneConfig.enable e.plane) then s.finishEntry e late 2
    else
      let (s, a) := s.tryEnable e.plane (!late)
      s.finishEntry e late (if a = 0 then 0 else 3)
  | _ => s.softInstant e late

/-- Position-keyed entries at or below a schedule position that was set execute as late (R93). -/
def State.latePositions (s : State) : State :=
  (s.inOrder (s.sched.table.filter (fun e => !e.lineKey && decide (gap e.key 0 s.web.posHwm ≤ 0)))).foldl
    (fun s e => s.instantEntry e true) s

/-- The schedule position is set (R76): its mark with it, and what it passes executes as late. -/
def State.setPosition (s : State) (n : Int) : State :=
  let s := s.setWeb { s.web with pos := n * 2 ^ 48, posHwm := n * 2 ^ 48 }
  ((s.setN Obj.ScheduleControl.schedulePosition (sext 48 n)).setN Obj.ScheduleControl.positionHighWater (sext 48 n)).latePositions

/-! ### The moment of an edge (R90) -/

/-- Position-keyed entries that a rise of the schedule position's mark crosses execute in order. -/
def State.crossPositions (s : State) (old : Int) : State :=
  (s.inOrder (s.sched.table.filter (fun e => !e.lineKey && crossed e.key 0 old s.web.posHwm))).foldl
    (fun s e => s.instantEntry e false) s

/-- Line-keyed instant entries that a rise of plane `k`'s mark crosses execute in order. -/
def State.crossLines (s : State) (k : Nat) (old : Int) : State :=
  (s.inOrder (s.sched.table.filter (fun e => e.lineKey && !e.lineSpace && e.plane == k && crossed e.key e.phase old (s.plane k).hwm))).foldl
    (fun s e => s.instantEntry e false) s

/-- The lines of one moment open, in the order of the planes: those of a plane enabled at this edge, and those that the marks of the planes
`ks` have reached (R90). -/
def State.openPlanes (s : State) (ks : List Nat) : State :=
  s.each [0, 1, 2, 3] (fun s k => if (s.plane k).opening then s.openPlane k else if ks.contains k then s.openLines k else s)

/-- The line-keyed instant entries of one moment, in the order of the planes: those that an enable at this edge passes, and those that the
marks, which stood as `marks` gives, cross (R90). -/
def State.instants (s : State) (marks : List (Nat × Int)) : State :=
  s.each [0, 1, 2, 3] (fun s k =>
    if (s.plane k).opening then s.settlePlane k
    else match marks.find? (fun m => m.1 == k) with
      | some m => s.crossLines k m.2
      | none => s)

/-- After a whole-plane PlaneDisable at line L, plane `k` is disabled once line L − 1 has opened and the mark passes its last target, as
fixed when it opened, among the enabled heads (R84); with no such target, once the mark passes the line itself (log entry 142). -/
def State.stopPlane (s : State) (k : Nat) : State :=
  match (s.plane k).stop with
  | none => s
  | some L =>
    let ts := ((planeHeads s.dict k).filter (fun h => s.flag (Obj.HeadRecord.enable h))).filterMap (fun h =>
      match (s.head h).fixed with | some x => if x.1 = L - 1 then some x.2 else none | none => none)
    let last := match ts with | [] => (L - 1) * 2 ^ 48 | t :: r => r.foldl max t
    if L - 1 ≤ (s.plane k).opened ∧ (s.plane k).hwm > last then s.disablePlane k else s

end Sys2Proof.Machine
end

