-- ==== Sys2Proof/Machine/WebOps.lean ====
section
/-! DEFINITION. Operations of the web position unit (spec/02): decoding, the counter and its index, speed, certainty, the line
generator's edge, overspeed and the serial sensor. -/

namespace Sys2Proof.Machine

/-! ### Flags of an encoder channel (R75) -/

/-- Bit `i` of an encoder's Flags takes a level. -/
def State.encFlag (s : State) (e i : Nat) (v : Bool) : State :=
  s.setN (Obj.EncoderStatus.flags e) (setBit (s.nat (Obj.EncoderStatus.flags e)) i v)

/-- Flags [2] IndexArmed as R540 defines it. An `IndexArm` taken in another mode arms mode 2 when the mode is written to 2 later (log entry
147). -/
def State.armedFlag (s : State) (e : Nat) : State :=
  let x := s.enc e
  let on := !x.idxStuck && (match s.nat (Obj.EncoderConfig.indexMode e) with | 0 => false | 2 => x.idxArm | _ => true)
  s.encFlag e 2 on

/-- A write of `IndexMode` (R51, R540): the first index after it arms the function has no reference. -/
def State.modeArms (s : State) (e : Nat) : State :=
  let armed := fun (s : State) => bit (s.nat (Obj.EncoderStatus.flags e)) 2
  let s' := s.armedFlag e
  if !armed s && armed s' then s'.setEnc e { s'.enc e with idxR := none } else s'

/-! ### Certainty (R62-R66) -/

/-- A channel is in use as primary or check (R62). -/
def State.encInUse (s : State) (e : Nat) : Bool := s.source == e || s.nat Obj.WebSource.checkSource == e + 1

/-- `StormWindow` in ns. -/
def State.stormWindow (s : State) : Nat := 1000 * s.nat Obj.PositionCertainty.stormWindow

/-- Rejections of a channel in the window that ends at `t` ns. -/
def rejectsIn (l : List Nat) (w t : Nat) : Nat := (l.filter (fun r => decide (r ≤ t ∧ t < r + w))).length

/-- Blank-web withdraws every prediction until a forward edge follows its end (R65, R72). -/
def State.dropPredictions (s : State) : State := if s.blankWeb then s.setWeb { s.web with limited := true } else s

/-- The position becomes uncertain for a cause bit (R65): latched; under policy 0 the lines whose frames are out are withheld
at once, as the cause of highest precedence, and the others as they become due (R205, log entry 12). -/
def State.becomeUncertain (s : State) (cause : Nat) : State :=
  let was := s.uncertain
  let s := s.setN Obj.PositionCertainty.uncertainCause (setBit (s.nat Obj.PositionCertainty.uncertainCause) cause true)
  if was then s
  else
    let s := (s.setN Obj.PositionCertainty.positionState 1).ev Ev.positionUncertain
    if s.blankWeb then
      (List.range 64).foldl (fun s h =>
        ((s.head h).lines.filter (fun f => f.st = .waiting && f.frame != .closed)).foldl
          (fun s f => s.resolve h f ((s.cause h f s.now).getD 5)) s) s.dropPredictions
    else s

/-- An edge storm holds on a channel: it is in use and the window that ends now holds more than `StormLimit` rejections (R62). Flags [4]
reads so (R75). -/
def State.storms (s : State) (e : Nat) : Bool :=
  decide (rejectsIn (s.enc e).rejects s.stormWindow s.ns > s.nat Obj.PositionCertainty.stormLimit) && s.encInUse e

/-- A rejected edge (R44, R45, R62). -/
def State.reject (s : State) (e : Nat) : State :=
  let x := s.enc e
  let w := s.stormWindow
  let l := (s.ns :: x.rejects).filter (fun r => decide (s.ns < r + 2 * w))
  let s := (s.setEnc e { x with rejects := l }).inc (Obj.EncoderStatus.rejectedEdges e)
  if s.storms e then s.becomeUncertain 0 else s

/-- The channel has stayed within `StormLimit` for one full window (R66). -/
def State.calm (s : State) (e : Nat) : Bool :=
  let l := (s.enc e).rejects; let w := s.stormWindow; let lim := s.nat Obj.PositionCertainty.stormLimit
  ((s.ns - w) :: l.filter (fun r => decide (s.ns < r + w))).all (fun t => decide (rejectsIn l w t ≤ lim))

/-- A new reference of the cross-check (R63). -/
def State.checkReference (s : State) : State :=
  s.setWeb { s.web with chkOn := s.nat Obj.WebSource.checkSource != 0, chkPri := 0, chkChk := 0, chkSps := none, disagree := false }

/-- The two changes since the reference differ by more than `CheckTolerance` (R63). -/
def State.disagrees (s : State) : Bool :=
  let c := s.nat Obj.WebSource.checkSource
  let ratio := if c = 3 then s.num Obj.SpsConfig.spsRatio else s.num Obj.WebSource.checkRatio
  s.web.chkOn && !(c = 3 && s.nat Obj.SpsStatus.state != 1)
    && decide ((s.web.chkPri * 2 ^ 48 - s.web.chkChk * ratio).natAbs > s.nat Obj.WebSource.checkTolerance * 2 ^ 48)

/-- The source switches to the check encoder with scaled counting (R64); an ACTIVE part journals both changes. -/
def State.switchSource (s : State) (e : Nat) (ratio : Int) : State :=
  let s := (s.setLoop Obj.WebSource.primarySource e).setLoop Obj.WebSource.checkSource 0
  s.setWeb { s.web with scaled := some ⟨ratio, false⟩, chkOn := false }

/-- The cross-check of a control cycle (R63): a disagreement is reported when it appears and acted on by `DisagreePolicy`. -/
def State.crossCheck (s : State) : State :=
  let bad := s.disagrees
  let was := s.web.disagree
  let s := s.setWeb { s.web with disagree := bad }
  if !bad ∨ was then s
  else
    let s := s.ev Ev.encoderDisagree
    let c := s.nat Obj.WebSource.checkSource
    let dirty := fun (e : Nat) => decide (rejectsIn (s.enc e).rejects s.stormWindow s.ns > 0)
    if s.nat Obj.WebSource.disagreePolicy = 1 ∧ c ≠ 3 ∧ dirty 0 ≠ dirty 1 then
      let good := if dirty 0 then 1 else 0
      let switch := good != s.source
      let s := if switch then s.switchSource good (s.num Obj.WebSource.checkRatio)
               else (s.setLoop Obj.WebSource.checkSource 0).checkReference
      (s.setWeb { s.web with disagree := false }).ev Ev.disagreeResolved [good, if switch then 1 else 0]
    else s.becomeUncertain 1

/-! ### The counter and its index (R47-R53, R540) -/

/-- An encoder's counter takes a value (48-bit two's complement). -/
def State.setCount (s : State) (e : Nat) (n : Int) : State := s.setN (Obj.EncoderStatus.count e) (sext 48 n)

/-- An index event at an accepted count edge of sign `d` (R50, R51). -/
def State.indexEvent (s : State) (e : Nat) (d : Int) : State :=
  let x := s.enc e
  let mode := s.nat (Obj.EncoderConfig.indexMode e)
  let s := s.captureField (e + 1) none s.edgeStamp
  if mode = 0 then s
  else
    let cpr := s.num (Obj.EncoderConfig.countsPerRev e)
    let load := s.num (Obj.EncoderConfig.indexLoad e)
    let disc : Option Int := match x.idxR with
      | some r => if cpr = 0 then none else some (if d > 0 then r - cpr else r + cpr)
      | none => none
    let beyond := match disc with | some v => decide (v.natAbs > s.nat (Obj.EncoderConfig.indexTolerance e)) | none => false
    let s := match disc with | some v => s.setN (Obj.EncoderStatus.lastIndexDiscrepancy e) (sext 32 v) | none => s
    let s := if beyond then (s.inc (Obj.EncoderStatus.indexSlips e)).ev Ev.indexSlip else s
    let doLoad := match mode with | 1 => true | 2 => x.idxArm | _ => !beyond
    let s := s.setEnc e { x with idxR := some 0, idxArm := false }
    (if doLoad then s.setCount e load else s).armedFlag e

/-- Z is active on channel `e`, with the polarity of `IndexPolarity`. -/
def State.zActive (s : State) (e : Nat) : Bool := (s.enc e).z != s.flag (Obj.EncoderConfig.indexPolarity e)

/-- Z inactive ends its pulse: the next count edge with Z active is a first one again (R49, R52). -/
def State.endPulse (s : State) (e : Nat) : State :=
  if s.zActive e then s else s.setEnc e { s.enc e with zCount := 0, zWait := false }

/-- The index function at an accepted count edge (R49, R52). -/
def State.indexEdge (s : State) (e : Nat) (d : Int) : State :=
  let x := s.enc e
  let x := { x with idxR := x.idxR.map (· + d) }
  if !s.zActive e then s.setEnc e x
  else
    let n := x.zCount + 1
    let s := s.setEnc e { x with zCount := n }
    let s := if n = 1 ∧ !x.zWait ∧ !x.idxStuck then s.indexEvent e d else s
    if n > s.nat (Obj.EncoderConfig.indexStuckCounts e) ∧ !x.idxStuck ∧ !x.zWait then
      let s := s.setEnc e { s.enc e with idxStuck := true, idxArm := false, idxR := none }
      ((s.encFlag e 3 true).armedFlag e).ev Ev.indexStuck
    else s

/-! ### Speed (R58-R61) -/

/-- The reported speed of a channel and its object, scaled on a switched source and held to the object's range (R58, R64, R75). -/
def State.setSpeed (s : State) (e : Nat) (n d : Nat) : State :=
  let s := s.setEnc e { s.enc e with vN := n, vD := d }
  let scale := match s.web.scaled with | some c => if c.started ∧ e = s.source then c.ratio else 2 ^ 48 | none => 2 ^ 48
  let v := min 50000000 (near ((n : Int) * scale) ((d : Int) * 2 ^ 48))
  s.setN (Obj.EncoderStatus.speed e) (if s.num (Obj.EncoderStatus.direction e) = 0 then v else -v)

/-- Direction, edge history and speed at an accepted count edge of sign `d` (R58, R60, R61). A stamp that does not lie after the first one,
which a slave step's rounding can give, leaves no period. -/
def State.speedEdge (s : State) (e : Nat) (d : Int) : State :=
  let x := s.enc e
  let dir : Int := if d > 0 then 0 else 1
  let turned := s.num (Obj.EncoderStatus.direction e) ≠ dir
  let s := s.setN (Obj.EncoderStatus.direction e) dir
  let hist := if turned then [s.fieldNs] else (s.fieldNs :: x.hist).take 5
  let since := if turned then (if x.since = 0 then 1 else 3) else min 3 (x.since + 1)
  let s := s.setEnc e { x with hist := hist, since := since }
  let s := if turned ∧ e = s.source then s.ev Ev.reversal else s
  match hist.getLast? with
  | none => s
  | some first =>
    let k := hist.length - 1
    let dt := (s.fieldNs - first).toNat
    let lim := s.nat Obj.PositionCertainty.standstillTimeout
    if k = 0 ∨ dt = 0 then s.setSpeed e 0 1
    else if since = 2 ∧ 10 ^ 9 * k * lim > 1000 * dt then s.setSpeed e 1000 lim
    else s.setSpeed e (10 ^ 9 * k) dt

/-! ### The line generator's edge (R64, R68, R76-R78, R90) -/

/-- The planes that an edge advances. -/
def State.running (s : State) : List Nat := (List.range 4).filter (fun k => s.flag (Obj.PlaneConfig.enable k))

/-- Plane `k` advances by `d` counts (R68). -/
def State.advancePlane (s : State) (k : Nat) (d : Int) : State :=
  let p := s.plane k
  let acc := p.acc + d * p.q
  let hwm := max p.hwm acc
  let s := s.setPlane k { p with acc := acc, hwm := hwm }
  let s := (s.setN (Obj.LineGenerator.planeLine k) (sext 48 (acc / 2 ^ 48))).setN (Obj.LineGenerator.phase k) (acc % 2 ^ 48 / 2 ^ 38)
  s.setN (Obj.LineGenerator.highWaterMark k) (sext 48 (hwm / 2 ^ 48))

/-- The scaled counting of R64 starts at the first accepted edge of the new source: Q_k of every enabled plane. -/
def State.startScaled (s : State) : State :=
  match s.web.scaled with
  | some c => if c.started then s
    else (s.setWeb { s.web with scaled := some { c with started := true } }).each s.running (fun s k =>
      s.setPlane k { s.plane k with q := near (s.num (Obj.LineGenerator.linesPerCount k) * c.ratio) (2 ^ 48) })
  | none => s

/-- An accepted count edge of the source, of sign `d`: positions, the moment's entries in R90 order, the targets reached (R72). The basis
of the predictions moves at count edges only (log entry 139). -/
def State.lineEdge (s : State) (d : Int) : State :=
  let x := s.enc s.source
  let step := match s.web.scaled with | some c => d * c.ratio | none => d * 2 ^ 48
  let old := s.web.posHwm
  let pos := s.web.pos + step
  let s := s.setWeb { s.web with pos := pos, posHwm := if gap 0 0 (old - pos) > 0 then pos else old
                                 lineT := s.ns, lineVN := x.vN, lineVD := x.vD, lineFwd := decide (d > 0), limited := s.blankWeb }
  let s := s.setN Obj.ScheduleControl.schedulePosition (sext 48 (pos / 2 ^ 48))
  let s := s.setN Obj.ScheduleControl.positionHighWater (sext 48 (s.web.posHwm / 2 ^ 48))
  let ks := s.running
  let marks := ks.map (fun k => (k, (s.plane k).hwm))
  let s := s.each ks (fun s k => s.advancePlane k d)
  let s := if d < 0 then s.reverseHeads else s
  let s := ((s.crossPositions old).openPlanes ks).instants marks
  let s := marks.foldl (fun s m => if (s.plane m.1).hwm > m.2 then (s.reach m.1).stopPlane m.1 else s) s
  s.checkNeed.overspeed

/-- An accepted count edge of channel `e` (R43, R47, R49, R58, R63, R68). -/
def State.countEdge (s : State) (e : Nat) (d : Int) : State :=
  let s := s.setCount e (s.num (Obj.EncoderStatus.count e) + d)
  let s := if e = s.source then s.startScaled else s
  let s := (s.speedEdge e d).indexEdge e d
  let w := s.web
  let s := s.setWeb { w with
    chkPri := if e = s.source ∧ s.nat Obj.WebSource.checkSource ≠ 3 then w.chkPri + d else w.chkPri
    chkChk := if s.nat Obj.WebSource.checkSource = e + 1 then w.chkChk + d else w.chkChk
    net := if e = s.source then w.net + d else w.net }
  if e = s.source then s.lineEdge d else s

/-! ### Decoding (R43-R45) -/

/-- The count of an accepted edge: line (`true` A, `false` B), new accepted levels; none where the mode does not count it. -/
def decodeEdge (mode : Nat) (rev : Bool) (isA : Bool) (a b : Bool) : Option Int :=
  let fwd : Option Bool := match mode with
    | 0 => some (if isA then a != b else a == b)
    | 1 => if isA then some (a != b) else none
    | 2 => if isA && a then some (!b) else none
    | _ => if isA && a then some b else none
  fwd.map (fun f => if f != rev then 1 else -1)

/-- An edge of one line is accepted: levels, stamp, Standstill cleared, and its count (R43, R59). -/
def State.acceptEdge (s : State) (e : Nat) (isA : Bool) : State :=
  let x := s.enc e
  let x := { x with a := if isA then x.ballA else x.a, b := if isA then x.b else x.ballB, last := some s.ns }
  let s := ((s.setEnc e x).encFlag e 0 false).setN (Obj.EncoderStatus.lastEdgeStamp e) s.edgeStamp
  match decodeEdge (s.nat (Obj.EncoderConfig.decodeMode e)) (s.flag (Obj.EncoderConfig.reverse e)) isA x.a x.b with
  | some d => s.countEdge e d
  | none => s

/-- An edge of one line in spacing mode: rejected when it comes too soon after the last accepted edge (R44). -/
def State.spacedEdge (s : State) (e : Nat) (isA : Bool) : State :=
  match (s.enc e).last with
  | some t => if s.ns < t + 5 * s.nat (Obj.EncoderConfig.minSpacing e) then s.reject e else s.acceptEdge e isA
  | none => s.acceptEdge e isA

/-- New levels at the balls of channel `e` in one 1 ns stamp (R43-R45, log entry 144). In spacing mode a change of A is judged before a
change of B of the same stamp. -/
def State.inputEdge (s : State) (e : Nat) (la lb lz : Bool) : State :=
  let x := s.enc e
  let dA := la != x.ballA
  let dB := lb != x.ballB
  let s := (s.setEnc e { x with ballA := la, ballB := lb, z := lz }).endPulse e
  if s.nat (Obj.EncoderConfig.validationMode e) = 1 then
    if dA ∧ dB then
      let s := s.setEnc e { s.enc e with a := la, b := lb }
      ((s.encFlag e 1 true).inc (Obj.EncoderStatus.illegalTransitions e)).reject e
    else if dA then s.acceptEdge e true
    else if dB then s.acceptEdge e false
    else s
  else
    let s := if dA ∧ la ≠ x.a then s.spacedEdge e true else s
    if dB ∧ lb ≠ x.b then s.spacedEdge e false else s

/-! ### The serial position sensor (R54-R57) -/

/-- A bad word (R56): `FailCount` in a row make the sensor FAILED and suspend the cross-check. -/
def State.badWord (s : State) (key : Nat) : State :=
  let n := s.web.spsBad + 1
  let s := (s.setWeb { s.web with spsBad := n, spsReq := none }).inc key
  if n ≥ s.nat Obj.SpsConfig.failCount ∧ s.nat Obj.SpsStatus.state ≠ 2 then (s.setN Obj.SpsStatus.state 2).ev Ev.spsFailed else s

/-- The converted position of a good word in primary counts (R57): to nearest count (log entry 11). -/
def State.spsCounts (s : State) (p : Nat) : Int :=
  near ((p : Int) * s.num Obj.SpsConfig.spsRatio) (2 ^ 48) + s.num Obj.SpsConfig.spsOffset

/-- The requests end with `Enable` (R75): state off, nothing outstanding. -/
def State.spsOff (s : State) : State :=
  if s.flag Obj.SpsConfig.enable then s
  else (s.setWeb { s.web with spsReq := none, spsTick := none, spsBad := 0, chkSps := none }).setN Obj.SpsStatus.state 0

/-- A good word (R56, R57): the position, recovery, the cross-check's change and a pending load, which waits while a plane is enabled (log
entry 140). -/
def State.goodWord (s : State) (p : Nat) (sample : Int) : State :=
  let pb := s.nat Obj.SpsConfig.positionBits
  let was := s.nat Obj.SpsStatus.state
  let s := (s.setN Obj.SpsStatus.position p).inc Obj.SpsStatus.goodWords
  let s := (s.setWeb { s.web with spsBad := 0, spsReq := none }).setN Obj.SpsStatus.state 1
  let s := if was = 2 then (s.ev Ev.spsRecovered).checkReference else s
  let s := if s.nat Obj.WebSource.checkSource = 3 then
      let w := s.web
      match w.chkSps with
      | none => s.setWeb { w with chkSps := some p, chkSample := sample }
      | some p0 => s.setWeb { w with chkSps := some p, chkSample := sample
                                     chkChk := w.chkChk + sext pb ((p : Int) - p0), chkPri := w.chkPri + (sample - w.chkSample) }
    else s
  if s.web.spsLoad ∧ !s.anyPlane then
    let n := s.spsCounts p + (s.web.net - sample)
    let s := (s.setWeb { s.web with spsLoad := false }).setCount s.source n
    (s.setEnc s.source { s.enc s.source with idxR := none }).setPosition (s.num (Obj.EncoderStatus.count s.source))
  else s

end Sys2Proof.Machine
end

