-- ==== Sys2Proof/Machine/AccessOps.lean ====
section
/-! DEFINITION. Dictionary accesses (spec/14): the checks of an access in the order of R333, the shared forms of a write,
and the writes that a STANDBY refuses (R483). -/

namespace Sys2Proof.Machine

/-! ### Presence, availability, gating -/

/-- The number in a value. -/
def Val.int : Val → Int
  | .num n => n
  | .bytes _ => 0
/-- The natural number in a value. -/
def Val.nat (v : Val) : Nat := v.int.toNat
/-- The bytes in a value. -/
def Val.byt : Val → Bytes
  | .num _ => []
  | .bytes b => b

/-- The object belongs to a feature, or an instance of one, that the part lacks (R5, R11). -/
def State.absent (s : State) (key : Nat) : Bool :=
  let ix := key / 256
  let past := fun (base count n : Nat) => decide (base + n ≤ ix ∧ ix < base + count)
  past 0x4100 64 s.nHeads || past 0x4200 16 s.nPiers || past 0x4220 64 s.nHeads || past 0x2310 16 s.nPiers
    || past 0x2340 64 s.nHeads || past 0x4340 64 s.nHeads || past 0x4380 64 s.nHeads || past 0x4440 64 s.nHeads
    || past 0x4480 64 s.nHeads
    || (decide (0x6000 ≤ ix ∧ ix < 0x6300) && (s.nCams == 0
        || [0x6000, 0x6008, 0x6010, 0x6018, 0x6100, 0x6108, 0x6110, 0x6118, 0x6120, 0x6128, 0x6130, 0x6208].any
            (fun b => past b 4 s.nCams)))
    || past 0x7008 4 s.nSub
    || (decide (0x8000 ≤ ix ∧ ix < 0x8100) && !s.hasStay)

/-- The part has cameras. -/
def State.vision (s : State) : Bool := s.nCams != 0

/-- A nonzero ring size on a part without vision (R309). -/
def State.ringAbsent (s : State) (key : Nat) (x : Val) : Bool :=
  (key == Obj.RegionMap.cameraRingSize || key == Obj.RegionMap.previewRingSize) && !s.vision && decide (x.int ≠ 0)

/-- The field island answers accesses (R332): its firmware runs, the host island does not hold the Span lost, and it is neither in
RECOVERY nor OFF. -/
def State.fieldAvail (s : State) : Bool :=
  s.rst.field.run && !s.rst.field.active && !s.span.lostH && decide (s.nat Obj.PowerControl.powerState ≤ 2)

/-- The gate of the block that an index belongs to (R417): island (true host) and bit; none where the block has no gate. -/
def gateOf (ix : Nat) : Option (Bool × Nat) :=
  let at_ := fun (base n : Nat) => decide (base ≤ ix ∧ ix < base + n)
  if at_ 0x1300 5 then some (true, ix - 0x1300)
  else if at_ 0x1110 1 || at_ 0x9010 4 then some (true, 5)
  else if at_ 0x4200 16 then some (false, ix - 0x4200)
  else if at_ 0x4220 64 then some (false, (ix - 0x4220) / 4)
  else if at_ 0x6000 4 then some (false, 16 + ix - 0x6000)
  else if at_ 0x6008 4 then some (false, 16 + ix - 0x6008)
  else if at_ 0x6010 4 then some (false, 16 + ix - 0x6010)
  else if at_ 0x6018 4 then some (false, 16 + ix - 0x6018)
  else if at_ 0x6100 0x100 then some (false, 20)
  else if at_ 0x6200 0x100 then some (false, 21)
  else if at_ 0x7110 8 then some (false, 22 + ix - 0x7110)
  else if at_ 0x4300 0x200 || at_ 0x5000 0x300 then some (false, 30)
  else none

/-- The gate of the block that holds an index is open (R417). -/
def State.gateOpen (s : State) (ix : Nat) : Bool :=
  match gateOf ix with
  | none => true
  | some (true, b) => bit (s.nat Obj.HostGates.enable) b
  | some (false, b) => bit (s.nat Obj.FieldGates.enable) b

/-- The host-island objects that answer in RECOVERY (R448). -/
def recoverySet (ix : Nat) : Bool :=
  let at_ := fun (a b : Nat) => decide (a ≤ ix ∧ ix ≤ b)
  at_ 0x1000 0x10FF || at_ 0x1110 0x1111 || ix == 0x1180 || ix == 0x1304 || ix == 0x1340 || at_ 0x1380 0x13BF || at_ 0x1400 0x14FF
    || at_ 0x1600 0x16FF || ix == 0x2000 || ix == 0x2002 || ix == 0x2003 || ix == 0x2008 || ix == 0x2010 || ix == 0x2100
    || at_ 0x2200 0x22FF || at_ 0x9000 0x90FF || at_ 0xA000 0xA0FF

/-! ### The checks of an access (R333) -/

/-- `Submit` and `Reset` of the deep channels 6 and 7, which role O may not write (R325). -/
def deepChannel (key : Nat) : Bool := (key / 256 == 0x7116 || key / 256 == 0x7117) && key % 256 ≤ 2

/-- The bit of a role in a Roles mask. -/
def roleCode : Role → Nat
  | .x => 0 | .o => 1 | .s => 2 | .v => 3

/-- A STANDBY or FAILED part refuses writes to mirrored objects and to 0x4402, as if read-only (R483). -/
def State.mirrorClosed (s : State) (ix : Nat) : Bool :=
  decide (2 ≤ s.nat Obj.DuplexStatus.role) && (mirrored ix || ix == 0x4402)

/-- A write that the security state forbids whatever its value (R333): `OwnerKeyHash` beyond BLANK (R506), and a debug response after 8
failures (R503). -/
def State.secBarred (s : State) (key : Nat) : Bool :=
  (key == Obj.Security.ownerKeyHash && s.nat Obj.Security.lifecycle != 0)
    || (key == Obj.Debug.debugResponse && decide (8 ≤ s.nat Obj.Debug.failedUnlocks))

/-- The first abort of steps 1 to 7 of R333 that applies to an access; 0 where none does. -/
def State.permit (s : State) (role : Role) (key : Nat) (write : Bool) : Nat :=
  match descOf key with
  | none => 0x01020001
  | some d =>
    if s.absent key then (if write then 0x07010001 else 0)
    else if write ∧ (d.acc = .ro ∨ s.mirrorClosed (key / 256)) then 0x01010001
    else if !write ∧ d.acc = .wo then 0x01010005
    else if write ∧ (bit d.roles (roleCode role) = false ∨ (deepChannel key ∧ role = .o)) then 0x01010004
    else if !write ∧ key = Obj.Debug.debugChallenge ∧ role = .x then 0x01010004
    else if write ∧ s.secBarred key then 0x05010001
    else if isField (key / 256) ∧ !s.fieldAvail then 0x03030002
    else if s.rst.recovery ∧ !recoverySet (key / 256) then 0x03030002
    else if !s.gateOpen (key / 256) then 0x04010001
    else 0

/-- A role-V access to the vendor range, whose objects R343 leaves undocumented. -/
def vendorAccess (role : Role) (ix : Nat) : Bool := role == .v && decide (0xF000 ≤ ix ∧ ix ≤ 0xFFFF)

/-! ### The shared form of a write -/

/-- Checks that come before the effect: access, type and the object's own range (R333 steps 1-8 and 10). The value, or the
abort. -/
def State.checkWrite (s : State) (role : Role) (key : Nat) (v : Bytes) : Except Nat Val :=
  let c := s.permit role key true
  if c ≠ 0 then .error c
  else match descOf key with
    | none => .error 0x01020001
    | some d => match decodeVal d.ty v with
      | none => .error 0x02020001
      | some x => if s.ringAbsent key x then .error 0x07010001 else if d.rng x then .ok x else .error 0x02010001

/-- What an effect answers in place of an abort code when its write completes later (R422, R505): no response leaves now. -/
def answerLater : Nat := 2 ^ 32

/-- A write of a caller: the checks, then the effect `f`, which answers the next state and an abort (0 when it takes effect); an
accepted write of a mirrored object is journaled; the caller gets the abort code. An aborted access changes nothing (R333). -/
def State.write (s : State) (a : Caller) (key : Nat) (v : Bytes) (f : Val → State → State × Nat) : State :=
  match s.checkWrite a.role key v with
  | .error c => s.answer a.sess c
  | .ok x =>
    let (s', c) := f x s
    if c = 0 then (s'.journal key 0xFF v).answer a.sess 0 else if c = answerLater then s' else s.answer a.sess c

/-- The same with an effect that may refuse and still report (the check objects of R118, the failed commit of R337): the state the
effect answers stands also when it refuses. -/
def State.writeKeep (s : State) (a : Caller) (key : Nat) (v : Bytes) (f : Val → State → State × Nat) : State :=
  match s.checkWrite a.role key v with
  | .error c => s.answer a.sess c
  | .ok x =>
    let (s', c) := f x s
    if c = 0 then (s'.journal key 0xFF v).answer a.sess 0 else if c = answerLater then s' else s'.answer a.sess c

/-- An effect that a state condition refuses. -/
def guard (p : Bool) (abort : Nat) (f : State → State) (s : State) : State × Nat := if p then (f s, 0) else (s, abort)

/-! ### Commands of an island -/

/-- A command of the host island: none of its effect while the island is held in reset (R431). -/
def hostCmd (t : Nat) (s : State) (f : State → State) : Host.Outcome State Fault Refusal :=
  cmd t s (fun s => if s.rst.host.active then s else f s)

/-- A command of the field island: none of its effect while the island is held in reset (R431). -/
def fieldCmd (t : Nat) (s : State) (f : State → State) : Host.Outcome State Fault Refusal :=
  cmd t s (fun s => if s.rst.field.active then s else f s)

/-- Host firmware runs, and with it the control path (R364, R431). -/
def State.hostUp (s : State) : Bool := s.rst.host.run && !s.rst.host.active

/-- An access by a session: none of its effect while the host firmware, which carries the sessions, does not run. -/
def access (t : Nat) (s : State) (f : State → State) : Host.Outcome State Fault Refusal :=
  cmd t s (fun s => if s.hostUp then f s else s)

end Sys2Proof.Machine
end

