-- ==== Sys2Proof/Machine/CalOps.lean ====
section
/-! DEFINITION. Operations of calibration and ageing that other units share (spec/20): due runs, the end of a run, the ageing log. -/

namespace Sys2Proof.Machine

/-! ### Runs (R451, R452) -/

/-- The calibration unit replaced. -/
def State.setCal (s : State) (x : Cal) : State := { s with cal := x }

/-- The due runs replaced, with `AdaptPending` of every pier (R467). -/
def State.setDue (s : State) (l : List CalDue) : State :=
  (s.setCal { s.cal with due := l }).each ((List.range 16).filter (fun p => decide (p < s.nPiers))) (fun s p =>
    s.setF (Obj.PierCal.adaptPending p) (l.any (fun d => d.subj == 1 && d.inst / 4 == p)))

/-- A run of a subject and instance is due. -/
def State.isDue (s : State) (subj inst : Nat) : Bool := s.cal.due.any (fun d => d.subj == subj && d.inst == inst)

/-- A run falls due; a trigger that fires again while the run waits is absorbed into it (R452). -/
def State.calQueue (s : State) (subj inst : Nat) : State :=
  if s.isDue subj inst then s
  else s.setDue (s.cal.due ++ [{ subj := subj, inst := inst, since := s.tim.slave.ns, warned := false }])

/-- An automatic trigger (R451). -/
def State.calAuto (s : State) (subj inst : Nat) : State := if s.flag (Obj.CalSubject.autoEnable subj) then s.calQueue subj inst else s

/-- A run no longer waits. -/
def State.calTake (s : State) (subj inst : Nat) : State := s.setDue (s.cal.due.filter (fun d => !(d.subj == subj && d.inst == inst)))

/-- The kind of a subject's instances (R451): an island, a link, a subchannel, a head or a camera. -/
def subjKind : Nat → Nat
  | 3 | 4 => 3
  | n => n

/-- No run of a lower subject waits on the same instance (R452). -/
def State.calFirst (s : State) (subj inst : Nat) : Bool :=
  s.cal.due.all (fun d => d.inst != inst || subjKind d.subj != subjKind subj || decide (subj ≤ d.subj))

/-- A run ends accepted, or rejected by its check number `check` (R452). -/
def State.calEnd (s : State) (subj inst : Nat) (check : Option Nat) : State :=
  let s := (s.calTake subj inst).inc (Obj.CalSubject.runs subj)
  let s := (s.setN (Obj.CalSubject.lastStamp subj) (s.stamp .field)).setN (Obj.CalSubject.lastTime subj) s.tim.slave.ns
  let s := (s.setN (Obj.CalSubject.lastInstance subj) inst).setN (Obj.CalSubject.lastResult subj) (if check.isSome then 1 else 0)
  match check with
  | none => s.setCal { s.cal with temps := smSet (fun _ => 0) s.cal.temps (256 * subj + inst) (s.nat Obj.Ageing.dieTemp) }
  | some c => (s.inc (Obj.CalSubject.rejections subj)).ev Ev.calibrationRejected [subj, inst, c] subj

/-- A run is aborted: it stays due and is tried again at the next window (R452). -/
def State.calAbort (s : State) (subj inst : Nat) : State :=
  ((s.inc (Obj.CalSubject.aborts subj)).setN (Obj.CalSubject.lastResult subj) 2).calQueue subj inst

/-! ### The ageing log (R463) -/

/-- The least site shift of `RoShift`. -/
def leastShift (b : Bytes) : Int :=
  if b.isEmpty then 0 else (List.range 16).foldl (fun m i => min m (sfld b (2 * i) 2)) (sfld b 0 2)

/-- The newest copy of the ageing log: the one of the higher Sequence (R463, R350). -/
def Flash.ageing (f : Flash) : AgeCopy := if f.ageA.seq < f.ageB.seq then f.ageB else f.ageA

/-- The entries are written to the other copy, under the next Sequence (R463). -/
def Flash.putAgeing (f : Flash) (l : List Bytes) : Flash :=
  let c : AgeCopy := { seq := f.ageing.seq + 1, entries := l }
  if f.ageA.seq < f.ageB.seq then { f with ageA := c } else { f with ageB := c }

/-- An entry joins the ageing log; a full log of 2,047 entries drops its oldest. -/
def State.logAgeing (s : State) (kind inst oldG newG oldF newF : Nat) (margin : Int) : State :=
  let e : Bytes := encodeVal .time (.num s.tim.slave.ns) ++ leBytes 1 kind ++ leBytes 1 inst ++ leBytes 1 oldG ++ leBytes 1 newG
    ++ leBytes 2 oldF ++ leBytes 2 newF ++ leBytes 2 margin ++ leBytes 2 (s.nat Obj.Ageing.dieTemp)
    ++ leBytes 2 (leastShift (s.byt Obj.Ageing.roShift)) ++ leBytes 4 s.cal.logSeq ++ leBytes 4 0
  let l := s.cal.log ++ [e]
  let l := l.drop (l.length - 2047)
  let s := (s.setCal { s.cal with log := l, logSeq := s.cal.logSeq + 1 }).setB Obj.Ageing.ageingLog l.flatten
  { s with flash := s.flash.putAgeing l }

end Sys2Proof.Machine
end

