-- ==== Sys2Proof/Machine/ScreenOps.lean ====
section
/-! DEFINITION. The arithmetic of screening (spec/06, R145-R167) and of the second-row and composite methods (R230, R231), as
functions of one line: its configuration, its nozzle table, the heads set to fire it and its content. -/

namespace Sys2Proof.Machine

/-! ### Strip samples (R125, R148-R150) -/

/-- The code of stored-line column `i` of a dot strip (R125). -/
def dotSample (x : Strip) (raw : Bytes) (row i : Nat) : Nat :=
  let b := x.format
  let c := codesPerWord b
  bits (fld raw ((row * cdiv x.cols c + i / c) * 8) 8) (b * (i % c) + b - 1) (b * (i % c))

/-- Stage 1 (R148): sample `m` of stored line `j` of raw bytes. -/
def stage1 (fmt perLine : Nat) (raw : Bytes) (j m : Nat) : Nat :=
  if fmt = 0x11 then fld raw (2 * (j * perLine + m)) 2 % 16384
  else let v := fld raw (j * perLine + m) 1
       v * 64 + v / 4

/-- Stage 2 (R149): line `r` of the tile at sample `m`. -/
def stage2 (x : Strip) (raw : Bytes) (r m : Nat) : Nat :=
  let f := along x.res
  let j := r / f; let t := r % f
  let n := if bit x.res 0 then x.cols / 2 else x.cols
  let s0 := stage1 x.format n raw j m
  if bit x.res 3 then
    let s1 := if j + 1 < x.lineCount / f then stage1 x.format n raw (j + 1) m else s0
    (s0 * (f - t) + s1 * t + f / 2) / f
  else s0

/-- Stage 3 (R150): line `r` of the tile at column `q` of the band. -/
def stage3 (x : Strip) (raw : Bytes) (r q : Nat) : Nat :=
  if bit x.res 0 then
    let m := q / 2
    let a := stage2 x raw r m
    if q % 2 = 0 then a else (a + (if m + 1 < x.cols / 2 then stage2 x raw r (m + 1) else a) + 1) / 2
  else stage2 x raw r q

/-! ### The context of a line -/

/-- What screening reads of one opened line of plane `k`. -/
structure LineCtx where
  d : Dict
  ntab : List (Nat × Nat)
  k : Nat
  line : Int
  fire : List Nat
  /-- Strips of the line's tiles with the tile line that this line is, and their bytes. -/
  tiles : List (Strip × Bytes × Nat)
  deriving DecidableEq, Repr

/-- The tile that covers a column. -/
def LineCtx.tile (c : LineCtx) (x : Nat) : Option (Strip × Bytes × Nat) :=
  c.tiles.find? (fun t => decide (t.1.firstCol ≤ x ∧ x < t.1.firstCol + t.1.cols))

/-- Stage-3 value of a plane column; 0 where there is no content (R146, R151). -/
def LineCtx.contone (c : LineCtx) (x : Int) : Nat :=
  if 0 ≤ x ∧ x < width c.d c.k then
    match c.tile x.toNat with | some (t, raw, r) => stage3 t raw r (x.toNat - t.firstCol) | none => 0
  else 0

/-- Dot level of a plane column before the shift; 0 where there is no content (R105, R167). -/
def LineCtx.dot (c : LineCtx) (x : Int) : Nat :=
  if 0 ≤ x ∧ x < width c.d c.k then
    match c.tile x.toNat with | some (t, raw, r) => dotSample t raw r (x.toNat - t.firstCol) | none => 0
  else 0

/-- Stage 4 (R151). -/
def LineCtx.shifted (c : LineCtx) (x : Nat) : Nat :=
  let p := 64 * (x : Int) - dnum c.d (Obj.PlaneConfig.lateralShift c.k)
  let x0 := p / 64; let fr := (p % 64).toNat
  (c.contone x0 * (64 - fr) + c.contone (x0 + 1) * fr + 32) / 64

/-- Entry `i` of the tone curve (R152). -/
def toneEntry (d : Dict) (k i : Nat) : Nat :=
  match dbyt d (Obj.toneCurve k) with
  | [] => (16383 * i + 511) / 1023
  | b => fld b (2 * i) 2

/-- Stage 5 (R152). -/
def tone (d : Dict) (k u : Nat) : Nat :=
  let i := u / 16; let f := u % 16; let j := min (i + 1) 1023
  let a : Int := toneEntry d k i
  (a + (((toneEntry d k j : Int) - a) * f + 8) / 16).toNat

/-- Whole-column shift of the dot path (R105): s/64 to nearest, ties toward zero. -/
def wholeShift (s : Int) : Int := if 0 ≤ s then (s + 31) / 64 else -((-s + 31) / 64)

/-- Cell of the default 128 × 128 threshold matrix (R160). -/
def defaultCell (tx ty : Nat) : Nat :=
  let u := tx ^^^ ty
  (List.range 7).foldl (fun v i => v + (u / 2 ^ i % 2) * 2 ^ (13 - 2 * i) + (ty / 2 ^ i % 2) * 2 ^ (12 - 2 * i)) 0

/-- Cell of threshold matrix `m` at an across and along phase (R160). -/
def threshold (d : Dict) (k : Nat) (x : Nat) (L : Int) (drive : Bool) : Nat :=
  let m := dnat d (Obj.ScreenConfig.matrix k)
  let b := dbyt d (Obj.thresholdMatrix m)
  let n := if b.length = 131072 then 256 else 128
  let tx := (x + dnat d (Obj.ScreenConfig.matrixOffsetX k)) % n
  let ty := ((L + dnum d (Obj.ScreenConfig.matrixOffsetY k) + (if drive then ((n / 2 : Nat) : Int) else 0)) % (n : Int)).toNat
  if b.isEmpty then defaultCell tx ty else fld b (2 * (n * ty + tx)) 2

/-! ### Nozzle table entries (R154) -/

/-- The entry of a nozzle channel. -/
def nzEntry (t : List (Nat × Nat)) (n : Nat) : Nat := smGet (fun _ => 0x4000) t n
/-- Gain, Q2.14. -/
def nzGain (e : Nat) : Nat := e % 65536
/-- Offset. -/
def nzOffset (e : Nat) : Int := sext 16 (bits e 31 16)
/-- State: 0 good, 1 weak, 2 failed, 3 disabled. -/
def nzState (e : Nat) : Nat := bits e 33 32
/-- RedistSet. -/
def nzSet (e : Nat) : Nat := bits e 35 34
/-- Hide. -/
def nzHide (e : Nat) : Nat := bits e 38 36
/-- WeakShare. -/
def nzShare (e : Nat) : Nat := bits e 47 40
/-- Handled as failed: failed or disabled, or with Hide 2 or 4 in any State (R154). -/
def nzBad (e : Nat) : Bool := decide (2 ≤ nzState e) || nzHide e == 2 || nzHide e == 4

/-- The entry of nozzle `i` of head `h`. -/
def LineCtx.entry (c : LineCtx) (h i : Nat) : Nat := nzEntry c.ntab (channel c.d h i)

/-! ### Joints (R106-R110, R158) -/

/-- A head with its neighbours in the row, each with the joint's width. -/
structure HeadCtx where
  h : Nat
  op : Option (Nat × Nat)
  dr : Option (Nat × Nat)
  deriving DecidableEq, Repr

/-- The neighbours of a head. -/
def LineCtx.headCtx (c : LineCtx) (h : Nat) : HeadCtx :=
  let nb := neighbours c.d c.k h
  { h := h, op := nb.1.map (fun a => (a, (jointWidth c.d a h).toNat)), dr := nb.2.map (fun b => (b, (jointWidth c.d h b).toNat)) }

/-- The joint that column `x` of a head lies in: partner head, joint column, w_op, and whether this head is the operator-side one. -/
def LineCtx.joint (c : LineCtx) (g : HeadCtx) (x : Nat) : Option (Nat × Nat × Nat × Bool) :=
  match g.dr with
  | some (b, J) =>
    if origin c.d b ≤ x ∧ x < origin c.d b + J then some (b, x - origin c.d b, wOp c.d c.k J (x - origin c.d b), true) else
    match g.op with
    | some (a, J) => if x < origin c.d g.h + J then some (a, x - origin c.d g.h, wOp c.d c.k J (x - origin c.d g.h), false) else none
    | none => none
  | none => match g.op with
    | some (a, J) => if x < origin c.d g.h + J then some (a, x - origin c.d g.h, wOp c.d c.k J (x - origin c.d g.h), false) else none
    | none => none

/-- The entry of the nozzle of head `p` at column `x`; the default entry where it has none. -/
def LineCtx.entryAt (c : LineCtx) (p x : Nat) : Nat :=
  match nozzleAt c.d p x with | some i => c.entry p i | none => 0x4000

/-- Effective weight of the nozzle of head `g` at column `x` with entry `e` (R110, R158). -/
def LineCtx.weight (c : LineCtx) (g : HeadCtx) (x e : Nat) : Nat :=
  match c.joint g x with
  | none => 16384
  | some (p, _, w, isOp) =>
    if !c.fire.contains p then 16384
    else
      let pe := c.entryAt p x
      if nzBad e && nzHide e == 3 && !nzBad pe then 0
      else if nzBad pe && nzHide pe == 3 && !nzBad e then 16384
      else if isOp then w else 16384 - w

/-- The nozzle of head `g` at column `x` with entry `e` owns the column's drop on the line (R109, R110, R167). -/
def LineCtx.owns (c : LineCtx) (g : HeadCtx) (x e : Nat) : Bool :=
  match c.joint g x with
  | none => true
  | some (p, i, w, isOp) =>
    if !c.fire.contains p then true
    else
      let pe := c.entryAt p x
      if nzBad e && nzHide e == 3 && !nzBad pe then false
      else if nzBad pe && nzHide pe == 3 && !nzBad e then true
      else opOwns w i c.line == isOp

/-! ### Levels -/

/-- Multilevel threshold screening (R159). -/
def mltLevel (lmax dv t : Nat) : Nat :=
  let q := dv * lmax
  let base := q / 16383
  let F := (q - base * 16383) * 16384 / 16383
  base + (if F > t then 1 else 0)

/-- Level values V(l) (R161). -/
def levelValue (lmax l : Nat) : Int := ((2 * l * 16383 + lmax) / (2 * lmax) : Nat)

/-- Level and error of one nozzle in LED mode, and whether a clamp changed the error (R161). -/
def ledLevel (lmax dv : Nat) (bad : Bool) (u : Int) : Nat × Int × Bool :=
  if dv = 0 then (0, 0, false)
  else if bad then let e := clamp u (-8191) 8191
                   (0, e, e != u)
  else
    let l := (clamp ((u * lmax + 8191) / 16383) 0 lmax).toNat
    let e := u - levelValue lmax l
    let e' := clamp e (-8191) 8191
    (l, e', e' != e)

/-- One nozzle's outcome in LED mode: level, and the terms to the nozzle behind, itself and the nozzle ahead of the next line. -/
structure LedTerm where
  level : Nat
  t1 : Int
  t2 : Int
  t3 : Int
  clamped : Bool
  deriving DecidableEq, Repr

/-- The pass of R162 over nozzles in order, each with its value, state and stored error. -/
def ledPass (lmax : Nat) (w0 w1 w3 : Int) : Bool → Int → List (Nat × Bool × Int) → List LedTerm
  | _, _, [] => []
  | first, carry, (dv, bad, err) :: r =>
    let (l, e, c) := ledLevel lmax dv bad (dv + err + carry)
    let t0 := (e * w0 + 32) / 64
    let t1 := (e * w1 + 32) / 64
    let t3 := (e * w3 + 32) / 64
    let t2 := e - t0 - t1 - t3
    let t2 := if first then t2 + t1 else t2
    let t1 := if first then 0 else t1
    if r.isEmpty then [⟨l, t1, t2 + t0 + t3, 0, c⟩]
    else ⟨l, t1, t2, t3, c⟩ :: ledPass lmax w0 w1 w3 false t0 r

/-- The next-line errors that a pass leaves, in its order. -/
def ledNext (prev3 : Int) : List LedTerm → List Int
  | [] => []
  | a :: r => (a.t2 + prev3 + (match r with | b :: _ => b.t1 | [] => 0)) :: ledNext a.t3 r

/-- The drop-level map of R165: code and class of a level. -/
def mapLevel (d : Dict) (k l : Nat) : Nat × Nat :=
  let e := dnat d (Obj.DropLevelMap.levelEntry k l)
  (min (e % 8) (2 ^ dnat d (Obj.PlaneConfig.dropBits k) - 1), bits e 5 4)

/-! ### One head -/

/-- What one head's screening gives. -/
structure HeadOut where
  h : Nat
  codes : List Nat
  classes : List Nat
  comps : Nat
  errs : Nat
  /-- Channel, column, effective weight and next-line error of every nozzle, in LED mode. -/
  next : List (Nat × Nat × Nat × Int)
  /-- Columns and amounts that failed nozzles hand to the other row (R230) and to another plane (R231). -/
  second : List (Nat × Nat)
  composite : List (Nat × Nat)
  deriving DecidableEq, Repr

/-- One nozzle's way through stages 7 to 9: whether it takes part, whether its stage-6 value is 0, and its value. -/
structure Noz where
  i : Nat
  x : Nat
  e : Nat
  part : Bool
  zero : Bool
  v : Int
  deriving DecidableEq, Repr

/-- Sum of the amounts for a column. -/
def amountAt (l : List Composite) (x : Nat) : Nat := ((l.filter (fun c => c.col == (x : Int))).map (·.amount)).sum

/-- Stage 7 of a nozzle from its stage-6 value (R156), with whether a clamp changed it. -/
def stage7 (e a : Nat) : Int × Bool :=
  if a = 0 then (0, false)
  else
    let c := ((a * nzGain e + 8192) / 16384 : Nat) + nzOffset e
    let c' := clamp c 0 16383
    (c', c' != c)

/-- What a nozzle gives up in stage 8 (R157). -/
def givesUp (z : Noz) : Int :=
  if !z.part ∨ nzHide z.e ≠ 1 then 0
  else if nzBad z.e then z.v
  else if nzState z.e = 1 then (z.v * nzShare z.e + 128) / 256
  else 0

/-- Stage 8 of a head (R147, R157): the values of its nozzles after redistribution, with how many clamps changed one. A stage-6 value of 0
stays 0. -/
def stage8 (d : Dict) (k : Nat) (l : List Noz) : List Int × Nat :=
  let give := l.map (fun z => (givesUp z, dnat d (Obj.Redistribution.redistWeights k (nzSet z.e))))
  let share := fun (i : Nat) (far : Bool) =>
    match give[i]? with
    | some (m, w) => (m * (if far then w / 256 else w % 256 : Nat) + 128) / 256
    | none => 0
  let vals := l.map (fun z =>
    if !z.part || z.zero then (0, false)
    else
      let got : Int := if nzBad z.e then 0 else
        (if 1 ≤ z.i then share (z.i - 1) false else 0) + share (z.i + 1) false
          + (if 2 ≤ z.i then share (z.i - 2) true else 0) + share (z.i + 2) true
      let r := z.v - givesUp z + got
      let r' := clamp r 0 16383
      (r', r' != r))
  (vals.map (·.1), (vals.filter (·.2)).length)

/-- Counts of the drops of a line per energy class (R166). -/
def classCounts (l : List (Nat × Nat)) : List Nat :=
  (List.range 4).map (fun c => (l.filter (fun p => p.1 != 0 && p.2 == c)).length)

/-- A contone head line (R156-R166), given the composite and second-row amounts for the line and the stored errors. -/
def screenContone (c : LineCtx) (comps seconds : List Composite) (err : List (Nat × Int)) (h : Nat) : HeadOut :=
  let d := c.d; let k := c.k
  let g := c.headCtx h
  let lmax := dnat d (Obj.ScreenConfig.levels k)
  let led := dnat d (Obj.ScreenConfig.mode k) == 1
  let base := (List.range (nozzles d h)).map (fun i =>
    let x := column d h i; let e := c.entry h i
    let part := decide (x < width d k)
    let a := if part then min 16383 (tone d k (c.shifted x) + amountAt comps x) else 0
    let (v, cl) := stage7 e a
    (({ i := i, x := x, e := e, part := part, zero := a == 0, v := v } : Noz), cl))
  let own := base.map (·.1)
  let given := own.map (fun z => { z with v := if z.part && !z.zero then min 16383 (z.v + amountAt seconds z.x) else z.v })
  let (r, cl8) := stage8 d k given
  let nz := (given.zip r).map (fun (z, r) =>
    let w := c.weight g z.x z.e
    (z, w, ((r * w + 8192) / 16384).toNat))
  let moved := if led then [] else nz.filterMap (fun (z, w, _) =>
    if z.part && nzBad z.e then some (z.x, nzHide z.e, ((z.v * w + 8192) / 16384).toNat) else none)
  let gain := dnat d (Obj.PlaneHealth.compositeGain k)
  let fwd := dnum d (Obj.ScreenConfig.serpentine k) == 0
    || (c.line / (if dnat d (Obj.PlaneConfig.rowMode k) = 0 then 1 else 2)) % 2 == 0
  let w := dnat d (Obj.ScreenConfig.ledWeights k)
  let asc := dnum d (Obj.HeadRecord.mirror h) == 0
  let parts := nz.filter (fun p => p.1.part)
  let order := if led then (if fwd == asc then parts else parts.reverse) else []
  let terms := ledPass lmax (w % 256 : Nat) (bits w 15 8 : Nat) (bits w 31 24 : Nat) true 0
    (order.map (fun (z, _, dv) => (dv, nzBad z.e, smGet (fun _ => (0 : Int)) err (channel d h z.i))))
  let ledLevels := (order.zip terms).map (fun (p, t) => (p.1.i, t.level))
  let levels := nz.map (fun (z, _, dv) =>
    if !z.part then 0
    else if led then ((ledLevels.find? (fun p => p.1 == z.i)).map (·.2)).getD 0
    else if nzBad z.e then 0
    else mltLevel lmax dv (threshold d k z.x c.line (match c.joint g z.x with | some (_, _, _, isOp) => !isOp | none => false)))
  let mapped := (nz.zip levels).map (fun (p, l) => if p.1.part then mapLevel d k l else (0, 0))
  { h := h, codes := mapped.map (·.1), classes := classCounts mapped
    comps := (base.filter (·.2)).length + cl8, errs := (terms.filter (·.clamped)).length
    next := (order.zip (ledNext 0 terms)).map (fun (p, n) => (channel d h p.1.i, p.1.x, p.2.1, n))
    second := moved.filterMap (fun m => if m.2.1 = 2 ∧ m.2.2 ≠ 0 then some (m.1, m.2.2) else none)
    composite := moved.filterMap (fun m => if m.2.1 = 4 then some (m.1, (m.2.2 * gain + 8192) / 16384) else none) }

/-- A dot head line (R167), given the levels that the other row's failed nozzles hand over (R230). -/
def screenDot (c : LineCtx) (secondDots : List Composite) (h : Nat) : HeadOut :=
  let d := c.d; let k := c.k
  let g := c.headCtx h
  let sh := wholeShift (dnum d (Obj.PlaneConfig.lateralShift k))
  let nz := (List.range (nozzles d h)).map (fun i =>
    let x := column d h i; let e := c.entry h i
    let part := decide (x < width d k)
    let own := part && c.owns g x e
    let l := if own then c.dot ((x : Int) - sh) else 0
    let sub := (secondDots.filter (fun s => s.col == (x : Int))).foldl (fun m s => max m s.amount) 0
    (x, e, part, l, if !part || nzBad e then 0 else if own then max l sub else 0))
  let mapped := nz.map (fun (_, _, part, _, l) => if part then mapLevel d k l else (0, 0))
  { h := h, codes := mapped.map (·.1), classes := classCounts mapped, comps := 0, errs := 0, next := []
    second := nz.filterMap (fun (x, e, part, l, _) => if part && nzBad e && nzHide e == 2 && l != 0 then some (x, l) else none)
    composite := [] }

/-- The errors that a line leaves (R162, R163): merged in the columns of joints whose two heads screened the line; with how many
clamps changed one. -/
def mergeErrors (c : LineCtx) (outs : List HeadOut) : List (Nat × Int) × Nat :=
  let all : List (Nat × Option (Nat × Nat × Nat × Bool) × (Nat × Nat × Nat × Int)) := outs.flatMap (fun o => let g := c.headCtx o.h; o.next.map (fun n => (o.h, c.joint g n.2.1, n)))
  let res := all.map (fun (_, j, n) =>
    let alone : Int × Bool := (clamp n.2.2.2 (-8191) 8191, clamp n.2.2.2 (-8191) 8191 != n.2.2.2)
    let out : Int × Bool := match j with
      | none => alone
      | some (p, _, _, isOp) =>
        match all.find? (fun (q : Nat × Option (Nat × Nat × Nat × Bool) × (Nat × Nat × Nat × Int)) => q.1 == p && q.2.2.2.1 == n.2.1) with
        | none => alone
        | some (_, _, m) =>
          let E := n.2.2.2 + m.2.2.2
          let wOpSide : Int := if isOp then n.2.2.1 else m.2.2.1
          let ea := (E * wOpSide + 8192) / 16384
          let v := if isOp then ea else E - ea
          (clamp v (-8191) 8191, clamp v (-8191) 8191 != v)
    (n.1, out.1, out.2))
  (res.map (fun r => (r.1, r.2.1)), (res.filter (·.2.2)).length)

end Sys2Proof.Machine
end

