-- ==== Sys2Proof/Machine/HealthOps.lean ====
section
/-! DEFINITION. Operations of nozzle health (spec/09): the defect table and its overflow queue, findings, methods, the nozzle table
update, and the classes of measured resistances. -/

namespace Sys2Proof.Machine

/-! ### The nozzle table (R154, R155, R170) -/

/-- Entries of the nozzle table replaced; in force from the first line of each plane that opens afterwards (R155). -/
def State.setNozzles (s : State) (l : List (Nat × Nat)) : State :=
  { s with screen := { s.screen with ntab := l.foldl (fun m (e : Nat × Nat) => smSet (fun _ => 0x4000) m e.1 e.2) s.screen.ntab } }.touch
    Obj.NozzleTable.nozzleTable

/-- State and Hide of a channel change from the first unopened line of its plane (R226). -/
def State.noteChange (s : State) (old : List (Nat × Nat)) (ch k : Nat) : State :=
  let e := nzEntry old ch; let e' := nzEntry s.screen.ntab ch
  if nzState e = nzState e' ∧ nzHide e = nzHide e' then s
  else if s.health.changed.contains (ch, s.unopened k) then s
  else { s with health := { s.health with changed := s.health.changed ++ [(ch, s.unopened k)] } }

/-! ### The defect table (R223, R236) -/

/-- The 16 bytes of an entry. -/
def Defect.bytes (e : Defect) : Bytes :=
  let b := fun (x : Bool) (n : Nat) => if x then n else 0
  leBytes 4 e.chan ++ leBytes 1 e.kind ++ leBytes 1 e.source ++ leBytes 1 e.method
    ++ leBytes 1 ((b e.applied 1 + b e.proposed 2 + b e.probe 4 + b e.unhidden 8 + 16 * e.manual + b e.forced 64 : Nat) : Int)
    ++ leBytes 4 e.stamp ++ leBytes 1 e.confirms ++ leBytes 1 e.clears ++ leBytes 2 e.value

/-- The unit replaced, with the objects that show it; a transition to a full table raises DefectTableFull. -/
def State.setHealth (s : State) (x : Health) : State :=
  let full := decide (4096 ≤ x.table.length)
  let s := { s with health := { x with full := full } }
  let s := (s.setN Obj.HealthControl.entries x.table.length).setN Obj.HealthControl.pendingEntries (x.table.filter (fun e => !e.applied)).length
  let s := s.setN Obj.HealthControl.overflowDepth x.queue.length
  let s := (s.setB Obj.defectTable (x.table.map Defect.bytes).flatten).setB Obj.overflowQueue (x.queue.map Defect.bytes).flatten
  if full && !x.full then s.ev Ev.defectTableFull else s

/-- The entry of a channel. -/
def State.defect (s : State) (ch : Nat) : Option Defect := s.health.table.find? (fun e => e.chan == ch)

/-- Puts an entry in its place by channel. -/
def insDefect (e : Defect) : List Defect → List Defect
  | [] => [e]
  | x :: r => if e.chan < x.chan then e :: x :: r else if e.chan = x.chan then e :: r else x :: insDefect e r

/-- The plane of a nozzle channel with the head and nozzle that hold it (R103). -/
def chanPlace (d : Dict) (ch : Nat) : Option (Nat × Nat × Nat) :=
  ((List.range 64).find? (fun h => inUse d h && decide (channel d h 0 ≤ ch ∧ ch < channel d h (nozzles d h)))).map
    (fun h => (dnat d (Obj.HeadRecord.plane h), h, ch - channel d h 0))

/-- The plane of a channel must select its methods again (R228). -/
def State.markDirty (s : State) (ch : Nat) : State :=
  match chanPlace s.dict ch with
  | none => s
  | some (k, _, _) => if s.health.dirty.contains k then s else { s with health := { s.health with dirty := s.health.dirty ++ [k] } }

/-- An entry of the table replaced; its Stamp is that of the change. -/
def State.putDefect (s : State) (e : Defect) : State :=
  s.setHealth { s.health with table := insDefect { e with stamp := s.stamp .field } s.health.table
                              touched := if s.health.touched.contains e.chan then s.health.touched else s.health.touched ++ [e.chan] }

/-- Queue entries move into the table as slots free, oldest first (R236); a resistance entry is then applied. -/
def State.promote (s : State) : Nat → State
  | 0 => s
  | n + 1 =>
    match s.health.queue with
    | e :: r =>
      if s.health.table.length < 4096 then
        let s := s.setHealth { s.health with queue := r }
        let now := s.tim.slave.ns
        if e.source = 0 then
          (((s.putDefect { e with applied := true, appliedAt := now, okSince := false }).ev Ev.defectApplied).markDirty e.chan).promote n
        else (s.putDefect { e with validAt := now }).promote n
      else s
    | [] => s

/-- An entry leaves the table; queued ones take its place, and the plane is written again (R228, R235). -/
def State.dropDefect (s : State) (ch : Nat) : State :=
  let s := (s.setHealth { s.health with
    table := s.health.table.filter (fun e => e.chan != ch)
    touched := if s.health.touched.contains ch then s.health.touched else s.health.touched ++ [ch] }).promote 64
  s.markDirty ch

/-- An entry is applied (R227, R233): hidden from the next update. -/
def State.applyDefect (s : State) (e : Defect) (ev : Nat × Nat) : State :=
  ((s.putDefect { e with applied := true, proposed := false, probe := false, clears := 0, appliedAt := s.tim.slave.ns
                         okSince := false }).ev ev).markDirty e.chan

/-- A new entry of a finding: into the table, else into the queue, else lost (R236). -/
def State.newDefect (s : State) (e : Defect) : State :=
  if s.health.table.length < 4096 then (if e.source = 0 then s.applyDefect e Ev.defectApplied else s.putDefect e)
  else if s.health.queue.length < 64 then
    s.setHealth { s.health with queue := s.health.queue ++ [{ e with stamp := s.stamp .field }] }
  else
    let s := s.inc Obj.HealthControl.overflowLost
    let soon := match s.health.lostAt with | some t => decide (s.now < t + 10 ^ 10) | none => false
    if soon then s else ({ s with health := { s.health with lostAt := some s.now } }).ev Ev.defectLost

/-- The stored value of nozzle `i` in the `ResistanceMap` of head `h`. -/
def State.resAt (s : State) (h i : Nat) : Nat := fld (s.byt (Obj.resistanceMap h)) (2 * i) 2

/-- A blank entry of a channel; one that the host does not write carries the last resistance value (R223, R233). -/
def State.blankDefect (s : State) (ch kind source : Nat) : Defect :=
  { chan := ch, kind := kind, source := source, method := 0, applied := false, proposed := false, probe := false, unhidden := false
    manual := 0, forced := false, stamp := s.stamp .field, confirms := 0, clears := 0
    value := if source = 2 then 0 else match chanPlace s.dict ch with | some (_, h, i) => s.resAt h i | none => 0
    appliedAt := 0, okSince := false
    probeLine := 2 ^ 47, validAt := s.tim.slave.ns }

/-! ### Findings (R225, R227, R232) -/

/-- An entry that a resistance finding of class `c` and value `v` meets (R225): a drift leaves all but a deviated or drift entry as it is. -/
def Defect.meets (e : Defect) (c v : Nat) : Defect :=
  if c ≠ 3 ∨ e.kind = 5 ∨ e.kind = 3 then { e with kind := c, source := 0, value := v } else { e with value := v }

/-- The entry of a channel in the overflow queue changes (R225, R236). -/
def State.mapQueue (s : State) (ch : Nat) (f : Defect → Defect) : State :=
  if s.health.queue.any (fun e => e.chan == ch) then
    s.setHealth { s.health with queue := s.health.queue.map (fun e => if e.chan = ch then { f e with stamp := s.stamp .field } else e) }
  else s

/-- A confirmed resistance finding of class `c` (1 open, 2 short, 3 drift): R225, R227, R232. -/
def State.resFinding (s : State) (ch c v : Nat) : State :=
  match s.defect ch with
  | none =>
    if s.health.queue.any (fun e => e.chan == ch) then s.mapQueue ch (fun e => e.meets c v)
    else s.newDefect { s.blankDefect ch c 0 with value := v }
  | some e =>
    if e.kind = 6 then s
    else
      let takes := c != 3 || e.kind == 5 || e.kind == 3
      let e' := e.meets c v
      if e.probe then s.applyDefect e' Ev.defectReapplied
      else if takes && !e.applied then s.applyDefect e' Ev.defectApplied
      else
        let s := s.putDefect e'
        if e'.kind ≠ e.kind then s.markDirty ch else s

/-- A resistance value in limits (R225). -/
def State.resGood (s : State) (ch v : Nat) : State :=
  match s.defect ch with
  | none => s.mapQueue ch (fun e => { e with value := v })
  | some e => if e.kind = 6 then s else s.putDefect { e with value := v, okSince := e.okSince || e.applied }

/-- The inspection column that holds column `x` of plane `k` (R269), with the `ColumnOrigin` that `w` holds. -/
def State.inspColumn (s : State) (w : Dict) (k x : Nat) : Int :=
  (x * 65536 + 32768 - dnum w (Obj.PlaneRender.columnOrigin k)) / s.num (Obj.PlaneRender.columnsPerInsp k)

/-- Column `x` of plane `k` lies in the cover of an enabled camera (R226, R259, R269): its inspection column is one that the camera outputs and
its sensor reaches. -/
def State.coveredColumn (s : State) (w : Dict) (k x : Nat) : Bool :=
  let X := s.inspColumn w k x
  (List.range 4).any (fun c =>
    let i := (s.num (Obj.PipelineConfig.u0 c) + X * s.num (Obj.PipelineConfig.step c)) / 65536
    decide (c < s.nCams) && s.flag (Obj.CameraPort.enable c)
      && decide (s.num (Obj.PipelineConfig.coverStart c) ≤ X ∧ X ≤ s.num (Obj.PipelineConfig.coverEnd c))
      && decide (0 ≤ i ∧ i + 1 ≤ s.num (Obj.CameraPort.width c)))

/-- The window of a report is valid for a channel (R226). -/
def State.windowValid (s : State) (r : Report) (ch : Nat) : Bool :=
  match chanPlace s.dict ch with
  | none => false
  | some (_, h, _) =>
    let inW := fun (L : Int) => decide (r.first ≤ L ∧ L ≤ r.last)
    !r.partialFrame && !(s.head h).lines.any (fun f => inW f.line) && !(s.head h).doubt.any inW
      && !s.health.changed.any (fun c => c.1 == ch && decide (r.first < c.2 ∧ c.2 ≤ r.last))

/-- An inspection finding of kind `c` (4 missing, 5 deviated) in a valid window (R225, R227, R232). -/
def State.inspFinding (s : State) (r : Report) (ch c : Nat) : State :=
  let decideEntry := fun (s : State) (e : Defect) =>
    if e.confirms < s.nat Obj.HealthControl.confirmWindows then s.putDefect e
    else if s.nat Obj.HealthControl.mode = 0 then s.applyDefect e Ev.defectApplied
    else (s.putDefect { e with proposed := true }).ev Ev.defectProposed
  match s.defect ch with
  | none =>
    if s.health.queue.any (fun e => e.chan == ch) then s
    else
      let e := { s.blankDefect ch c 1 with confirms := 1 }
      if s.health.table.length < 4096 then decideEntry s e else s.newDefect e
  | some e =>
    if e.kind = 6 then s
    else if e.probe then (if e.probeLine ≤ r.first then s.applyDefect e Ev.defectReapplied else s)
    else if e.applied then (if e.kind = c then s.putDefect e else s)
    else if e.proposed then s
    else if e.kind = c then decideEntry s { e with confirms := min 255 (e.confirms + 1), validAt := s.tim.slave.ns }
    else s.putDefect { e with validAt := s.tim.slave.ns }

/-- A clear result in a valid window (R227, R232): the removal of a probed entry waits while `Mode` is not 0. -/
def State.inspClear (s : State) (r : Report) (ch : Nat) : State :=
  match s.defect ch with
  | none => s
  | some e =>
    if e.probe then
      if e.probeLine ≤ r.first then
        if e.clears + 1 ≥ s.nat Obj.HealthControl.clearWindows ∧ s.nat Obj.HealthControl.mode = 0 then (s.dropDefect ch).ev Ev.defectCleared
        else s.putDefect { e with clears := min 255 (e.clears + 1) }
      else s
    else if e.applied || e.proposed then s
    else s.dropDefect ch

/-- One inspection report is voted (R226, R227). -/
def State.voteReport (s : State) (r : Report) : State :=
  let s := r.found.foldl (fun s (p : Nat × Nat) => if s.windowValid r p.1 then s.inspFinding r p.1 p.2 else s) s
  r.clear.foldl (fun s ch => if s.windowValid r ch then s.inspClear r ch else s) s

/-! ### Methods (R224, R228, R229) -/

/-- State that an entry gives its nozzle (R224). -/
def Defect.state (d : Dict) (k : Nat) (e : Defect) : Nat :=
  if !e.applied || e.probe then 0
  else match e.kind with
    | 3 | 5 => if dnat d (Obj.PlaneHealth.weakPolicy k) = 1 then 2 else 1
    | 6 => e.manual
    | _ => 2

/-- State of a channel by the table. -/
def stateOf (d : Dict) (k : Nat) (t : List Defect) (ch : Nat) : Nat :=
  match t.find? (fun e => e.chan == ch) with | some e => e.state d k | none => 0

/-- Nozzle `i` of head `h` takes part (R104) and is good or weak. -/
def helps (d : Dict) (k : Nat) (t : List Defect) (h i : Nat) : Bool :=
  decide (i < nozzles d h) && decide (column d h i < width d k) && decide (stateOf d k t (channel d h i) ≤ 1)

/-- A method is available for nozzle `i` of head `h` of plane `k` (R228). -/
def available (d : Dict) (k : Nat) (t : List Defect) (h i : Nat) : Nat → Bool
  | 1 => (decide (0 < i) && helps d k t h (i - 1)) || helps d k t h (i + 1)
  | 2 => dnat d (Obj.PlaneConfig.rowMode k) == 1 && (rowHeads d k (1 - rowOf d h)).any (fun g =>
      match nozzleAt d g (column d h i) with | some j => helps d k t g j | none => false)
  | 3 => let nb := neighbours d k h
         [nb.1, nb.2].any (fun g => match g with
           | some g => (match nozzleAt d g (column d h i) with | some j => helps d k t g j | none => false)
           | none => false)
  | 4 => let q := dnat d (Obj.PlaneHealth.compositeTarget k)
         decide (q < 4) && dnum d (Obj.PlaneConfig.enable q) != 0
  | _ => false

/-- The codes of `MethodOrder` up to the first nibble that is 0. -/
def methodCodes : Nat → Nat → List Nat
  | 0, _ => []
  | n + 1, o => if o % 16 = 0 then [] else o % 16 :: methodCodes n (o / 16)

/-- The method of an applied entry, and whether the nozzle stays unhidden (R228, R229). -/
def methodFor (d : Dict) (k : Nat) (t : List Defect) (h i : Nat) (e : Defect) : Nat × Bool :=
  let codes := methodCodes 4 (dnat d (Obj.PlaneHealth.methodOrder k))
  match e.state d k with
  | 0 => (0, false)
  | 1 => if e.forced then (e.method, false)
         else if codes.contains 1 && available d k t h i 1 then (1, false) else (0, false)
  | _ => if e.forced then (e.method, false)
         else match codes.find? (available d k t h i) with | some m => (m, false) | none => (0, true)

/-- The four fields that the unit writes into an entry of the nozzle table (R235). -/
def writeFields (old st set hide share : Nat) : Nat :=
  old % 2 ^ 32 + st * 2 ^ 32 + set * 2 ^ 34 + hide * 2 ^ 36 + share * 2 ^ 40

/-- Methods of plane `k` are selected again, and State, Hide, RedistSet and WeakShare of every channel of the plane follow the table; a
channel without an applied entry has all four 0 (R224, R228, R234, R235, log entry 154). DefectUnhidden is raised for each nozzle that no
method hides. -/
def State.selectMethods (s : State) (k : Nat) : State :=
  let d := s.dict
  let t := s.health.table
  let place := fun (e : Defect) => match chanPlace d e.chan with | some (k', h, i) => if k' = k then some (h, i) else none | none => none
  let t' := t.map (fun e => match place e with
    | some (h, i) => if e.applied then
        let (m, u) := methodFor d k t h i e
        { e with method := m, unhidden := u, stamp := if m = e.method ∧ u = e.unhidden then e.stamp else s.stamp .field, probeLine := if e.probe && decide (e.probeLine = 2 ^ 47) then s.unopened k else e.probeLine }
        else e
    | none => e)
  let bare := t'.filter (fun e => e.applied && e.unhidden && (place e).isSome)
  let old := s.screen.ntab
  let set := dnat d (Obj.PlaneHealth.redistSet k)
  let share := dnat d (Obj.PlaneHealth.weakShare k)
  -- every channel of the plane that has an entry now, or a State or Hide from before
  let chans := ((planeHeads d k).flatMap (fun h => ((List.range (nozzles d h)).map (channel d h)))).filter (fun ch =>
    t'.any (fun e => e.chan == ch) || old.any (fun e => e.1 == ch))
  let upd := chans.map (fun ch =>
    let o := nzEntry old ch
    match t'.find? (fun e => e.chan == ch && e.applied) with
    | some e => (ch, writeFields o (e.state d k) set e.method share)
    | none => (ch, writeFields o 0 0 0 0))
  let s := (s.setHealth { s.health with table := t' }).setNozzles upd
  let s := upd.foldl (fun s (u : Nat × Nat) => s.noteChange old u.1 k) s
  let s := s.setN Obj.HealthControl.appliedLine (sext 48 (s.unopened k))
  bare.foldl (fun s _ => s.ev Ev.defectUnhidden) s

/-- The changed entries of the table join what an ACTIVE part mirrors (R476, R478): the entry, or Kind 0 for a removed channel, with the
line of each plane from which the change holds. -/
def State.mirrorDefects (s : State) : State :=
  let l := s.health.touched
  let s := { s with health := { s.health with touched := [] } }
  if s.nat Obj.DuplexStatus.role ≠ 1 then s
  else
    let items : List MirrorItem := l.map (fun ch =>
      { seq := 0, group := 0xFF, flags := 0, off := 0, effect := s.effectLines, head := []
        val := match s.defect ch with | some e => e.bytes | none => leBytes 4 ch ++ List.replicate 4 0#8 ++ leBytes 4 (s.stamp .field) ++ List.replicate 4 0#8
        sent := none })
    { s with dux := { s.dux with health := s.dux.health ++ items } }

/-- The entry of a channel enters probe (R232): written good with Hide 0 by the update that follows. -/
def State.beginProbe (s : State) (ch : Nat) : State :=
  match s.defect ch with
  | some e => if e.applied ∧ !e.probe ∧ e.source ≤ 1 ∧ e.okSince ∧ s.nat Obj.HealthControl.mode = 0 then
      (s.putDefect { e with probe := true, clears := 0, probeLine := 2 ^ 47 }).markDirty ch else s
  | none => s

/-- The health part of a control cycle (R234): host writes have reached the table; resistance results, inspection reports, probes, then the
methods of every plane that changed. -/
def State.healthCycle (s : State) : State :=
  let res := s.health.res; let reps := s.health.reports; let probes := s.health.probes
  let s := { s with health := { s.health with res := [], reports := [], probes := [] } }
  let s := res.foldl (fun s (r : ResResult) => match r.cls with | some c => s.resFinding r.chan (c + 1) r.value | none => s.resGood r.chan r.value) s
  let s := reps.foldl (fun s r => s.voteReport r) s
  let s := probes.foldl (fun s ch => s.beginProbe ch) s
  let ks := s.health.dirty
  let s := { s with health := { s.health with dirty := [] } }
  (s.each ((List.range 4).filter (fun k => ks.contains k)) (fun s k => s.selectMethods k)).mirrorDefects

/-! ### Measurement (R219-R222, R456-R459) -/

/-- Measurements of head `h`. -/
def State.meas_ (s : State) (h : Nat) : Meas := smGet (fun _ => Meas.init) s.meas h
/-- Measurements of head `h` replaced. -/
def State.setMeas (s : State) (h : Nat) (x : Meas) : State := { s with meas := smSet (fun _ => Meas.init) s.meas h x }

/-- The class of a value (R221): 0 open, 1 short, 2 drift; none in limits. -/
def State.resClass (s : State) (h v : Nat) : Option Nat :=
  let r := s.nat (Obj.HeadHealth.resistRef h)
  if v ≥ s.nat (Obj.HeadHealth.openLimit h) then some 0
  else if v ≤ s.nat (Obj.HeadHealth.shortLimit h) then some 1
  else if r ≠ 0 ∧ ((v : Int) - r).natAbs * 1000 > s.nat (Obj.HeadHealth.driftLimit h) * r then some 2
  else none

/-- The `ResistanceMap` of head `h` with the value of nozzle `i` stored. -/
def State.storeRes (s : State) (h i v : Nat) : State :=
  let n := 2 * nozzles s.dict h
  let b := s.byt (Obj.resistanceMap h)
  let b := (b ++ List.replicate (n - b.length) 0#8).take n
  s.setB (Obj.resistanceMap h) (b.take (2 * i) ++ leBytes 2 v ++ b.drop (2 * i + 2))

/-- Values strictly between the limits, ascending (R457). -/
def State.inLimits (s : State) (h : Nat) : List Nat :=
  sortBy (fun a b => decide (a ≤ b)) (((List.range (nozzles s.dict h)).map (s.resAt h)).filter (fun v =>
    decide (s.nat (Obj.HeadHealth.shortLimit h) < v ∧ v < s.nat (Obj.HeadHealth.openLimit h))))

/-- The median, rounded down (R457). -/
def median (l : List Nat) : Nat :=
  let n := l.length
  if n = 0 then 0 else if n % 2 = 1 then l.getD (n / 2) 0 else (l.getD (n / 2 - 1) 0 + l.getD (n / 2) 0) / 2

/-- A sweep of head `h` starts at nozzle 0 (R220). -/
def State.startSweep (s : State) (h : Nat) : State :=
  (s.setMeas h { s.meas_ h with sweeping := true, due := false, next := 0 }).setN (Obj.HeadHealth.sweepProgress h) 0

/-- A resistance baseline is accepted: `ResistRef` takes a value (R456, R457). -/
def State.takeBaseline (s : State) (h m : Nat) : State := (s.setN (Obj.HeadHealth.resistRef h) m).calEnd 3 h none

/-- A complete sweep of head `h` (R220, R457, R458). -/
def State.sweepDone (s : State) (h : Nat) : State :=
  let l := s.inLimits h
  let M := median l
  let x := s.meas_ h
  let N := nozzles s.dict h
  let s := s.setMeas h { x with sweeping := false, baseline := false, doneAt := s.tim.slave.ns }
  let s := (s.setN (Obj.HeadHealth.lastSweepStamp h) (s.stamp .field)).inc (Obj.HeadHealth.sweepsDone h)
  let s := if x.baseline then
      if l.length * 100 ≥ s.nat Obj.CalLimits.baselineMinInLimits * N ∧ M ≠ 0 then
        let s := s.takeBaseline h M
        -- the sweep's values against the new reference: a drift waits for its confirmation (R222)
        let again := ((List.range N).filter (fun i => s.resClass h (s.resAt h i) == some 2)).map (fun i => (i, s.resAt h i, 2))
        s.setMeas h { s.meas_ h with confirm := (s.meas_ h).confirm ++ again }
      else s.calEnd 3 h (some 1)
    else s
  let s := s.setN (Obj.HeadCal.resistMedian h) M
  let r := s.nat (Obj.HeadHealth.resistRef h)
  if r = 0 then s
  else
    let t := clamp (Int.tdiv (((M : Int) - r) * 1000) r) (-1000) 1000
    let s := s.setN (Obj.HeadCal.driftTrend h) t
    if 2 * t.natAbs > s.nat (Obj.HeadHealth.driftLimit h) ∧ !(s.meas_ h).drifted then
      ((s.setMeas h { s.meas_ h with drifted := true }).ev Ev.heaterDriftTrend).logAgeing 4 h 0 0 0 0 t
    else s

/-- The measurement in progress on head `h` is discarded by a strobe (R183, R219). -/
def State.abortChunk (s : State) (h : Nat) : State :=
  match (s.meas_ h).chunk with
  | none => s
  | some _ => (s.setMeas h { s.meas_ h with chunk := none, got := 0 }).inc (Obj.HeadHealth.measureAborts h)

/-! ### A new carrier (R220, R456, R459) -/

/-- A carrier whose CarrierId differs from `BaselineCarrier` reports on head `h` (R456). -/
def State.newBaseline (s : State) (h id : Nat) : State :=
  let lo := channel s.dict h 0; let hi := channel s.dict h (nozzles s.dict h)
  let gone := (s.health.table.filter (fun e => decide (lo ≤ e.chan ∧ e.chan < hi) && decide (e.source ≤ 1))).map (·.chan)
  let s := s.setHealth { s.health with queue := s.health.queue.filter (fun e => !(decide (lo ≤ e.chan ∧ e.chan < hi) && decide (e.source ≤ 1))) }
  let s := gone.foldl (fun s c => s.dropDefect c) s
  let s := s.setN (Obj.HeadHealth.resistRef h) 0
  let f := s.nat (Obj.HeadCal.factoryResistRef h)
  let auto := s.flag (Obj.CalSubject.autoEnable 3)
  let s := if f ≠ 0 then
      let s := if s.nat (Obj.HeadHealth.shortLimit h) < f ∧ f < s.nat (Obj.HeadHealth.openLimit h) then s.takeBaseline h f else s.calEnd 3 h (some 1)
      s.setN (Obj.HeadCal.factoryResistRef h) 0
    else if auto then (s.calQueue 3 h).setMeas h { s.meas_ h with baseline := true, drifted := false }
    else s
  let s := s.setMeas h { s.meas_ h with drifted := false }
  s.setN (Obj.HeadCal.baselineCarrier h) id

/-! ### Idle heads (R219, R453) -/

/-- A line of head `h` whose strobe is committed, or predicted and not withheld. -/
def State.strobesAhead (s : State) (h : Nat) : List Nat :=
  (s.head h).lines.filterMap (fun f => match f.st with
    | .committed => some f.ts
    | .waiting => if f.hold.isSome || s.blankWeb || !s.portUp h || s.tooHot h then none else s.predict (s.planeOf h) f.target
    | .strobed => none)

/-- The predicted crossings of the close lines of the open closures that hold head `h` (R219): where an armed ClosureClose stands, and where
`MaxLines` ends. -/
def State.closesAhead (s : State) (h : Nat) : List Nat :=
  (s.sched.closures.filter (fun c => bit c.2.mask h)).flatMap (fun c =>
    let armed := (s.sched.table.filter (fun e => e.action == 5 && e.param == c.1)).filterMap (fun e =>
      s.predictAt (s.plane e.plane).q 0 (s.ahead e))
    armed ++ (s.predict c.2.plane ((c.2.line + c.2.maxLines) * 2 ^ 48)).toList)

/-- Head `h` is idle for `dur` (0.1 ns) from now (R219, R453), and no close line of a closure that holds it is crossed before its end. -/
def State.headIdle (s : State) (h dur : Nat) : Bool :=
  let a := s.strobesAhead h
  let n := s.nat (Obj.HeadHealth.idleLines h)
  let free := a.isEmpty || (a.all (fun t => decide (t > s.now + dur + 1000000)) && decide (n ≤ (s.head h).quiet))
  free && (s.closesAhead h).all (fun t => decide (s.now + dur ≤ t))

end Sys2Proof.Machine
end

