-- ==== Sys2Proof/Machine/PierOps.lean ====
section
/-! DEFINITION. Operations of the Pier link (spec/07) and of the thermal state that it carries (R213): blocks, attempts, losses. -/

namespace Sys2Proof.Machine

/-! ### Ports and links -/

/-- The link of `h` is bonded. -/
def State.bonded (s : State) (h : Nat) : Bool := decide ((s.link h).length ≠ 1)

/-- `State` of a port. -/
def State.portState (s : State) (h : Nat) : Nat := s.nat (Obj.PortStatus.state h)

/-- The pier of port `h` is in service. -/
def State.inService (s : State) (h : Nat) : Bool := s.nat (Obj.PierConfig.service (h / 4)) == 0

/-- `Faulted` of pier `p` follows its ports (R194). -/
def State.showFaulted (s : State) (p : Nat) : State :=
  s.setF (Obj.PierConfig.faulted p) ([4 * p, 4 * p + 1, 4 * p + 2, 4 * p + 3].any (fun h => (s.port h).wasUp && s.portState h != 2))

/-- A port changes state. -/
def State.setPortState (s : State) (h n : Nat) : State :=
  let s := s.setN (Obj.PortStatus.state h) n
  let s := if n = 2 then s.setPort h { s.port h with wasUp := true, statAt := s.now } else s
  s.showFaulted (h / 4)

/-- The highest stage passed. -/
def State.passStage (s : State) (h n : Nat) : State :=
  (s.setPort h { s.port h with stageAt := s.now }).setN (Obj.PortStatus.stage h) n

/-! ### Blocks (R175-R181) -/

/-- IDLE. -/
def idleBlock : Bool × Block := ctrl 0x1E
/-- OWN of an epoch. -/
def ownBlock (epoch : Nat) : Bool × Block := ctrl (0x2D + low 32 epoch * 2 ^ 8)
/-- MARK: lane, lane count and MarkSeq. -/
def markBlock (lane n seq : Nat) : Bool × Block := ctrl (0x66 + lane * 2 ^ 8 + n * 2 ^ 12 + seq % 2 ^ 24 * 2 ^ 16)
/-- CMD: opcode and arguments from bit 16 on. -/
def cmdBlock (op args : Nat) : Bool × Block := ctrl (0x78 + op * 2 ^ 8 + args * 2 ^ 16)
/-- A WARM command. -/
def warmBlock (count energy : Nat) : Bool × Block := cmdBlock 1 (count + energy * 2 ^ 16)
/-- A MEASURE command. -/
def measureBlock (first count kind : Nat) : Bool × Block := cmdBlock 2 (first + count * 2 ^ 16 + kind * 2 ^ 32)

/-- Logical lane of port `h` on its link, and the lanes of the link. -/
def State.laneOf (s : State) (h : Nat) : Nat × Nat := let n := (linkPorts s.dict h).2; (h % n, n)

/-- A MARK goes out on every lane of the link of `h`, in the first gap between frames; its slot is `slot` (R186, R187). -/
def State.sendMark (s : State) (h slot : Nat) : State :=
  let at_ := s.htxFree h
  let q := ((s.port h).markSeq + 1) % 2 ^ 24
  let s := if s.now < at_ then s.waitAt h at_ else s
  (s.link h).foldl (fun s p => (s.setPort p { s.port p with markSeq := q, markAt := slot }).emit
    (.pier p at_ [markBlock (s.laneOf p).1 (s.laneOf p).2 q])) s

/-- 16,384 blocks of the lanes of the link of `h`, 0.1 ns (R186). -/
def State.markPeriod (s : State) (h : Nat) : Nat := 16384 * blockTime (linkRate s.dict h)

/-- The reserved fields of a control block are 0 (R175-R181). -/
def reservedOk (w : Block) : Bool :=
  let n := w.toNat
  match n % 256 with
  | 0x1E => bits n 55 8 == 0
  | 0x2D => bits n 55 40 == 0
  | 0x33 => bits n 39 37 == 0 && bits n 55 46 == 0
  | 0x4B => bits n 55 40 == 0
  | 0x55 => true
  | 0x66 => bits n 55 40 == 0
  | 0x78 => match bits n 15 8 with
    | 1 => bits n 55 38 == 0
    | 2 => bits n 55 50 == 0
    | _ => bits n 55 16 == 0
  | 0x87 => match bits n 11 8 with
    | 0 => true
    | 1 => bits n 55 48 == 0
    | 2 => bits n 55 52 == 0
    | 3 => bits n 55 50 == 0
    | 4 => bits n 55 32 == 0
    | _ => false
  | _ => false

/-- A received control block stands (R175). -/
def blockOk (w : Block) : Bool := checkOk w && reservedOk w

/-- A STAT block of a kind. -/
def isStat (kind : Nat) (w : Block) : Bool := blockOk w && w.toNat % 256 == 0x87 && bits w.toNat 11 8 == kind

/-- A bad control block is discarded and counted; at most one event per second per port (R175). -/
def State.discardBlock (s : State) (h : Nat) : State :=
  let s := s.inc (Obj.PortStatus.controlCheckErrors h)
  match (s.port h).checkAt with
  | some t => if s.now < t + 10 ^ 10 then s else (s.setPort h { s.port h with checkAt := some s.now }).ev Ev.controlCheckError [] (h / 4)
  | none => (s.setPort h { s.port h with checkAt := some s.now }).ev Ev.controlCheckError [] (h / 4)

/-- Hard in a STAT of another kind than LINE counts for the lines whose window it falls in (R181, R216). -/
def State.noteHard (s : State) (h kind : Nat) (w : Block) : State :=
  if kind = 0 ∨ !bit w.toNat 14 then s
  else
    let hd := s.head h
    let cut : Bool := decide (s.nat (Obj.HeadThermal.state h) < 2)
    s.setHead h { hd with lines := hd.lines.map (fun f =>
      if f.st = .strobed ∧ f.ts ≤ s.now ∧ s.now < f.ts + 40000 then { f with sawHard := true, cut := f.cut || cut } else f) }

/-- A STAT acts by `f` when it is good and of its kind; a bad block is discarded. A port that is off or out of service receives
nothing. -/
def State.onStat (s : State) (h kind : Nat) (w : Block) (f : State → State) : State :=
  if s.nHeads ≤ h ∨ s.portState h = 0 ∨ s.portState h = 6 then s
  else if isStat kind w then f (s.noteHard h kind w)
  else if blockOk w then s else s.discardBlock h

/-! ### Thermal state (R213) -/

/-- The head's thermal state becomes NoData as its port leaves UP. -/
def State.noData (s : State) (h : Nat) : State :=
  let was := s.nat (Obj.HeadThermal.state h)
  if was = 3 then s
  else (s.setHead h { s.head h with hardPending := was == 2 || (s.head h).hardPending }).setN (Obj.HeadThermal.state h) 3

/-! ### Attempts (R189, R190) -/

/-- The rate code and the fall-back bit of `Link` that an attempt of port `h` uses. -/
def State.attemptLink (s : State) (h : Nat) (fb : Bool) : Nat :=
  let p := h / 4
  if fb then 2 + s.nat (Obj.PierConfig.fallbackRate p) + 8 else s.nat (Obj.PierConfig.mainRate p)

/-- The path of the next attempt after `LineCode` (R190). -/
def State.forced (s : State) (h : Nat) (fb : Bool) : Bool :=
  match s.nat (Obj.PierConfig.lineCode (h / 4)) with | 1 => false | 2 => true | _ => fb

/-- An attempt falls due on every port of the link of `h`, on the main path or not, with `fails` main attempts failed. -/
def State.attemptDue (s : State) (h : Nat) (fb : Bool) (fails : Nat) : State :=
  (s.link h).foldl (fun s p => s.setPort p { s.port p with due := true, fallback := fb, fails := fails, downAt := none }) s

/-- An attempt starts on the link of `h` (R189 step 1): HTX leaves electrical idle. Entry to the fall-back path is reported. -/
def State.startAttempt (s : State) (h : Nat) : State :=
  let fb := s.forced h (s.port h).fallback
  let was := bit (s.nat (Obj.PortStatus.link h)) 3
  let code := s.attemptLink h fb
  let s := (s.link h).foldl (fun s p =>
    let s := s.setPort p { s.port p with due := false, fallback := fb, start := s.now, stageAt := s.now, markAt := s.now, locked := false
                                         rxLock := false, aligned := false, ident := [], claim := none, downAt := none }
    let s := ((s.setN (Obj.PortStatus.link p) code).inc (Obj.PortStatus.attempts p)).setN (Obj.PortStatus.stage p) 1
    (s.setPortState p 1).emit (.pier p s.now [idleBlock])) s
  let s := if s.bonded h then s.sendMark h s.now else s
  let s := if fb && !was then s.ev Ev.pierFallback [] (h / 4) else s
  s.refreshGeometry

/-- HSTB of head `h` is driven low where it is high (R197). -/
def State.dropStrobe (s : State) (h : Nat) : State :=
  if (s.head h).hstb then (s.setHead h { s.head h with hstb := false }).pin (.hstb h) false else s

/-- The lines of head `h` as its port leaves UP (R197, R202, R206): committed strobes are withdrawn as BLANK_LINK, frames sent ahead are
void, the thermal state is NoData and a measurement ends. -/
def State.linkLines (s : State) (h reason : Nat) : State :=
  let s := s.withdrawHead h (some 10) reason
  let s := ((s.head h).lines.filter (fun f => f.st = .waiting)).foldl (fun s f =>
    if f.frame = .sent then (s.cancelFrame h f reason).setLine h { f with frame := .window } else s) s
  let s := (s.dropStrobe h).noData h
  match (s.meas_ h).chunk with
  | some _ => s.setMeas h { s.meas_ h with chunk := none, got := 0 }
  | none => s

/-- The link of `h` enters DOWN and waits for `RetryInterval` (R190, R192): PierLinkDown for each port in use, NoCarrier for each
port that no head record uses. -/
def State.enterDown (s : State) (h : Nat) : State :=
  (s.link h).foldl (fun s p =>
    let up := s.portState p == 2
    let s := s.setPort p { s.port p with due := false, fails := 0, claim := none, downAt := some s.now }
    let s := s.setPortState p 3
    let s := if up then s.linkLines p 1 else s
    if inUse s.dict p then s.ev Ev.pierLinkDown [] (p / 4) else s.ev Ev.noCarrier [] (p / 4)) s

/-- The attempt in progress on the link of `h` fails in stages 1 to 6 (R190). -/
def State.failAttempt (s : State) (h : Nat) : State :=
  let x := s.port h
  if x.fallback then s.enterDown h
  else if x.fails + 1 < 3 then s.attemptDue h false (x.fails + 1)
  else if s.nat (Obj.PierConfig.lineCode (h / 4)) = 1 then s.enterDown h
  else s.attemptDue h true 0

/-! ### Loss (R193) -/

/-- An UP port, or a link that carries one, loses a lane for a cause counted in `key` (R193): every port of its link is DOWN from now; a new attempt is due with
the rate and code last used. -/
def State.linkLoss (s : State) (h : Nat) (key : Option Nat) (reason : Nat) : State :=
  if s.portState h ≠ 2 ∧ (!s.bonded h ∨ (s.link h).all (fun p => s.portState p != 2)) then s
  else
    let s := match key with | some k => s.inc k | none => s
    let s := (s.link h).foldl (fun s p =>
      let up := s.portState p == 2
      let s := s.setPortState p 3
      let s := s.setPort p { s.port p with claim := none }
      let s := s.linkLines p reason
      if up then s.ev Ev.pierLinkLoss [] (p / 4) else s) s
    s.attemptDue h (s.port h).fallback 0

/-! ### Ownership (R191) -/

/-- The epoch that the AZ9 claims: the reported one plus 1 while SOLO, the pair's epoch while ACTIVE; none in a STANDBY or FAILED. -/
def State.claimEpoch (s : State) (held : Nat) : Option Nat :=
  match s.nat Obj.DuplexStatus.role with
  | 0 => some (held + 1)
  | 1 => some (s.nat Obj.DuplexStatus.epoch)
  | _ => none

/-- Step 8 of bring-up with the carrier's report (R189, R191): the claim, or why none goes out. -/
def State.claim (s : State) (h held : Nat) : State :=
  if held = 0xFFFFFFFF then (s.setPortState h 4).ev Ev.epochExhausted [] (h / 4)
  else match s.claimEpoch held with
    | none => s
    | some e =>
      (s.setPort h { s.port h with claim := some e }).sendCtrl h (ownBlock e)

/-- How far a LastLine of 24 bits stands from a line: 0 or less where the carrier has fired the line or a later one. -/
def lineGap (line : Int) (last : Nat) : Int := sext 24 (line - last)

/-- The lines that the carrier of head `h` has reported fired and that no tail entry holds enter the record as FIRED (R490), with the energy
and drops that this part would itself have sent. -/
def State.firedByPeer (s : State) (h : Nat) : State :=
  match (s.head h).lastStat with
  | none => s
  | some last =>
    ((s.head h).lines.filter (fun (f : FireLine) => f.st == FireState.waiting && decide (lineGap f.line last ≤ 0))).foldl (fun (s : State) (f : FireLine) =>
      let s := s.dropLine h f.line
      let drops := match f.codes with | some c => (c.filter (· ≠ 0)).length | none => 0
      s.record h { line := f.line, outcome := 0, flags := 0, energy := s.nat (Obj.HeadFiring.baseEnergy h), drops := drops
                   stamp := s.stamp .field, final := true }) s

/-- The carrier reports this port as owner: the port is UP (R191). A CarrierId that differs from the one last seen makes a sweep due
(R220); lane adaptation falls due (R451); a takeover counts from here (R490). -/
def State.portUpNow (s : State) (h : Nat) : State :=
  let s := (s.setPortState h 2).setN (Obj.PortStatus.stage h) 8
  let id := s.nat (Obj.PortStatus.carrierId h)
  let fresh := (s.port h).seen != some id
  let s := s.setPort h { s.port h with fails := 0, downAt := none, seen := some id }
  let s := if fresh then s.setMeas h { s.meas_ h with due := true } else s
  let s := match (s.head h).take with | some 0 => (s.firedByPeer h).setHead h { (s.firedByPeer h).head h with take := some s.now } | _ => s
  s.calAuto 1 ((s.link h).headD h)

/-- Step 8 is in progress, or its claim was refused: a report of the carrier that names this port as owner makes it UP (R191). -/
def State.claims (s : State) (h : Nat) : Bool :=
  (s.port h).claim.isSome && ((s.portState h == 1 && s.nat (Obj.PortStatus.stage h) == 7 && !(s.port h).due) || s.portState h == 4)

end Sys2Proof.Machine
end

