-- ==== Sys2Proof/Machine/PowOps.lean ====
section
/-! DEFINITION. The entry of the field island into HOLD (R426, R428). -/

namespace Sys2Proof.Machine

/-- The answer to a CONTROL message (R385). -/
def State.controlResp (s : State) (tag op : Nat) (refused : Bool) : State :=
  s.toHost 0x4A (leBytes 4 tag ++ leBytes 1 op ++ leBytes 1 (if refused then 1 else 0) ++ leBytes 2 0)

/-- Entry to HOLD from RUN (R426): every enabled plane is disabled and recorded as pending. -/
def State.holdPlanes (s : State) : State :=
  let ks := s.enabled
  ks.foldl (fun s k => (s.disablePlane k).pendPlane k true) s

/-- The field island enters HOLD by itself (R428): `PowerRequest` becomes HOLD and the cause is recorded; from RUN the planes are
disabled. A transition under way to another state ends in HOLD. -/
def State.autoHold (s : State) (cause : Nat) : State :=
  if s.pow.state = 0 then
    let s := (s.holdPlanes.setPow { s.holdPlanes.pow with state := 1, held := none }).showNeed
    (s.setN Obj.PowerControl.powerRequest 1).setN Obj.PowerControl.holdCause cause
  else if s.pow.state = 1 ∧ s.pow.later.any (fun x => x.2.1 == Obj.PowerControl.powerRequest) then
    let gone := s.pow.later.filter (fun x => x.2.1 == Obj.PowerControl.powerRequest)
    let s := s.setPow { s.pow with later := s.pow.later.filter (fun x => x.2.1 != Obj.PowerControl.powerRequest), held := none }
    let s := gone.foldl (fun s x => s.controlResp x.1 2 true) (s.setF Obj.PowerControl.inTransition false)
    (s.setN Obj.PowerControl.powerRequest 1).setN Obj.PowerControl.holdCause cause
  else s

end Sys2Proof.Machine
end

