-- ==== Sys2Proof/Machine/DuxOps.lean ====
section
/-! DEFINITION. Operations of duplex (spec/21) that other units start: mirror records, the epochs, giving up and taking over. -/

namespace Sys2Proof.Machine

/-- The duplex unit replaced. -/
def State.setDux (s : State) (x : Dux) : State := { s with dux := x }

/-- The role. -/
def State.role (s : State) : Nat := s.nat Obj.DuplexStatus.role

/-- A message leaves on the Stay link: in every role but SOLO (R468, R472). -/
def State.stay (s : State) (typ : Nat) (body : Bytes) : State := s.emit (.stay typ body)

/-- Faulted piers (R194). -/
def State.faultedPiers (s : State) : Nat :=
  ((List.range 16).filter (fun p => decide (p < s.nPiers) && s.flag (Obj.PierConfig.faulted p))).length

/-- A STATUS with a role (R472). -/
def State.statusBody (s : State) (role : Nat) : Bytes :=
  leBytes 1 role ++ leBytes 1 (if s.flag Obj.DuplexStatus.synced then 1 else 0) ++ leBytes 1 (s.nat Obj.DuplexControl.pairSide)
    ++ leBytes 1 s.faultedPiers ++ leBytes 4 (s.dux.got.getD 0) ++ leBytes 4 (s.nat Obj.DuplexStatus.epoch) ++ leBytes 4 0

/-! ### Mirror records (R474-R478) -/

/-- A section: its kind, a reserved byte, its length (R476). -/
def section_ (kind : Nat) (b : Bytes) : Bytes := leBytes 1 kind ++ leBytes 1 0 ++ leBytes 2 b.length ++ b

/-- The Position section. -/
def State.positionSection (s : State) : Bytes :=
  let e := s.source
  let v : Int := if s.num (Obj.EncoderStatus.direction e) = 0 then s.num (Obj.EncoderStatus.speed e) else -(s.num (Obj.EncoderStatus.speed e))
  leBytes 6 (s.web.pos / 2 ^ 48) ++ leBytes 6 (s.web.posHwm / 2 ^ 48) ++ leBytes 4 v
    ++ ((List.range 4).map (fun k =>
      let p := s.plane k
      leBytes 1 k ++ leBytes 1 (((if s.flag (Obj.PlaneConfig.enable k) then 1 else 0) + (if s.uncertain then 2 else 0) : Nat) : Int) ++ leBytes 2 0
        ++ leBytes 12 p.acc ++ leBytes 12 p.hwm ++ leBytes 6 p.opened ++ leBytes 6 0)).flatten

/-- The Thermal section: each head in use. -/
def State.thermalSection (s : State) : Bytes :=
  (((List.range 64).filter (inUse s.dict)).map (fun (h : Nat) =>
    leBytes 1 h ++ leBytes 1 (s.nat (Obj.HeadThermal.state h)) ++ leBytes 2 (s.nat (Obj.HeadThermal.lastPulseCount h))
      ++ leBytes 4 (s.nat (Obj.HeadThermal.integrator h)))).flatten

/-- A health item on the wire (R476). -/
def MirrorItem.healthBytes (x : MirrorItem) : Bytes := x.val ++ (x.effect.map (leBytes 6)).flatten

/-- How many items of a list fit in `room` bytes, in order. -/
def fits : Nat → List Bytes → Nat
  | _, [] => 0
  | room, b :: r => if b.length ≤ room then 1 + fits (room - b.length) r else 0

/-- The records that have carried an item once record `n` carries it too: the run goes on from `n - 1`, or begins anew. -/
def carry (n : Nat) : Option (Nat × Nat) → Option (Nat × Nat)
  | some (a, b) => if (b + 1) % 2 ^ 32 = n then some (a, n) else some (n, n)
  | none => some (n, n)

/-- One mirror record leaves (R474-R478): Position and Thermal in full; Tail, Health and Journal fill the rest of 8,192 bytes. The
records that carry an item are noted. -/
def State.sendMirror (s : State) (final : Bool) : State :=
  let d := s.dux
  let n : Nat := (d.cycle + 1) % 2 ^ 32
  let pos := section_ 1 s.positionSection
  let th := section_ 3 s.thermalSection
  let room := 8192 - 36 - 12 - pos.length - th.length
  let tb := d.tail.map (·.1); let nt := fits room tb
  let room := room - (tb.take nt).flatten.length
  let hb := d.health.map MirrorItem.healthBytes; let nh := if nt < tb.length then 0 else fits room hb
  let room := room - (hb.take nh).flatten.length
  let jb := d.journal.map MirrorItem.bytes; let nj := if nh < hb.length then 0 else fits room jb
  let secs := pos ++ th ++ section_ 2 (tb.take nt).flatten ++ section_ 5 (hb.take nh).flatten ++ section_ 4 (jb.take nj).flatten
  let flags := (if d.snapshot then 1 else 0) + (if final then 2 else 0)
  let body : Bytes := leBytes 4 0x524D5A41 ++ leBytes 4 n ++ leBytes 4 (s.nat Obj.DuplexStatus.epoch) ++ leBytes 1 ((flags : Nat) : Int) ++ leBytes 1 5
    ++ leBytes 2 ((32 + secs.length + 4 : Nat) : Int) ++ leBytes 6 (s.num (Obj.EncoderStatus.count s.source)) ++ leBytes 2 0
    ++ leBytes 4 (s.stamp .field) ++ leBytes 4 ((s.backlog : Nat) : Int) ++ secs
  let mark := fun (m : Nat) (l : List MirrorItem) => (l.take m).map (fun x => { x with sent := carry n x.sent }) ++ l.drop m
  let d' := { d with cycle := n, tail := (d.tail.take nt).map (fun x => (x.1, carry n x.2)) ++ d.tail.drop nt
                     health := mark nh d.health, journal := mark nj d.journal }
  (s.setDux d').stay 0x01 (body ++ leBytes 4 (crc32 body))

/-- A record that carried an item has been acknowledged (R478). -/
def acked (n : Nat) : Option (Nat × Nat) → Bool
  | some (a, b) => decide (0 ≤ sext 32 ((n : Int) - a)) && decide (sext 32 ((n : Int) - b) ≤ 0)
  | none => false

/-- Items that a STATUS acknowledges leave (R478); a snapshot whose last item has left ends. -/
def State.ackMirror (s : State) (a : Nat) : State :=
  let d := s.dux
  let d := { d with tail := d.tail.filter (fun x => !acked a x.2), health := d.health.filter (fun x => !acked a x.sent)
                    journal := d.journal.filter (fun x => !acked a x.sent) }
  s.setDux { d with snapshot := d.snapshot && !(d.journal.isEmpty && d.health.isEmpty) }

/-! ### Giving up (R487, R488) -/

/-- Every line in flight of head `h` that no strobe will fire is BLANK_SWITCH (R488): committed strobes that can be withdrawn, and lines
not yet resolved. -/
def State.switchLines (s : State) (h reason : Nat) : State :=
  let s := s.withdrawHead h (some 7) reason
  ((s.head h).lines.filter (fun f => f.st = .waiting)).foldl (fun s f =>
    s.resolve h f (match f.hold with | some p => worse p 7 | none => 7) reason) s

/-- Role after a cause of R487. -/
def roleAfter (cause : Nat) : Nat := if cause = 3 ∨ cause = 7 ∨ cause = 8 then 2 else 3

/-- A FAILED part enters HOLD with `HoldCause` 6 (R488). -/
def State.becomeFailed (s : State) : State := (s.setN Obj.DuplexStatus.role 3).autoHold 6

/-- The ACTIVE relinquishes (R488): its lines, their frames ended for the loss of ownership where that is the cause (R206), RELINQUISH, the final record, then its role. -/
def State.relinquish (s : State) (cause : Nat) : State :=
  let s := ((s.setN Obj.DuplexStatus.lastCause cause).ev Ev.relinquished [cause])
  let s := ((List.range 64).filter (inUse s.dict)).foldl (fun s h => s.switchLines h (if cause = 8 then 2 else 1)) s
  let s := s.stay 0x02 (leBytes 1 cause ++ leBytes 3 0 ++ leBytes 4 (s.nat Obj.DuplexStatus.epoch) ++ leBytes 4 (((s.dux.cycle + 1) % 2 ^ 32 : Nat) : Int))
  let s := s.sendMirror true
  let s := (s.setF Obj.DuplexStatus.synced false).setDux { s.dux with
    snapshot := false, got := none, dAdopted := none, dRun := 0, snapDone := false, relinquished := false, statusAt := none }
  if roleAfter cause = 3 then s.becomeFailed else s.setN Obj.DuplexStatus.role 2

/-- A cause of R487 strikes: an ACTIVE part relinquishes; a STANDBY becomes FAILED for causes 1, 2, 4 and 5. -/
def State.giveUp (s : State) (cause : Nat) : State :=
  match s.role with
  | 1 => s.relinquish cause
  | 2 => if cause = 1 ∨ cause = 2 ∨ cause = 4 ∨ cause = 5 then (s.setN Obj.DuplexStatus.lastCause cause).becomeFailed else s
  | _ => s

/-- Cause 3 of R487 holds: more piers are faulted at once than `FaultedPierLimit`. -/
def State.piersFail (s : State) : Bool := s.role == 1 && decide (s.nat Obj.DuplexControl.faultedPierLimit < s.faultedPiers)

/-- Its other conditions: the peer is Synced and reports fewer faulted piers. -/
def State.peerFitter (s : State) : Bool := s.flag Obj.DuplexStatus.peerSynced && decide (s.dux.peerFaulted < s.faultedPiers)

/-- Cause 3 of R487, judged as a port is lost. -/
def State.judgePiers (s : State) : State :=
  if s.piersFail then (if s.peerFitter then s.relinquish 3 else s.ev Ev.pierFaultsNoStandby) else s

/-! ### Epochs and taking over (R484, R489, R490) -/

/-- The least value greater than `m` whose bit 0 is `side`. -/
def nextEpoch (m side : Nat) : Nat := if (m + 1) % 2 = side then m + 1 else m + 2

/-- Ports whose carrier has completed step 7. -/
def State.claimable (s : State) : List Nat :=
  (List.range 64).filter (fun h => decide (h < s.nHeads) && decide (7 ≤ s.nat (Obj.PortStatus.stage h))
    && (s.portState h == 1 || s.portState h == 2 || s.portState h == 4))

/-- A head that the part takes over: the lines that its carrier has reported fired are FIRED, and the rest of the gap will be
BLANK_SWITCH (R490). -/
def State.takeLines (s : State) (h : Nat) : State :=
  let s := s.firedByPeer h
  s.setHead h { s.head h with take := some (if s.portUp h then s.now else 0), quiet := 0 }

/-- The part becomes ACTIVE with a new epoch (R484): OWN goes to every carrier that has completed step 7. Where no epoch fits, it stays
STANDBY. `takes` marks a takeover (R489, R490). -/
def State.becomeActive (s : State) (takes : Bool) : State :=
  let m := max s.dux.maxEpoch (max s.dux.peerEpoch (s.nat Obj.DuplexStatus.epoch))
  let e := nextEpoch m (s.nat Obj.DuplexControl.pairSide)
  if e ≥ 2 ^ 32 then s.ev Ev.epochExhausted
  else
    let s := ((s.setN Obj.DuplexStatus.epoch e).setN Obj.DuplexStatus.role 1).setF Obj.DuplexStatus.synced false
    let s := s.setDux { s.dux with takeAt := if takes then some s.now else none, snapshot := false, tail := [], journal := [], health := []
                                   peerSolo := false }
    let s := if takes then (s.inc Obj.DuplexStatus.switchovers).ev Ev.tookOver [e] else s
    let s := s.claimable.foldl (fun s h => (s.setPort h { s.port h with claim := some e }).sendCtrl h (ownBlock e)) s
    if takes then ((List.range 64).filter (inUse s.dict)).foldl (fun s h => s.takeLines h) s else s

/-- The carrier of an UP port reports another owner, or none (R193, R486). -/
def State.ownershipLost (s : State) (h owner : Nat) : State :=
  let s := if s.role = 1 ∧ owner = 2 then s.relinquish 8 else s
  (s.linkLoss h none 2).judgePiers

end Sys2Proof.Machine
end

