-- ==== Sys2Proof/Machine/Web.lean ====
section
/-! DEFINITION. The commands of the web position unit (spec/02). -/

namespace Sys2Proof.Machine

/-- `ENCODER_EDGE` (R43): new levels on the inputs of encoder `e`. -/
def execEncoderEdge (t e : Nat) (la lb lz : Bool) (s : State) : Host.Outcome State Fault Refusal :=
  fieldCmd t s (fun s => if e < 2 then s.inputEdge e la lb lz else s)

/-- `STANDSTILL` (R59): no accepted edge for `StandstillTimeout`. -/
def execStandstill (t e : Nat) (s : State) : Host.Outcome State Fault Refusal :=
  fieldCmd t s (fun s =>
    match (s.enc e).last with
    | none => s
    | some l =>
      if e < 2 ∧ !bit (s.nat (Obj.EncoderStatus.flags e)) 0 ∧ l + 1000000 * s.nat Obj.PositionCertainty.standstillTimeout ≤ s.ns then
        let s := ((s.setEnc e { s.enc e with hist := [], since := 0 }).setSpeed e 0 1).encFlag e 0 true
        if e = s.source then ((s.setWeb { s.web with lineVN := 0, lineVD := 1 }).ev Ev.standstill).overspeed else s
      else s)

/-- `PREDICTION_LIMIT` (R72): the estimate has run 2 counts beyond the last accepted edge. -/
def execPredictionLimit (t : Nat) (s : State) : Host.Outcome State Fault Refusal :=
  fieldCmd t s (fun s =>
    if s.web.lineVN ≠ 0 ∧ s.pastLimit then
      s.setWeb { s.web with limited := true }
    else s)

/-- A refresh tick falls now (R56): `RefreshPeriod` after the last one, or at once where there was none since `Enable`. -/
def State.spsDue (s : State) : Bool :=
  match s.web.spsTick with | some r => decide (r + 1000 * s.nat Obj.SpsConfig.refreshPeriod ≤ s.ns) | none => true

/-- The grid of the refresh ticks moves on to the tick that falls now. -/
def State.tickSps (s : State) : State :=
  let p := 1000 * s.nat Obj.SpsConfig.refreshPeriod
  s.setWeb { s.web with spsTick := some (match s.web.spsTick with | some r => r + (s.ns - r) / p * p | none => s.ns) }

/-- `SPS_REQUEST` (R56): a refresh tick. -/
def execSpsRequest (t : Nat) (s : State) : Host.Outcome State Fault Refusal :=
  fieldCmd t s (fun s =>
    if !s.flag Obj.SpsConfig.enable || !s.spsDue then s
    else
      let s := s.tickSps
      let early : Bool := match s.web.spsEnd with | some e => decide (s.ns < e + 1000) | none => false
      if early ∨ s.web.spsReq.isSome then s.inc Obj.SpsStatus.skippedRequests
      else (s.setWeb { s.web with spsReq := some (s.ns, s.web.net) }).pin .spsClk false)

/-- `SPS_WORD` (R54-R57): a word and its CRC as received. -/
def execSpsWord (t word crc : Nat) (s : State) : Host.Outcome State Fault Refusal :=
  fieldCmd t s (fun s =>
    match s.web.spsReq with
    | none => s
    | some (_, sample) =>
      let wb := s.nat Obj.SpsConfig.wordBits; let cb := s.nat Obj.SpsConfig.crcBits
      let w := word % 2 ^ wb
      let c := spsCrc cb (s.nat Obj.SpsConfig.crcPoly) w wb (s.nat Obj.SpsConfig.crcInit)
      let c := if s.flag Obj.SpsConfig.crcInvert then 2 ^ cb - 1 - c else c
      let eb := s.nat Obj.SpsConfig.errorBitPos
      let s := s.setWeb { s.web with spsEnd := some s.ns }
      if c ≠ crc then s.badWord Obj.SpsStatus.crcErrors
      else if eb ≠ 0xFF ∧ bit w eb = s.flag Obj.SpsConfig.errorActive then s.badWord Obj.SpsStatus.errorBitWords
      else s.goodWord (w / 2 ^ (wb - s.nat Obj.SpsConfig.positionBits)) sample)

/-- `SPS_WORD_TIMEOUT` (R56): no start bit within `WordTimeout` of the request. -/
def execSpsWordTimeout (t : Nat) (s : State) : Host.Outcome State Fault Refusal :=
  fieldCmd t s (fun s =>
    match s.web.spsReq with
    | some (r, _) => if r + 100 * s.nat Obj.SpsConfig.wordTimeout ≤ s.ns then s.badWord Obj.SpsStatus.timeouts else s
    | none => s)

/-! ### Writes -/

/-- A write of `CounterPreset` (R48, R76). -/
def wrCounterPreset (e : Nat) (x : Val) (s : State) : State × Nat :=
  guard (!s.anyPlane) 0x03010001 (fun s =>
    let s := (s.setCount e x.int).setEnc e { s.enc e with idxR := none }
    if e = s.source then s.setPosition x.int else s) s

/-- A write of `LoadFromSps` (R57). -/
def wrLoadFromSps (s : State) : State × Nat :=
  guard (!s.anyPlane) 0x03010001 (fun s => s.setWeb { s.web with spsLoad := true }) s

/-- A write of `IndexArm` (R50, R52, R540). -/
def wrIndexArm (e : Nat) (s : State) : State × Nat :=
  let x := s.enc e
  let s := s.setEnc e { x with idxArm := true, idxR := none, idxStuck := false, zWait := x.zWait || x.idxStuck }
  ((s.encFlag e 3 false).armedFlag e, 0)

/-- A write of `UncertainClear` (R66). -/
def wrUncertainClear (s : State) : State × Nat :=
  let calm := (List.range 2).all (fun e => !s.encInUse e || s.calm e)
  guard (calm && !s.disagrees && !s.web.disagree) 0x03010002 (fun s =>
    (s.setN Obj.PositionCertainty.positionState 0).setN Obj.PositionCertainty.uncertainCause 0) s

/-- A write of `LineLoad` of plane `k` (R69). -/
def wrLineLoad (k : Nat) (x : Val) (s : State) : State × Nat :=
  guard (!s.flag (Obj.PlaneConfig.enable k)) 0x03010001 (fun s =>
    ((s.setPlane k { s.plane k with acc := x.int * 2 ^ 48 }).setN (Obj.LineGenerator.planeLine k) x.int).setN
      (Obj.LineGenerator.phase k) 0) s

/-- A write of `PrimarySource` (R64, R75, R76): it must differ from the check source; scaled counting ends and the position is the
new primary's counter. -/
def wrPrimarySource (x : Val) (s : State) : State × Nat :=
  if s.nat Obj.WebSource.checkSource = x.nat + 1 then (s, 0x02010001)
  else guard (!s.anyPlane) 0x03010001 (fun s =>
    let e := x.nat
    let s := s.setN Obj.WebSource.primarySource x.int
    let n := s.enc e
    let s := s.setWeb { s.web with scaled := none, lineT := n.last.getD 0, lineVN := n.vN, lineVD := n.vD
                                   lineFwd := s.num (Obj.EncoderStatus.direction e) == 0, limited := false }
    (s.checkReference).setPosition (s.num (Obj.EncoderStatus.count e))) s

/-- `COUNTER_PRESET` (R48). -/
def execCounterPreset (t : Nat) (a : Caller) (e : Nat) (v : Bytes) (s : State) : Host.Outcome State Fault Refusal :=
  access t s (fun s => s.write a (Obj.EncoderConfig.counterPreset e) v (wrCounterPreset e))

/-- `LOAD_FROM_SPS` (R57). -/
def execLoadFromSps (t : Nat) (a : Caller) (v : Bytes) (s : State) : Host.Outcome State Fault Refusal :=
  access t s (fun s => s.write a Obj.SpsConfig.loadFromSps v (fun _ => wrLoadFromSps))

/-- `INDEX_ARM` (R540). -/
def execIndexArm (t : Nat) (a : Caller) (e : Nat) (v : Bytes) (s : State) : Host.Outcome State Fault Refusal :=
  access t s (fun s => s.write a (Obj.EncoderConfig.indexArm e) v (fun _ => wrIndexArm e))

/-- `CHECK_RESET` (R63). -/
def execCheckReset (t : Nat) (a : Caller) (v : Bytes) (s : State) : Host.Outcome State Fault Refusal :=
  access t s (fun s => s.write a Obj.WebSource.checkReset v (fun _ s => (s.checkReference, 0)))

/-- `UNCERTAIN_CLEAR` (R66). -/
def execUncertainClear (t : Nat) (a : Caller) (v : Bytes) (s : State) : Host.Outcome State Fault Refusal :=
  access t s (fun s => s.write a Obj.PositionCertainty.uncertainClear v (fun _ => wrUncertainClear))

/-- `LINE_LOAD` (R69). -/
def execLineLoad (t : Nat) (a : Caller) (k : Nat) (v : Bytes) (s : State) : Host.Outcome State Fault Refusal :=
  access t s (fun s => s.write a (Obj.LineGenerator.lineLoad k) v (wrLineLoad k))

/-- `PRIMARY_SOURCE_WRITE` (R76). -/
def execPrimarySourceWrite (t : Nat) (a : Caller) (v : Bytes) (s : State) : Host.Outcome State Fault Refusal :=
  access t s (fun s => s.write a Obj.WebSource.primarySource v wrPrimarySource)

end Sys2Proof.Machine
end

