-- ==== Sys2Proof/Machine/Schedule.lean ====
section
/-! DEFINITION. The commands of the position schedule and of line-synchronous objects (spec/03). -/

namespace Sys2Proof.Machine

/-! ### Insertion (R86-R93) -/

/-- The entries that a DOMAIN of 16-byte entries spells, with whether each one's reserved bits are 0. -/
def parseEntries : Nat → Nat → Bytes → List (SchedEntry × Bool)
  | 0, _, _ => []
  | n + 1, seq, b => parseEntry (b.take 16) seq :: parseEntries n (seq + 1) (b.drop 16)

/-- An inserted entry is late (R92, R93). -/
def State.entryLate (s : State) (e : SchedEntry) : Bool :=
  if !e.lineKey then decide (gap e.key 0 s.web.posHwm ≤ 0)
  else if !s.flag (Obj.PlaneConfig.enable e.plane) then false
  else if e.lineSpace then decide (gap e.key 0 ((s.plane e.plane).opened * 2 ^ 48) ≤ 0)
  else decide (gap e.key e.phase (s.plane e.plane).hwm ≤ 0)

/-- A write of `ScheduleInsert` (R88, R92): its late entries execute once all are in, in the order in which R88 inserts them (log entry
18). -/
def wrScheduleInsert (x : Val) (s : State) : State × Nat :=
  let b := x.byt
  let n := b.length / 16
  let l := parseEntries n s.sched.nextSeq b
  let c := (l.map (fun p => s.entryAbort p.1 p.2)).find? (· ≠ 0)
  match c with
  | some c => (s, c)
  | none =>
    if s.sched.table.length + n > 2048 then (s, 0x06010001)
    else
      let es := l.map (·.1)
      let s := (s.setSched { s.sched with nextSeq := s.sched.nextSeq + n }).setTable (s.sched.table ++ es)
      let late := es.filter s.entryLate
      let s := late.foldl (fun s e => if e.lineSpace then s.lateLineEntry e else s.instantEntry e true) s
      (s.each ((List.range 4).filter (fun k => es.any (fun e => e.plane == k && e.action == 1))) (fun s k => s.countWaiting k), 0)

/-- `SCHEDULE_INSERT` (R88). -/
def execScheduleInsert (t : Nat) (a : Caller) (v : Bytes) (s : State) : Host.Outcome State Fault Refusal :=
  access t s (fun s => s.write a Obj.scheduleInsert v wrScheduleInsert)

/-! ### Cancellation (R98) -/

/-- Removes the armed entries that `p` names and counts them; every entry of the table is unbound. -/
def State.cancel (s : State) (p : SchedEntry → Bool) : State :=
  let n := (s.sched.table.filter p).length
  (s.setTable (s.sched.table.filter (fun e => !p e))).setN Obj.ScheduleCancel.lastCancelled n

/-- `CANCEL_TAG` (R98). -/
def execCancelTag (t : Nat) (a : Caller) (v : Bytes) (s : State) : Host.Outcome State Fault Refusal :=
  access t s (fun s => s.write a Obj.ScheduleCancel.cancelTag v (fun x s => (s.cancel (fun e => e.tag == x.nat), 0)))

/-- `CANCEL_ALL` (R98). -/
def execCancelAll (t : Nat) (a : Caller) (v : Bytes) (s : State) : Host.Outcome State Fault Refusal :=
  access t s (fun s => s.write a Obj.ScheduleCancel.cancelAll v (fun _ s => (s.cancel (fun _ => true), 0)))

/-! ### Line-synchronous writes (R99, R112, R113) -/

/-- The value that an RWL object will have at its effective line: the latest pending write, else the value in force. -/
def State.coming (s : State) (key : Nat) : Int :=
  ((s.sched.rwl.filter (fun w => w.key == key)).getLast?.map (·.val)).getD (s.num key)

/-- The offsets that `PlanePhase` is checked against: in force and, where staged, staged (R112). -/
def State.phasesOf (s : State) (h : Nat) : List Int :=
  let key := Obj.HeadRecord.offsetPhase h
  s.num key :: (s.groups.staged.flatMap (fun p => (p.2.filter (fun e => e.1 == key)).map (fun e => e.2.int)))

/-- A write of `PlanePhase` of plane `k` within R112 and R113. -/
def State.planePhaseOk (s : State) (k : Nat) (v : Int) : Bool :=
  (planeHeads s.dict k).all (fun h => (s.phasesOf h).all (fun p =>
    let o := 1024 * s.num (Obj.HeadRecord.offsetLines h) + p + v
    decide (0 ≤ o ∧ o ≤ 16384 * 1024)))
  && (!s.flag (Obj.PlaneConfig.enable k) || decide ((v - s.coming (Obj.PlaneConfig.planePhase k)).natAbs ≤ 256))

/-- The plane whose `PlanePhase` a key is. -/
def planePhaseOf (key : Nat) : Option Nat := (List.range 4).find? (fun k => key == Obj.PlaneConfig.planePhase k)

/-- A write to an RWL object (R99): at once while its plane is disabled, in place of a write that still waits, or where it governs no plane,
as for a head that no plane uses; otherwise pending for the first unopened line, in place of an earlier pending write. `LastRwlLine`
then names the first unopened line in either case (log entry 143). -/
def wrRwl (key : Nat) (x : Val) (s : State) : State × Nat :=
  let bad := match planePhaseOf key with | some k => !s.planePhaseOk k x.int | none => false
  if bad then (s, 0x02010001)
  else match boundPlane s.dict key with
  | none => ((s.setVal key x).refreshGeometry.headStates, 0)
  | some k =>
    if (match within 0x4100 64 (key / 256) with | some h => !inUse s.dict h | none => false) then
      ((s.setVal key x).refreshGeometry.headStates, 0)
    else
    let L := s.unopened k
    let s := s.setN (Obj.PlaneSchedule.lastRwlLine k) (sext 48 L)
    if !s.flag (Obj.PlaneConfig.enable k) then
      let s := (s.setSched { s.sched with rwl := s.sched.rwl.filter (fun w => w.key != key) }).rwlCount k
      (((if s.num key = x.int then s else s.axisEffect key L).setVal key x).refreshGeometry.headStates, 0)
    else
      let l := s.sched.rwl.filter (fun w => w.key != key) ++ [{ plane := k, line := L, key := key, val := x.int }]
      ((s.setSched { s.sched with rwl := l }).rwlCount k, 0)

/-- `RWL_WRITE` (R99). -/
def execRwlWrite (t : Nat) (a : Caller) (ix sub ty : Nat) (v : Bytes) (s : State) : Host.Outcome State Fault Refusal :=
  if vendorAccess a.role ix then .refused .vendorObject
  else access t s (fun s =>
    let key := ix * 256 + sub
    match s.permit a.role key true, descOf key with
    | 0, some d =>
      if d.acc ≠ .rwl then s
      else if d.ty.code ≠ ty then s.answer a.sess 0x02020001
      else s.write a key v (wrRwl key)
    | c, _ => s.answer a.sess c)

/-! ### Camera triggers (R82, R96, R97) -/

/-- The prediction of a CameraTrigger entry's key (R71, R82). -/
def State.predictKey (s : State) (e : SchedEntry) : Option Nat :=
  if !e.lineKey then
    let q := match s.web.scaled with | some c => c.ratio | none => 2 ^ 48
    s.predictAt q 0 (s.ahead e)
  else if s.flag (Obj.PlaneConfig.enable e.plane) then s.predictAt (s.plane e.plane).q 0 (s.ahead e) else none

/-- `CAMERA_TRIGGER_COMMIT` (R82, R90): the armed CameraTrigger `seq` is committed once its prediction lies 2 µs or less ahead, and placed
at the later of the prediction and 2 µs from now; the entries of one predicted instant execute together, in order. -/
def execCameraTriggerCommit (t seq : Nat) (s : State) : Host.Outcome State Fault Refusal :=
  fieldCmd t s (fun s =>
    match s.sched.table.find? (fun e => e.seq == seq && e.action == 3) with
    | none => s
    | some e => match s.predictKey e with
      | none => s
      | some p =>
        if p > s.now + 20000 then s
        else
          let due := max p (s.now + 20000)
          (s.inOrder (s.sched.table.filter (fun x => x.action == 3 && s.predictKey x == some p))).foldl (fun s x =>
            ((s.takeEntry x).addTriggers x due (decide (due > p)) false).finishEntry x false (s.triggerOutcome x)) s)

end Sys2Proof.Machine
end

