-- ==== Sys2Proof/Machine/Planes.lean ====
section
/-! DEFINITION. The commands that enable, disable and check planes (spec/04), and the writes that wait for a DVFS transition (R422). -/

namespace Sys2Proof.Machine

/-! ### Writes that raise the need (R422) -/

/-- A write that brings the need to `mhz` takes effect by `f`, or waits for the transition that the need calls for. -/
def State.whenFast (s : State) (sess key : Nat) (x : Val) (mhz : Nat) (f : State → State × Nat) : State × Nat :=
  let (s', wait) := s.raiseNeed mhz
  if wait then (s'.setPow { s'.pow with later := s'.pow.later ++ [(sess, key, x)] }, answerLater)
  else ((f s').1.showNeed, (f s').2)

/-! ### Effects -/

/-- A write of `Enable` of plane `k` (R69, R84, R118, R134, R422, R426). -/
def wrEnable (sess k : Nat) (x : Val) (s : State) : State × Nat :=
  if x.int = 0 then (((s.pendPlane k false).disablePlane k).showNeed, 0)
  else if s.flag (Obj.PlaneConfig.enable k) then (s, 0)
  else
    let (a, s) := s.enableAbort k
    if a ≠ 0 then (s, a)
    else if s.pow.state ≠ 0 then (s.pendPlane k true, 0)
    else
      let need := max (s.planeNeed (k :: s.enabled)) s.needNow.2
      s.whenFast sess (Obj.PlaneConfig.enable k) x need (fun s => ((s.enablePlane k).overspeed, 0))

/-- A write of `CheckPlane`: the geometry check on current and staged values (R118). -/
def wrCheckPlane (x : Val) (s : State) : State × Nat :=
  let d := s.groups.staged.foldl (fun d g => overlay d g.2) s.dict
  let (r, h) := geometryCheck d s.exts x.nat
  (((s.setN Obj.PlaneCheck.faultReason r).setN Obj.PlaneCheck.faultPlane x.int).setN Obj.PlaneCheck.faultHead h, 0)

/-! ### Commands -/

/-- `PLANE_ENABLE` (R118). -/
def execPlaneEnable (t : Nat) (a : Caller) (k : Nat) (v : Bytes) (s : State) : Host.Outcome State Fault Refusal :=
  access t s (fun s => s.writeKeep a (Obj.PlaneConfig.enable k) v (wrEnable a.sess k))

/-- `PLANE_DISABLE` (R134). -/
def execPlaneDisable (t : Nat) (a : Caller) (k : Nat) (v : Bytes) (s : State) : Host.Outcome State Fault Refusal :=
  access t s (fun s => s.writeKeep a (Obj.PlaneConfig.enable k) v (wrEnable a.sess k))

/-- `CHECK_PLANE` (R118). -/
def execCheckPlane (t : Nat) (a : Caller) (v : Bytes) (s : State) : Host.Outcome State Fault Refusal :=
  access t s (fun s => s.write a Obj.PlaneCheck.checkPlane v wrCheckPlane)

end Sys2Proof.Machine
end

