-- ==== Sys2Proof/Machine/SpanOps.lean ====
section
/-! DEFINITION. Operations of the Span that its messages share (spec/16): receivers, and the taking of a waiting message. -/

namespace Sys2Proof.Machine

/-- The receiver of class `c` of the host-to-field direction. -/
def State.rxF (s : State) (c : Nat) : CellRx := smGet (fun _ => CellRx.init) s.span.rx c
/-- The same, replaced. -/
def State.setRxF (s : State) (c : Nat) (x : CellRx) : State :=
  { s with span := { s.span with rx := smSet (fun _ => CellRx.init) s.span.rx c x } }
/-- The list without the first element equal to `x`. -/
def dropFirst {α : Type} [DecidableEq α] (x : α) : List α → List α
  | [] => []
  | y :: r => if y = x then r else y :: dropFirst x r

/-! ### The firewall (R387, R388) -/

/-- Least and greatest body of a message from the host island (R385); none for a type that it does not send. A DICT_REQ and a DEPOSIT carry at
most the body of an Ngalis message. -/
def hostBody : Nat → Option (Nat × Nat)
  | 0x01 => some (12, 12 + 65519)
  | 0x02 => some (8, 8 + 65519)
  | 0x03 => some (8, 8)
  | 0x04 => some (28, 28)
  | 0x05 => some (9, 8 + 32768)
  | 0x06 => some (8, 8)
  | 0x07 => some (8, 8 + 4096)
  | 0x08 => some (8, 8)
  | 0x09 => some (8, 8)
  | 0x0A => some (12, 12)
  | 0x81 => some (56, 56)
  | 0x82 => some (252, 252)
  | _ => none

/-- The same of a message from the field island. -/
def fieldBody : Nat → Option (Nat × Nat)
  | 0x41 => some (16, 16 + 65519)
  | 0x42 => some (28, 28)
  | 0x43 => some (36, 4 + 32 * 32)
  | 0x44 => some (24, 4 + 65519)
  | 0x45 => some (12, 12)
  | 0x46 => some (8, 8)
  | 0x47 => some (8, 8 + 4096)
  | 0x48 => some (8, 8)
  | 0x49 => some (20, 20)
  | 0x4A => some (8, 8)
  | 0x81 => some (56, 56)
  | 0x82 => some (252, 252)
  | _ => none

/-- Reasons 1 and 2 of R387. -/
def shapeReason (lim : Option (Nat × Nat)) (n : Nat) : Nat :=
  match lim with
  | none => 1
  | some (lo, hi) => if lo ≤ n ∧ n ≤ hi then 0 else 2

/-- The role that SESSION_NOTE gave an open session. -/
def State.notedRole (s : State) (i : Nat) : Option Nat := (s.span.noted.find? (fun x => x.1 == i)).map (fun x => x.2.1)

/-- A BOOT_REQ is outstanding for an image. -/
def State.bootAsked (s : State) (image : Nat) : Bool := s.span.bootReq.any (fun r => r.1 == image)

/-- The reason of R387 by which the field island discards a message; 0 where it passes. -/
def State.firewall (s : State) (typ : Nat) (b : Bytes) : Nat :=
  let r := shapeReason (hostBody typ) b.length
  if r ≠ 0 then r
  else match typ with
    | 0x01 =>
      match s.notedRole (fld b 0 2) with
      | none => 3
      | some role => if role < fld b 2 1 then 4 else if 4 ≤ fld b 3 1 ∧ fld b 3 1 ≤ 7 then 0 else 7
    | 0x02 => if (s.notedRole (fld b 0 2)).isNone then 3 else 0
    | 0x05 => if !s.bootAsked (fld b 0 1) ∨ 62 * 2 ^ 20 < fld b 4 4 + (b.length - 8) then 5 else if fld b 0 1 ≤ 1 then 0 else 7
    | 0x06 => if !s.bootAsked (fld b 0 1) then 5 else if fld b 0 1 ≤ 1 ∧ 1 ≤ fld b 1 1 ∧ fld b 1 1 ≤ 3 then 0 else 7
    | 0x07 => if s.nat Obj.Debug.level < fld b 0 1 then 6 else 0
    | 0x08 => if fld b 2 1 ≤ 2 then 0 else 7
    | 0x0A => if 1 ≤ fld b 0 1 ∧ fld b 0 1 ≤ 4 then 0 else 7
    | _ => 0

/-- A second has passed since an instant, or there was none. -/
def quiet (last : Option Nat) (now : Nat) : Bool := match last with | some a => decide (a + 10 ^ 10 ≤ now) | none => true

/-- The field island discards a message (R387): the reason's counter, and SpanFirewallDrop at most once a second. -/
def State.dropF (s : State) (reason typ : Nat) : State :=
  let s := s.inc (Obj.SpanFirewall.discards (reason - 1))
  if quiet s.span.fwAt s.now then { s with span := { s.span with fwAt := some s.now } }.ev Ev.spanFirewallDrop [reason, typ] else s

/-- The host island discards a message (R388). -/
def State.dropH (s : State) (reason typ : Nat) : State :=
  let s := s.inc Obj.SpanFirewall.hostDiscards
  if quiet s.span.fwHost s.now then { s with span := { s.span with fwHost := some s.now } }.hev Ev.spanFirewallDrop [reason, typ] else s

/-! ### Messages that take effect -/

/-- A message takes effect at the field island where the firewall passes it (R387): the first of its kind that waits is taken, and the loss
timeout restarts (R392). -/
def State.takeF (s : State) (typ : Nat) (body : Bytes) (f : State → State) : State :=
  let s := { s with span := { s.span with inF := dropFirst (typ, body) s.span.inF } }
  match s.firewall typ body with
  | 0 => f { s with span := { s.span with validF := s.now } }
  | r => s.dropF r typ

/-- The same at the host island (R388, R393): the Span is up from the first valid message on. -/
def State.takeH (s : State) (typ : Nat) (body : Bytes) (f : State → State) : State :=
  let s := { s with span := { s.span with inH := dropFirst (typ, body) s.span.inH } }
  match shapeReason (fieldBody typ) body.length with
  | 0 =>
    let s := { s with span := { s.span with validH := s.now } }
    f (if s.nat Obj.SpanControl.state = 0 then s.setN Obj.SpanControl.state 1 else s)
  | r => s.dropH r typ

end Sys2Proof.Machine
end

