-- ==== Sys2Proof/Machine/Pages.lean ====
section
/-! DEFINITION. The commands of the strip store and the page queues (spec/05). -/

namespace Sys2Proof.Machine

/-! ### Deposits (R127, R128) -/

/-- The DEPOSIT_ACK of a container (R385): session, status, deposit and the container's key. -/
def depositAck (sess id status : Nat) (c : Bytes) : Bytes :=
  leBytes 2 sess ++ leBytes 1 status ++ leBytes 1 ((fld c 5 1 % 4 : Nat) : Int) ++ leBytes 4 id ++ leBytes 4 (fld c 8 4) ++ leBytes 4 (fld c 12 4)
    ++ leBytes 6 (fld c 16 6) ++ leBytes 2 0 ++ leBytes 4 (fld c 28 4)

/-- The tile of a strip has opened, or its page has left the queue (R127, EXPIRED). -/
def State.expired (s : State) (x : Strip) : Bool :=
  match s.pageFor x with
  | some p => match p.start with
    | some S => decide (S + x.firstLine ≤ (s.plane x.plane).opened) && s.flag (Obj.PlaneConfig.enable x.plane)
    | none => false
  | none => s.strips.gone.contains (x.plane, x.job, x.page)

/-- A held strip that a new one of its key may not replace (R127, DUPLICATE). -/
def Strip.locked (x : Strip) : Bool :=
  match x.st with | .inflating _ => true | .verified _ => true | _ => false

/-- The status of a container that has ended with `c` (R127). -/
def State.depositStatus (s : State) (c : Bytes) : Nat :=
  let x := stripOf c
  let held := s.strips.held.find? (sameKey x)
  if !headerOk c || decide (c.length > 64 + fld c 44 4) then 2
  else if (planeHeads s.dict x.plane).isEmpty then 3
  else if (match held with | some y => y.locked | none => false) then 5
  else if s.expired x then 6
  else if s.num Obj.StripStore.storeFree < ((fld c 44 4 + 64 : Nat) : Int) then 4
  else if c.length < 64 + fld c 44 4 then 7
  else if held.isSome then 1 else 0

/-- A strip enters the store (R128): bound, an orphan, or discarded with StripMismatch. -/
def State.storeStrip (s : State) (x : Strip) : State :=
  let rest := s.strips.held.filter (fun y => !sameKey x y)
  match s.pageFor x with
  | none => s.setHeld (rest ++ [x])
  | some p => if p.matches x then s.setHeld (rest ++ [{ x with bound := true }])
              else (s.setHeld rest).mismatch x.plane

/-- A deposit ends with container `c` and the status `st` (R127): a refusal is counted, a full store raises StoreFull. -/
def State.endDeposit (s : State) (sess id : Nat) (c : Bytes) (st : Nat) : State :=
  let s := if st ≤ 1 then s.storeStrip (stripOf c) else s.inc Obj.StripStore.refused
  let s := if st = 4 then s.evPl Ev.storeFull (fld c 5 1 % 4) else s
  s.toHost 0x42 (depositAck sess id st c)

/-- A deposit whose container has arrived is answered (R127). -/
def State.deposit (s : State) (sess id : Nat) (c : Bytes) : State := s.endDeposit sess id c (s.depositStatus c)

/-- A deposit ends before its container has arrived (R127): the checks of the header answer first, TRUNCATED follows them. -/
def State.truncate (s : State) (sess id : Nat) (c : Bytes) : State :=
  let st := s.depositStatus c
  s.endDeposit sess id c (if st ≤ 1 then 7 else st)

/-- `DEPOSIT` (R127): the body of a DEPOSIT message reaches the deposit engine, which accepts none while the Span is lost (R392). -/
def execDeposit (t : Nat) (body : Bytes) (s : State) : Host.Outcome State Fault Refusal :=
  fieldCmd t s (fun s => s.takeF 0x02 body (fun s =>
    let c := body.drop 8
    if s.span.lostF then s.truncate (fld body 0 2) (fld body 4 4) c else s.deposit (fld body 0 2) (fld body 4 4) c))

/-- `DEPOSIT_ABORT` (R385): the deposit whose cells are under assembly ends TRUNCATED, and its message is given up. -/
def execDepositAbort (t : Nat) (body : Bytes) (s : State) : Host.Outcome State Fault Refusal :=
  fieldCmd t s (fun s => s.takeF 0x03 body (fun s =>
    let r := s.rxF 1
    match r.msg with
    | some (0x02, data, _) =>
      if fld data 4 4 = fld body 0 4 ∧ 8 ≤ data.length then
        (s.setRxF 1 { r with msg := none }).truncate (fld data 0 2) (fld data 4 4) (data.drop 8)
      else s
    | _ => s))

/-! ### Page queue writes (R130-R135, R141) -/

/-- A write of `PageAppend` of plane `k` (R128, R130, R131). -/
def wrPageAppend (sess k : Nat) (x : Val) (s : State) : State × Nat :=
  match s.parsePage k x.byt with
  | none => (s, 0x02010001)
  | some p =>
    if 1024 ≤ (s.plane k).pages.length then (s, 0x06010002)
    else
      let add := fun (s : State) =>
        let s := (s.setPages k ((s.plane k).pages ++ [p])).bindOrphans k p
        if s.flag (Obj.PlaneConfig.enable k) then (s.checkMissed k).countWaiting k else s
      let s' := s.setPages k ((s.plane k).pages ++ [p])
      let need := max (s'.planeNeed s'.enabled) s'.needNow.2
      if need > s.nat Obj.Dvfs.needMHz then s.whenFast sess (Obj.PageQueue.pageAppend k) x need (fun s => (add s, 0)) else (add s, 0)

/-- A write of `PageAbort` of plane `k` (R134): no effect without an active page; NOW also withholds the opened lines whose
strobes are not committed. -/
def wrPageAbort (k : Nat) (x : Val) (s : State) : State × Nat :=
  let (s', was) := s.abortPage k
  if !was then (s, 0)
  else if x.int = 2 then (((planeHeads s'.dict k).foldl (fun s h => s.holdWaiting h 8) s').showNeed, 0)
  else (s'.showNeed, 0)

/-- A write of `FlushJob` (R135): the queued pages of a job leave all four queues with their strips and orphans. -/
def wrFlushJob (x : Val) (s : State) : State × Nat :=
  let job := x.nat
  let s := s.each [0, 1, 2, 3] (fun s k =>
    let gone := (s.plane k).pages.filter (fun p => p.start.isNone && p.job == job)
    let was := headPage (s.plane k).pages
    if gone.isEmpty then s
    else
      let s := s.setPages k ((s.plane k).pages.filter (fun p => !(p.start.isNone && p.job == job)))
      let s := gone.foldl (fun s p => s.freePage k p) s
      let s := if was ∈ gone.map some then s.unchain k else s
      if s.flag (Obj.PlaneConfig.enable k) then s.checkMissed k else s)
  ((s.dropStrips (fun y => !y.bound && y.job == job)).showNeed, 0)

/-- A write of `FlushOrphans` (R128). -/
def wrFlushOrphans (s : State) : State × Nat := (s.dropStrips (fun x => !x.bound), 0)

/-- A write of `Resume` of plane `k` (R141): the hold ends and the head page starts as WAIT. -/
def wrResume (k : Nat) (s : State) : State × Nat :=
  if s.flag (Obj.PageQueue.held k) then
    ((s.setF (Obj.PageQueue.held k) false).setPages k (mapHead (fun q => { q with waits := true }) (s.plane k).pages), 0)
  else (s, 0)

/-- `PAGE_APPEND` (R130). -/
def execPageAppend (t : Nat) (a : Caller) (k : Nat) (v : Bytes) (s : State) : Host.Outcome State Fault Refusal :=
  access t s (fun s => s.write a (Obj.PageQueue.pageAppend k) v (wrPageAppend a.sess k))

/-- `PAGE_ABORT_AT_LINE` (R134). -/
def execPageAbortAtLine (t : Nat) (a : Caller) (k : Nat) (v : Bytes) (s : State) : Host.Outcome State Fault Refusal :=
  access t s (fun s => s.write a (Obj.PageQueue.pageAbort k) v (wrPageAbort k))

/-- `PAGE_ABORT_NOW` (R134). -/
def execPageAbortNow (t : Nat) (a : Caller) (k : Nat) (v : Bytes) (s : State) : Host.Outcome State Fault Refusal :=
  access t s (fun s => s.write a (Obj.PageQueue.pageAbort k) v (wrPageAbort k))

/-- `FLUSH_JOB` (R135). -/
def execFlushJob (t : Nat) (a : Caller) (v : Bytes) (s : State) : Host.Outcome State Fault Refusal :=
  access t s (fun s => s.write a Obj.StripStore.flushJob v wrFlushJob)

/-- `FLUSH_ORPHANS` (R128). -/
def execFlushOrphans (t : Nat) (a : Caller) (v : Bytes) (s : State) : Host.Outcome State Fault Refusal :=
  access t s (fun s => s.write a Obj.StripStore.flushOrphans v (fun _ s => wrFlushOrphans s))

/-- `PAGE_QUEUE_RESUME` (R141). -/
def execPageQueueResume (t : Nat) (a : Caller) (k : Nat) (v : Bytes) (s : State) : Host.Outcome State Fault Refusal :=
  access t s (fun s => s.write a (Obj.PageQueue.resume k) v (fun _ s => wrResume k s))

end Sys2Proof.Machine
end

