-- ==== Sys2Proof/Machine/Inflate.lean ====
section
/-! DEFINITION. Raw DEFLATE (RFC 1951, R126) and the commands of the inflate engines (spec/05). -/

namespace Sys2Proof.Machine

/-! ### Bits -/

/-- The bits of a byte, least significant first. -/
def byteBits (b : Byte) : List Bool := (List.range 8).map (fun i => b.getLsbD i)

/-- The bits of a stream in DEFLATE order. -/
def streamBits (b : Bytes) : List Bool := b.flatMap byteBits

/-- The number that bits spell, first bit least significant. -/
def bitsNat : List Bool → Nat
  | [] => 0
  | b :: r => b.toNat + 2 * bitsNat r

/-- The next `n` bits as a number, and the rest; none where the stream ends. -/
def takeBits (n : Nat) (l : List Bool) : Option (Nat × List Bool) :=
  if n ≤ l.length then some (bitsNat (l.take n), l.drop n) else none

/-! ### Canonical codes -/

/-- A canonical Huffman code: how many symbols have each length 1 to 15, and the symbols by length and value. -/
structure Huff where
  counts : List Nat
  syms : List Nat
  deriving DecidableEq, Repr

/-- The code of a list of code lengths. -/
def mkHuff (lens : List Nat) : Huff :=
  { counts := (List.range 15).map (fun i => (lens.filter (· == i + 1)).length)
    syms := (List.range 15).flatMap (fun i => (lens.zipIdx.filter (fun p => p.1 == i + 1)).map (·.2)) }

/-- Codes of a length that are left over after `counts`; none where more are used than exist. -/
def leftOver : List Nat → Int → Option Int
  | [], n => if n < 0 then none else some n
  | c :: r, n => let m := 2 * n - c
                 if m < 0 then none else leftOver r m

/-- Code lengths that spell a usable code (R138): complete, or empty, or a single code of length 1; the last two where `loose`
holds (a distance code). -/
def Huff.ok (h : Huff) (loose : Bool) : Bool :=
  match leftOver h.counts 1 with
  | none => false
  | some 0 => true
  | some _ => loose && decide (h.syms.length = 0 ∨ (h.syms.length = 1 ∧ h.counts.head? = some 1))

/-- Reads one symbol: the lengths from the shortest on, with the first code and the first symbol of each. -/
def readSym (syms : List Nat) : List Nat → Nat → Nat → Nat → List Bool → Option (Nat × List Bool)
  | [], _, _, _, _ => none
  | _ :: _, _, _, _, [] => none
  | c :: cs, code, first, index, b :: r =>
    let code := code + b.toNat
    if code < first + c then (syms[index + (code - first)]?).map (fun v => (v, r))
    else readSym syms cs (2 * code) (2 * (first + c)) (index + c) r

/-- Reads one symbol of a code. -/
def Huff.read (h : Huff) (l : List Bool) : Option (Nat × List Bool) := readSym h.syms h.counts 0 0 0 l

/-! ### Blocks -/

/-- Base and extra bits of length symbol 257 + i. -/
def lenTable : List (Nat × Nat) :=
  [(3, 0), (4, 0), (5, 0), (6, 0), (7, 0), (8, 0), (9, 0), (10, 0), (11, 1), (13, 1), (15, 1), (17, 1), (19, 2), (23, 2), (27, 2),
   (31, 2), (35, 3), (43, 3), (51, 3), (59, 3), (67, 4), (83, 4), (99, 4), (115, 4), (131, 5), (163, 5), (195, 5), (227, 5), (258, 0)]

/-- Base and extra bits of distance symbol i. -/
def distTable : List (Nat × Nat) :=
  [(1, 0), (2, 0), (3, 0), (4, 0), (5, 1), (7, 1), (9, 2), (13, 2), (17, 3), (25, 3), (33, 4), (49, 4), (65, 5), (97, 5), (129, 6),
   (193, 6), (257, 7), (385, 7), (513, 8), (769, 8), (1025, 9), (1537, 9), (2049, 10), (3073, 10), (4097, 11), (6145, 11), (8193, 12),
   (12289, 12), (16385, 13), (24577, 13)]

/-- The output so far, newest byte first, and the stream's rest. -/
structure Inf where
  out : Bytes
  len : Nat
  rest : List Bool
  deriving DecidableEq, Repr

/-- Copies `n` bytes from `d` back. -/
def copyBack (d : Nat) : Nat → Bytes → Bytes
  | 0, out => out
  | n + 1, out => copyBack d n (out.getD (d - 1) 0 :: out)

/-- The symbols of a compressed block up to its end-of-block code. An error answers the bytes produced before it. -/
def inflateSyms (raw : Nat) (lit dist : Huff) : Nat → Inf → Except Nat Inf
  | 0, x => .error x.len
  | n + 1, x =>
    match lit.read x.rest with
    | none => .error x.len
    | some (v, r) =>
      if v < 256 then
        if raw ≤ x.len then .error x.len
        else inflateSyms raw lit dist n ⟨BitVec.ofNat 8 v :: x.out, x.len + 1, r⟩
      else if v = 256 then .ok { x with rest := r }
      else match lenTable[v - 257]? with
      | none => .error x.len
      | some (lb, le) => match takeBits le r with
        | none => .error x.len
        | some (lx, r) => match dist.read r with
          | none => .error x.len
          | some (dv, r) => match distTable[dv]? with
            | none => .error x.len
            | some (db, de) => match takeBits de r with
              | none => .error x.len
              | some (dx, r) =>
                if x.len < db + dx then .error x.len
                else if raw < x.len + (lb + lx) then .error raw
                else inflateSyms raw lit dist n ⟨copyBack (db + dx) (lb + lx) x.out, x.len + (lb + lx), r⟩

/-- The fixed codes of RFC 1951. -/
def fixedLit : Huff := mkHuff (List.replicate 144 8 ++ List.replicate 112 9 ++ List.replicate 24 7 ++ List.replicate 8 8)
/-- The fixed distance code. -/
def fixedDist : Huff := mkHuff (List.replicate 30 5 ++ [0, 0])

/-- Order of the code-length code lengths. -/
def clOrder : List Nat := [16, 17, 18, 0, 8, 7, 9, 6, 10, 5, 11, 4, 12, 3, 13, 2, 14, 1, 15]

/-- Reads `n` 3-bit lengths. -/
def readCl : Nat → List Bool → Option (List Nat × List Bool)
  | 0, l => some ([], l)
  | n + 1, l => match takeBits 3 l with
    | none => none
    | some (v, r) => (readCl n r).map (fun p => (v :: p.1, p.2))

/-- Reads code lengths with their repeats until `want` are read; `acc` newest first. -/
def readLens (cl : Huff) (want : Nat) : Nat → List Nat → List Bool → Option (List Nat × List Bool)
  | 0, _, _ => none
  | n + 1, acc, l =>
    if acc.length = want then some (acc.reverse, l)
    else if want < acc.length then none
    else match cl.read l with
    | none => none
    | some (v, r) =>
      if v < 16 then readLens cl want n (v :: acc) r
      else
        let (val, base, ex) := if v = 16 then (acc.head?, 3, 2) else if v = 17 then (some 0, 3, 3) else (some 0, 11, 7)
        match val, takeBits ex r with
        | some w, some (k, r) => readLens cl want n (List.replicate (base + k) w ++ acc) r
        | _, _ => none

/-- The codes of a dynamic block (R138). A code of a single one-bit symbol may be incomplete, of either alphabet (log entries 27 and 152). -/
def dynCodes (l : List Bool) : Option (Huff × Huff × List Bool) :=
  match takeBits 5 l with
  | none => none
  | some (hl, l) => match takeBits 5 l with
    | none => none
    | some (hd, l) => match takeBits 4 l with
      | none => none
      | some (hc, l) =>
        if 29 < hl then none
        else match readCl (hc + 4) l with
        | none => none
        | some (cls, l) =>
          let lens := (List.range 19).map (fun i => (((clOrder.zip cls).find? (fun p => p.1 == i)).map (·.2)).getD 0)
          let cl := mkHuff lens
          if !cl.ok false then none
          else match readLens cl (257 + hl + (1 + hd)) (257 + hl + (1 + hd) + 1) [] l with
          | none => none
          | some (all, l) =>
            let lit := mkHuff (all.take (257 + hl))
            let dist := mkHuff (all.drop (257 + hl))
            if (all.getD 256 0) = 0 ∨ !lit.ok true ∨ !dist.ok true then none else some (lit, dist, l)

/-- One stored block (R138): LEN and its complement, then bytes. -/
def storedBlock (raw : Nat) (x : Inf) : Except Nat Inf :=
  let l := x.rest.drop (x.rest.length % 8)
  match takeBits 16 l with
  | none => .error x.len
  | some (n, l) => match takeBits 16 l with
    | none => .error x.len
    | some (m, l) =>
      if m ≠ 65535 - n then .error x.len
      else if raw < x.len + n then .error raw
      else if l.length < 8 * n then .error (x.len + l.length / 8)
      else
        let bs : Bytes := (List.range n).map (fun i => BitVec.ofNat 8 (bitsNat ((l.drop (8 * i)).take 8)))
        .ok ⟨bs.reverse ++ x.out, x.len + n, l.drop (8 * n)⟩

/-- A compressed block that gives exactly `block` after the history `hist`: BFINAL, BTYPE 01 or 10, nothing left over (R315). -/
def verifyBlock (hist block : Bytes) (final : Bool) (b : List Bool) : Bool :=
  match takeBits 3 b with
  | none => false
  | some (h, r) =>
    let x : Inf := ⟨hist.reverse, hist.length, r⟩
    let raw := hist.length + block.length
    let done := match h / 2 with
      | 1 => inflateSyms raw fixedLit fixedDist (r.length + 1) x
      | 2 => match dynCodes r with
        | none => .error 0
        | some (lit, dist, r') => inflateSyms raw lit dist (r'.length + 1) { x with rest := r' }
      | _ => .error 0
    match done with
    | .error _ => false
    | .ok y => (h % 2 == 1) == final && y.rest.isEmpty && y.out.reverse == hist ++ block

/-- Blocks up to the one with BFINAL. -/
def inflateBlocks (raw : Nat) : Nat → Inf → Except Nat Inf
  | 0, x => .error x.len
  | n + 1, x =>
    match takeBits 3 x.rest with
    | none => .error x.len
    | some (h, r) =>
      let x := { x with rest := r }
      let done := match h / 2 with
        | 0 => storedBlock raw x
        | 1 => inflateSyms raw fixedLit fixedDist (r.length + 1) x
        | 2 => match dynCodes r with
          | none => .error x.len
          | some (lit, dist, r') => inflateSyms raw lit dist (r'.length + 1) { x with rest := r' }
        | _ => .error x.len
      match done with
      | .error k => .error k
      | .ok y => if h % 2 = 1 then .ok y else inflateBlocks raw n y

/-- A DEFLATE payload of `raw` bytes (R126, R138): the bytes, or how many came out before the stream broke R126. -/
def inflate (raw : Nat) (b : Bytes) : Except Nat Bytes :=
  match inflateBlocks raw (8 * b.length + 1) ⟨[], 0, streamBits b⟩ with
  | .error k => .error k
  | .ok x => if x.len = raw ∧ x.rest.length < 8 then .ok x.out.reverse else .error x.len

/-! ### Engines (R137, R138, R142, R143) -/

/-- The strip that dispatch takes next (R137): eligible, with a buffer and an engine of its plane free, first in dispatch order. -/
def State.nextStrip (s : State) : Option Strip :=
  if s.num Obj.InflateStatus.buffersFree ≤ 0 then none
  else
    let l := s.strips.held.filter (fun x => (s.eligible x).isSome && (s.freeEngine x).isSome)
    l.foldl (fun m x => match m with
      | none => some x
      | some y => if lexLe (s.dispatchKey y) (s.dispatchKey x) then some y else some x) none

/-- `INFLATE_DISPATCH` (R137). -/
def execInflateDispatch (t : Nat) (s : State) : Host.Outcome State Fault Refusal :=
  fieldCmd t s (fun s =>
    match s.nextStrip with
    | none => s
    | some x => match s.freeEngine x with
      | none => s
      | some e => s.loadEngine e x)

/-- `BytesOut` of an engine rises. -/
def State.bytesOut (s : State) (e n : Nat) : State := s.bump (Obj.EngineStatus.bytesOut e) 64 n

/-- A strip fails (R138): its buffer frees, StripFailed is raised, and it may be replaced; a strip whose tile has faulted leaves. -/
def State.failStrip (s : State) (x : Strip) (crc : Bool) : State :=
  let s := s.inc (if crc then Obj.InflateStatus.crcErrors else Obj.InflateStatus.inflateErrors)
  let s := if x.dead then s.setHeld (s.strips.held.filter (fun y => !sameKey x y)) else s.mapStrip x (fun y => { y with st := .failed crc })
  s.evPl Ev.stripFailed x.plane

/-- A strip verifies (R138): its lines may be screened; one whose tile has faulted is freed without printing (R140). -/
def State.verifyStrip (s : State) (x : Strip) (b : Bytes) : State :=
  let s := s.bump Obj.InflateStatus.stripsVerified 64
  if x.dead then s.setHeld (s.strips.held.filter (fun y => !sameKey x y)) else s.mapStrip x (fun y => { y with st := .verified b })

/-- `INFLATE_COMPLETE` (R138): engine `e` ends its strip. -/
def execInflateComplete (t e : Nat) (s : State) : Host.Outcome State Fault Refusal :=
  fieldCmd t s (fun s =>
    match s.engineStrip e with
    | none => s
    | some x =>
      let s := s.idleEngine e
      match (if x.comp = 0 then .ok x.data else inflate x.raw x.data) with
      | .error n => (s.bytesOut e n).failStrip x false
      | .ok b => if crc32 b = x.crc then (s.bytesOut e x.raw).verifyStrip x b else (s.bytesOut e x.raw).failStrip x true)

/-- The first line of a strip's tile has opened. -/
def State.tileOpened (s : State) (x : Strip) : Bool :=
  match s.pageFor x with
  | some p => (match p.start with | some S => decide (S + x.firstLine ≤ (s.plane x.plane).opened) | none => false)
  | none => true

/-- Engine `e` is stopped and cleared (R142): its strip returns to the deposited state, or leaves where its tile has opened (the
tile has then faulted with cause INFLATING). -/
def State.resetEngine (s : State) (e : Nat) : State :=
  let s' := s.idleEngine e
  match s.engineStrip e with
  | none => s'
  | some x =>
    if x.dead || s.tileOpened x then s'.setHeld (s'.strips.held.filter (fun y => !sameKey x y))
    else s'.mapStrip x (fun y => { y with st := .deposited })

/-- A write of `Reset` of engine `e` (R142, R437): an idle or gated engine is reset at once; one with a strip is asked to go idle. -/
def wrEngineReset (e : Nat) (s : State) : State × Nat :=
  if (s.engineStrip e).isSome && bit (s.nat Obj.FieldGates.enable) 30 then
    if s.waits .engine e then (s, 0) else (((s.startWait .engine e).setN (Obj.EngineStatus.state e) 2).engineBits, 0)
  else (s.resetEngine e, 0)

/-- `INFLATE_ENGINE_RESET` (R142). -/
def execInflateEngineReset (t : Nat) (a : Caller) (e : Nat) (v : Bytes) (s : State) : Host.Outcome State Fault Refusal :=
  access t s (fun s => s.write a (Obj.EngineStatus.reset e) v (fun _ s => wrEngineReset e s))

/-- `INFLATE_ENGINE_FAULT` (R143): engine `e` is stalled, or its verifier reports an internal error; it is reset as a write of its `Reset`
does it, and its strip goes to another engine. -/
def execInflateEngineFault (t e : Nat) (s : State) : Host.Outcome State Fault Refusal :=
  fieldCmd t s (fun s =>
    if 16 ≤ e then s
    else
      let s' := match s.engineStrip e with
        | some x => match s.firstPlaneLine x with
          | some F => s.evAt Ev.inflateEngineFault x.plane F [e, x.job, x.page] e
          | none => s.evPl Ev.inflateEngineFault x.plane [e, x.job, x.page] e
        | none => s.ev Ev.inflateEngineFault [e, 0, 0] e
      (wrEngineReset e (match s'.engineStrip e with | some x => s'.mapStrip x (fun y => { y with notOn := some e }) | none => s')).1)

end Sys2Proof.Machine
end

