-- ==== Sys2Proof/Machine/Screening.lean ====
section
/-! DEFINITION. The commands of screening (spec/06): a line of a plane is screened into its heads' trestle rings, and host writes of
the nozzle table. -/

namespace Sys2Proof.Machine

/-! ### The trestle write (R116, R271) -/

/-- Every enabled camera has read plane `k`'s trestle up to line `L`. -/
def State.renderRead (s : State) (k : Nat) (L : Int) : Bool :=
  ((List.range 4).filter (fun c => s.flag (Obj.CameraPort.enable c))).all (fun c =>
    match (s.plane k).readTo.find? (fun r => r.1 == c) with | some (_, x) => decide (L ≤ x) | none => false)

/-- The codes of line `L` go into the ring of head `h` of plane `k`. A write into a slot that the renderer has not read leaves that
line unrendered; the first of a run raises RenderOverrun (R271). -/
def State.trestleWrite (s : State) (k h : Nat) (L : Int) (codes : List Nat) : State :=
  let run := (s.plane k).ext.isSome
  let cap := slots s.dict h + (if run then extSlots s.dict (s.anaOf k).cmax k h else 0)
  let hd := s.head h
  let lost := (hd.slots.drop (cap - 1)).filter (fun x => run && !s.renderRead k x.1)
  let s := s.setHead h { hd with slots := ((L, codes) :: hd.slots).take (max cap 1), blind := hd.blind ++ lost.map (·.1) }
  if lost.isEmpty then s
  else
    let s := s.bump Obj.AnalysisControl.renderOverruns 32 lost.length
    if (s.plane k).overrun then s else (s.setPlane k { s.plane k with overrun := true }).evPl Ev.renderOverrun k

/-- A head line that overwrites no unread slot ends a run of overruns. -/
def State.endOverrun (s : State) (k before : Nat) : State :=
  if s.nat Obj.AnalysisControl.renderOverruns = before then s.setPlane k { s.plane k with overrun := false } else s

/-! ### One line -/

/-- The verified strips of line `i` of a page, each with its bytes and the tile line (R122, R140). -/
def State.lineTiles (s : State) (k : Nat) (p : Page) (i : Nat) : List (Strip × Bytes × Nat) :=
  let i0 := i / p.stripLines * p.stripLines
  (p.bands.filter (fun b => !b.blank && !p.faulted.contains (i0, b.first))).filterMap (fun b =>
    match s.strips.held.find? (fun x => x.bound && !x.dead && x.plane == k && x.job == p.job && x.page == p.page
        && x.firstLine == i0 && x.firstCol == b.first) with
    | some x => match x.st with | .verified raw => some (x, raw, i - i0) | _ => none
    | none => none)

/-- Strips of plane `k`'s page whose last line is line `i` of the page are freed (R129). -/
def State.freeTiles (s : State) (k : Nat) (p : Page) (i : Nat) : State :=
  let done := fun (x : Strip) => x.bound && x.plane == k && x.job == p.job && x.page == p.page && decide (x.firstLine + x.lineCount ≤ i + 1)
    && (match x.st with | .inflating _ => false | _ => true)
  if s.strips.held.any done then s.setHeld (s.strips.held.filter (fun x => !done x)) else s

/-- A head's codes join its line in flight and its trestle ring (R116, R166). -/
def State.putCodes (s : State) (k : Nat) (L : Int) (o : HeadOut) : State :=
  let s := match s.findLine o.h (fun f => f.line == L) with
    | some f => s.setLine o.h { f with codes := some o.codes, classes := o.classes }
    | none => s
  s.trestleWrite k o.h L o.codes

/-- A composite contribution sets out to plane `q` (R153, R231): discarded on a line of a dot page, discarded and counted when its line has
opened. -/
def State.addComposite (s : State) (c : Composite) : State :=
  if !s.flag (Obj.PlaneConfig.enable c.plane) then s
  else if (s.plane c.plane).dots.any (fun r => decide (r.1 ≤ c.line ∧ c.line ≤ r.2)) then s
  else if c.line ≤ (s.plane c.plane).opened then s.inc (Obj.ScreenStatus.compositeLate c.plane)
  else { s with screen := { s.screen with comps := s.screen.comps ++ [c] } }

/-- Amounts for plane `k` at line `L` or before have been used. -/
def State.usedAmounts (s : State) (k : Nat) (L : Int) : State :=
  let keep := fun (c : Composite) => !(c.plane == k && decide (c.line ≤ L))
  { s with screen := { s.screen with comps := s.screen.comps.filter keep, seconds := s.screen.seconds.filter keep
                                     secondDots := s.screen.secondDots.filter keep } }

/-- The amounts that a line's failed nozzles hand to the other row's next line and to another plane (R230, R231). -/
def State.handOver (s : State) (c : LineCtx) (dot : Bool) (outs : List HeadOut) : State :=
  let sec : List Composite := if dnat c.d (Obj.PlaneConfig.rowMode c.k) = 0 then [] else
    outs.flatMap (fun o => o.second.map (fun p => { plane := c.k, line := c.line + 1, col := p.1, amount := p.2 }))
  let s := if dot then { s with screen := { s.screen with secondDots := s.screen.secondDots ++ sec } }
           else { s with screen := { s.screen with seconds := s.screen.seconds ++ sec } }
  let q := dnat c.d (Obj.PlaneHealth.compositeTarget c.k)
  if q < 4 then
    (outs.flatMap (fun o => o.composite)).foldl (fun s p =>
      s.addComposite { plane := q, line := c.line + dnum c.d (Obj.PlaneHealth.compositeLineOffset c.k), col := p.1, amount := p.2 }) s
  else s

/-- Opened line `o` of plane `k` is screened (R146, R164, R167): a line in no page gives code 0 on every nozzle. -/
def State.screenLine (s : State) (k : Nat) (o : OpenLine) : State :=
  let s := if o.fresh then (s.clearErrors o.cfg k).setN (Obj.ScreenStatus.errorResetLine k) (sext 48 o.line) else s
  let pg : Option Page := match o.page with
    | none => none
    | some (j, p, S) => (s.plane k).pages.find? (fun q => q.job == j && q.page == p && q.start == some S)
  let before := s.nat Obj.AnalysisControl.renderOverruns
  match pg with
  | none =>
    let s := o.heads.foldl (fun s h =>
      s.putCodes k o.line { h := h, codes := List.replicate (nozzles o.cfg h) 0, classes := [0, 0, 0, 0], comps := 0, errs := 0
                            next := [], second := [], composite := [] }) s
    (s.endOverrun k before).usedAmounts k o.line
  | some p =>
    let i := (o.line - p.start.getD 0).toNat
    let c : LineCtx := { d := o.cfg, ntab := o.ntab, k := k, line := o.line, fire := o.heads, tiles := s.lineTiles k p i }
    let mine := fun (l : List Composite) => l.filter (fun x => x.plane == k && x.line == o.line)
    let dot := (dotBits p.format).isSome
    let outs : List HeadOut := o.heads.map (fun h =>
      if dot then screenDot c (mine s.screen.secondDots) h
      else screenContone c (mine s.screen.comps) (mine s.screen.seconds) s.screen.err h)
    let s := outs.foldl (fun s x => s.putCodes k o.line x) s
    let s := (s.endOverrun k before).usedAmounts k o.line
    let (errs, n) := mergeErrors c outs
    let s := { s with screen := { s.screen with err := errs.foldl (fun m (e : Nat × Int) => smSet (fun _ => (0 : Int)) m e.1 e.2) s.screen.err } }
    let s := if dot then s else s.bump (Obj.ScreenStatus.linesScreened k) 64
    let s := s.bump (Obj.ScreenStatus.compClamps k) 64 (outs.map HeadOut.comps).sum
    let s := s.bump (Obj.ScreenStatus.errorClamps k) 64 ((outs.map HeadOut.errs).sum + n)
    (s.handOver c dot outs).freeTiles k p i

/-- Plane `k` has an active page, or lines of the page that it screened last are yet to be strobed: step 3 of R392 prints a page to its last
line. -/
def State.printing (s : State) (k : Nat) : Bool :=
  let p := s.plane k
  p.pages.any (fun q => q.start.isSome) || (match p.printed with
    | some l => (planeHeads s.dict k).any (fun h => (s.head h).lines.any (fun f => (f.st == .waiting || f.st == .committed) && decide (f.line ≤ l)))
    | none => false)

/-- Step 4 of R392: with the Span lost and no plane printing a page, the field island enters HOLD. -/
def State.holdOnLoss (s : State) : State :=
  if s.span.lostF && s.pow.state == 0 && [0, 1, 2, 3].all (fun k => !s.printing k) then
    let s := s.autoHold 1
    s.setPow { s.pow with spanHold := true }
  else s

/-- `SCREEN_LINE` (R146): the oldest opened line of plane `k` that has not been screened. -/
def execScreenLine (t k : Nat) (s : State) : Host.Outcome State Fault Refusal :=
  fieldCmd t s (fun s =>
    match (s.plane k).lines with
    | [] => s
    | o :: r =>
      let s := s.screenLine k o
      ((s.setPlane k { s.plane k with lines := r }).retirePages k).holdOnLoss)

/-! ### The nozzle table (R154, R155, R170) -/

/-- An entry that a `NozzleWrite` may hold (R170). -/
def entryOk (e : Nat) : Bool :=
  !bit e 39 && decide (e < 2 ^ 48) && decide (nzHide e ≤ 4) && decide (-8192 ≤ nzOffset e ∧ nzOffset e < 8192)

/-- The entries of a payload, by channel. -/
def parseEntriesAt (b : Bytes) : Nat → Nat → Nat → List (Nat × Nat)
  | 0, _, _ => []
  | n + 1, o, ch => (ch, fld b o 8) :: parseEntriesAt b n (o + 8) (ch + 1)

/-- A write of `NozzleWrite` (R155, R170). -/
def wrNozzles (x : Val) (s : State) : State × Nat :=
  let b := x.byt
  let first := fld b 0 4
  let n := (b.length - 8) / 8
  let l := parseEntriesAt b n 8 first
  if (b.length - 8) % 512 ≠ 0 ∨ b.length < 520 ∨ 65544 < b.length ∨ first % 64 ≠ 0 ∨ s.pool < first + n ∨ fld b 4 4 ≠ 0
      ∨ !l.all (fun e => entryOk e.2) then (s, 0x02010001)
  else
    let old := s.screen.ntab
    let s := s.setNozzles l
    let s := l.foldl (fun s (e : Nat × Nat) => match chanPlace s.dict e.1 with | some (k, _, _) => s.noteChange old e.1 k | none => s) s
    (s.each [0, 1, 2, 3] (fun s k => s.setN (Obj.NozzleTable.writeLine k) (sext 48 (s.unopened k))), 0)

/-- `NOZZLE_WRITE` (R155). -/
def execNozzleWrite (t : Nat) (a : Caller) (v : Bytes) (s : State) : Host.Outcome State Fault Refusal :=
  access t s (fun s => s.write a Obj.NozzleTable.nozzleWrite v wrNozzles)

end Sys2Proof.Machine
end

