-- ==== Sys2Proof/Machine/Pier.lean ====
section
/-! DEFINITION. The commands of the Pier link (spec/07). -/

namespace Sys2Proof.Machine

/-! ### Bring-up (R189-R192) -/

/-- Port `h` has passed stage 4 (R189): on a bonded link the aligned lanes pass stage 5; stage 6 is passed once both ends of every lane of
the link are ready, and IDENTIFY goes out. -/
def State.checkLink (s : State) (h : Nat) : State :=
  let l := s.link h
  let s := if s.bonded h ∧ (s.port h).aligned ∧ s.portState h = 1 ∧ s.nat (Obj.PortStatus.stage h) = 4 then s.passStage h 5 else s
  if s.portState h = 1 ∧ !(s.port h).due ∧ s.nat (Obj.PortStatus.stage h) < 6 ∧
      l.all (fun p => (s.port p).locked && (s.port p).rxLock && (!s.bonded h || (s.port p).aligned)) then
    (l.foldl (fun s p => s.passStage p 6) s).sendCtrl h (cmdBlock 4 0)
  else s

/-- `BRING_UP_ATTEMPT` (R189): an attempt that is due starts on the link of port `h`, while the field crystal is accepted (R412, R413). -/
def execBringUpAttempt (t h : Nat) (s : State) : Host.Outcome State Fault Refusal :=
  fieldCmd t s (fun s => if h < s.nHeads ∧ (s.port h).due ∧ s.inService h ∧ s.nat (Obj.Clocks.xtalState 1) = 1 then s.startAttempt h else s)

/-- Steps 2 to 4 are passed on port `h` (R189). -/
def State.passLock (s : State) (h : Nat) : State := ((s.setPort h { s.port h with locked := true }).passStage h 4).checkLink h

/-- `HRX_LOCK` (R189 steps 2-4): bit lock, then block or comma lock, then polarity is reached on HRX of port `h`; each advances the attempt by
one step (log entry 145). -/
def execHrxLock (t h : Nat) (inv : Bool) (s : State) : Host.Outcome State Fault Refusal :=
  fieldCmd t s (fun s =>
    if h < s.nHeads ∧ s.portState h = 1 ∧ !(s.port h).due ∧ !(s.port h).locked then
      let s := s.setN (Obj.PortStatus.link h) ((setBit (s.nat (Obj.PortStatus.link h)) 4 inv : Nat) : Int)
      let n := s.nat (Obj.PortStatus.stage h) + 1
      if n < 4 then s.passStage h n else s.passLock h
    else s)

/-- The bound of the step after stage `st` on port `h`, 0.1 ns, where it has one of its own (R189): 1 ms, 1 ms, 256 blocks, and 3 MARK
intervals on a bonded link. Step 1 is passed as it starts, and step 2 counts from there (log entry 145). -/
def State.stepBound (s : State) (h st : Nat) : Option Nat :=
  let tb := blockTime (s.nat (Obj.PortStatus.link h) % 8)
  match st with
  | 0 | 1 | 2 => some (10 ^ 7)
  | 3 => some (256 * tb)
  | 4 => if s.bonded h then some (3 * 16384 * tb) else none
  | _ => none

/-- `BRING_UP_STAGE_TIMEOUT` (R189, R190): the step in progress, or step 6 with its 5 ms from step 1, has passed its bound. -/
def execBringUpStageTimeout (t h : Nat) (s : State) : Host.Outcome State Fault Refusal :=
  fieldCmd t s (fun s =>
    let x := s.port h
    let st := s.nat (Obj.PortStatus.stage h)
    if s.nHeads ≤ h ∨ s.portState h ≠ 1 ∨ x.due then s
    else if st < 6 then
      let own : Bool := match s.stepBound h st with | some b => decide (x.stageAt + b ≤ s.now) | none => false
      if own || decide (x.start + 5 * 10 ^ 7 ≤ s.now) then s.failAttempt h else s
    else if st = 7 ∧ 2 ≤ s.role then s
    else if x.stageAt + 10 ^ 6 ≤ s.now then s.enterDown h else s)

/-- `RETRY_INTERVAL` (R190): a DOWN port tries again from the main path. -/
def execRetryInterval (t h : Nat) (s : State) : Host.Outcome State Fault Refusal :=
  fieldCmd t s (fun s =>
    match (s.port h).downAt with
    | some d => if s.portState h = 3 ∧ d + 10 ^ 7 * s.nat (Obj.PierConfig.retryInterval (h / 4)) ≤ s.now then s.attemptDue h false 0 else s
    | none => s)

/-- The four IDENTITY parts have come (R189 step 7, R192, R456): the objects, the nozzle count, a new carrier's baseline and offset. -/
def State.identified (s : State) (h : Nat) : State :=
  let part : Nat → Nat := fun n => (((s.port h).ident.find? (fun p => p.1 == n)).map (·.2)).getD 0
  let id : Nat := part 0 + 2 ^ 32 * part 1
  let count : Nat := part 2 / 65536
  let s := (s.setN (Obj.PortStatus.carrierId h) id).setN (Obj.PortStatus.headType h) (part 2 % 65536 : Nat)
  let s := (s.setN (Obj.PortStatus.carrierNozzles h) count).setN (Obj.PortStatus.carrierFirmware h) (part 3)
  let s := if id ≠ s.nat (Obj.HeadCal.baselineCarrier h) then
      let s := (s.newBaseline h id).setN (Obj.HeadCal.tempOffset h) 0
      if s.flag (Obj.CalSubject.autoEnable 4) then (s.calQueue 4 h).setMeas h { s.meas_ h with offset := true } else s
    else s
  if inUse s.dict h ∧ nozzles s.dict h ≠ count then (s.setPortState h 5).ev Ev.headMismatch [] (h / 4)
  else s.passStage h 7

/-- `IDENTITY_STAT` (R181, R192). -/
def execIdentityStat (t h : Nat) (w : Block) (s : State) : Host.Outcome State Fault Refusal :=
  fieldCmd t s (fun s => s.onStat h 2 w (fun s =>
    if s.portState h = 1 ∧ s.nat (Obj.PortStatus.stage h) = 6 then
      let p := bits w.toNat 19 16
      if 4 ≤ p then s
      else
        let l := (s.port h).ident.filter (fun x => x.1 != p) ++ [(p, bits w.toNat 51 20)]
        let s := s.setPort h { s.port h with ident := l }
        if l.length = 4 then s.identified h else s
    else s))

/-- The Owner field as `Owner` shows it. -/
def ownerCode (n : Nat) : Nat := n % 4

/-- `OWNER_STAT` (R191, R193, R486). -/
def execOwnerStat (t h : Nat) (w : Block) (s : State) : Host.Outcome State Fault Refusal :=
  fieldCmd t s (fun s => s.onStat h 3 w (fun s =>
    let ep := bits w.toNat 47 16; let ow := bits w.toNat 49 48
    let s := (s.setN (Obj.PortStatus.carrierEpoch h) ep).setN (Obj.PortStatus.owner h) (ownerCode ow)
    let s := s.setDux { s.dux with maxEpoch := max s.dux.maxEpoch ep }
    let st := s.portState h
    let beaten : Bool := match (s.port h).claim with | some e => s.role == 1 && ow == 2 && decide (e < ep) | none => false
    if st = 2 then (if ow = 1 then s else s.ownershipLost h ow)
    else if beaten then (if st = 1 then (s.relinquish 8).setPortState h 4 else s.relinquish 8)
    else if (st = 1 ∧ s.nat (Obj.PortStatus.stage h) = 7 ∧ !(s.port h).due) ∨ st = 4 then
      if 2 ≤ s.role then s.setPortState h 4
      else match (s.port h).claim with
      | none => if st = 1 then s.claim h ep else s
      | some _ => if ow = 1 then s.portUpNow h else s.setPortState h 4
    else s))

/-- `LINK_STAT` (R181, R189 steps 4-6, R193). A good block shows that HRX is locked in its right polarity (log entry 145). -/
def execLinkStat (t h : Nat) (w : Block) (s : State) : Host.Outcome State Fault Refusal :=
  fieldCmd t s (fun s => s.onStat h 4 w (fun s =>
    let n := w.toNat
    let lock := bit n 16; let al := bit n 18
    let s := s.setN (Obj.PortStatus.carrierRxErrors h) (bits n 31 24)
    let s := s.setN (Obj.PortStatus.link h) ((setBit (s.nat (Obj.PortStatus.link h)) 5 (bit n 17) : Nat) : Int)
    let s := s.setPort h { s.port h with rxLock := lock, aligned := al }
    if s.portState h ≠ 1 then (if !lock || (s.bonded h && !al) then (s.linkLoss h none 1).judgePiers else s)
    else if !(s.port h).due ∧ s.nat (Obj.PortStatus.stage h) < 4 then s.passLock h
    else s.checkLink h))

/-! ### Losses and blocks (R175, R186, R193) -/

/-- `CONTROL_BLOCK_DISCARD` (R175). -/
def execControlBlockDiscard (t h : Nat) (w : Block) (s : State) : Host.Outcome State Fault Refusal :=
  fieldCmd t s (fun s => if h < s.nHeads ∧ s.portState h ≠ 0 ∧ s.portState h ≠ 6 ∧ !blockOk w then s.discardBlock h else s)

/-- `LOSS_OF_SIGNAL` (R193). -/
def execLossOfSignal (t h : Nat) (s : State) : Host.Outcome State Fault Refusal :=
  fieldCmd t s (fun s => (s.linkLoss h (some (Obj.PortStatus.losCount h)) 1).judgePiers)

/-- `LOSS_OF_LOCK` (R193). -/
def execLossOfLock (t h : Nat) (s : State) : Host.Outcome State Fault Refusal :=
  fieldCmd t s (fun s => (s.linkLoss h (some (Obj.PortStatus.lolCount h)) 1).judgePiers)

/-- `STAT_TIMEOUT` (R193): no LINE STAT for 100 µs. -/
def execStatTimeout (t h : Nat) (s : State) : Host.Outcome State Fault Refusal :=
  fieldCmd t s (fun s =>
    if (s.port h).statAt + 10 ^ 6 ≤ s.now then (s.linkLoss h (some (Obj.PortStatus.statTimeouts h)) 1).judgePiers else s)

/-- `MARK_DUE` (R186): 16,384 blocks after the last scheduled slot, on every HTX lane of the link; a MARK deferred past a frame moves no slot. -/
def execMarkDue (t h : Nat) (s : State) : Host.Outcome State Fault Refusal :=
  fieldCmd t s (fun s =>
    let slot := (s.port h).markAt
    let p := s.markPeriod h
    if h < s.nHeads ∧ s.portState h ≠ 0 ∧ s.portState h ≠ 6 ∧ slot + p ≤ s.now then s.sendMark h (slot + (s.now - slot) / p * p) else s)

/-! ### Service and reset (R196, R437, R464) -/

/-- The present ports of pier `p`. -/
def State.pierPorts (s : State) (p : Nat) : List Nat := [4 * p, 4 * p + 1, 4 * p + 2, 4 * p + 3].filter (fun h => decide (h < s.nHeads))

/-- A frame or a measurement chunk is in flight on a port of pier `p` (R438). -/
def State.pierBusy (s : State) (p : Nat) : Bool :=
  (s.pierPorts p).any (fun h => (s.meas_ h).chunk.isSome || (s.head h).lines.any (fun f => f.frame == .sent && decide (s.now < f.frameEnd)))

/-- A port leaves the bar (R196, R464): what is in flight on it ends as on a loss. -/
def State.leavePort (s : State) (h n : Nat) : State :=
  let s := s.setPortState h n
  let busy := (s.meas_ h).chunk.isSome
  let s := s.linkLines h 1
  let s := if busy then s.inc (Obj.HeadHealth.measureAborts h) else s
  s.setPort h { s.port h with due := false, claim := none, downAt := none, fails := 0 }

/-- Every unresolved line of pier `p`'s heads becomes BLANK_LINK, as after a forced reset (R438). -/
def State.blankPier (s : State) (p : Nat) : State := (s.pierPorts p).foldl (fun s h => s.holdWaiting h 10) s

/-- Pier `p` is reset (R196, R438): its ports go DOWN and bring-up starts. -/
def State.resetPier (s : State) (p : Nat) : State :=
  let s := (s.pierPorts p).foldl (fun s h => s.leavePort h 3) (s.endWait .pier p)
  (s.pierPorts p).foldl (fun s h => s.attemptDue h false 0) s

/-- A write of `Reset` of pier `p` (R196, R437): no effect out of service; a busy pier is asked to go idle. -/
def wrPierReset (p : Nat) (s : State) : State × Nat :=
  if s.nat (Obj.PierConfig.service p) = 1 then (s, 0)
  else if s.pierBusy p && bit (s.nat Obj.FieldGates.enable) p then (if s.waits .pier p then s else s.startWait .pier p, 0)
  else (s.resetPier p, 0)

/-- A pier that waits for its reset is reset once it is idle (R437). -/
def State.serveWaits (s : State) : State :=
  s.each ((List.range 16).filter (fun p => s.waits .pier p && !s.pierBusy p)) (fun s p => s.resetPier p)

/-- A write of `Service` of pier `p` (R196, R464). -/
def wrService (p : Nat) (x : Val) (s : State) : State × Nat :=
  if s.num (Obj.PierConfig.service p) = x.int then (s, 0)
  else
    let s := s.setN (Obj.PierConfig.service p) x.int
    if x.int = 1 then (((s.pierPorts p).foldl (fun s h => s.leavePort h 6) (s.endWait .pier p)), 0)
    else
      let s := (s.pierPorts p).foldl (fun s h => (s.setPort h { s.port h with wasUp := false }).setPortState h 0) s
      ((s.pierPorts p).foldl (fun s h => s.attemptDue h false 0) s, 0)

/-- `PIER_RESET` (R196). -/
def execPierReset (t : Nat) (a : Caller) (p : Nat) (v : Bytes) (s : State) : Host.Outcome State Fault Refusal :=
  access t s (fun s => s.write a (Obj.PierConfig.reset p) v (fun _ => wrPierReset p))

/-- `PIER_OUT_OF_SERVICE` (R196). -/
def execPierOutOfService (t : Nat) (a : Caller) (p : Nat) (v : Bytes) (s : State) : Host.Outcome State Fault Refusal :=
  access t s (fun s => s.write a (Obj.PierConfig.service p) v (wrService p))

/-- `PIER_IN_SERVICE` (R196). -/
def execPierInService (t : Nat) (a : Caller) (p : Nat) (v : Bytes) (s : State) : Host.Outcome State Fault Refusal :=
  access t s (fun s => s.write a (Obj.PierConfig.service p) v (wrService p))

end Sys2Proof.Machine
end

