-- ==== Sys2Proof/Machine/Firing.lean ====
section
/-! DEFINITION. The commands of firing (spec/08): frames, strobes, deadlines, confirmation and the thermal state. -/

namespace Sys2Proof.Machine

/-! ### The line that is next (R203) -/

/-- The first line of head `h` that has not been resolved. -/
def State.nextLine (s : State) (h : Nat) : Option FireLine := s.findLine h (fun f => f.st != .strobed)

/-- `FRAME_WINDOW_OPEN` (R203, R215). -/
def execFrameWindowOpen (t h : Nat) (s : State) : Host.Outcome State Fault Refusal :=
  fieldCmd t s (fun s =>
    match s.nextLine h with
    | some f =>
      let due : Bool := match (s.head h).resolved with | some r => decide (r + s.holdoff h ≤ s.now) | none => true
      if f.frame = .closed ∧ due then
        let s := s.setLine h { f with frame := .window }
        if s.nat (Obj.HeadThermal.state h) = 2 then s else s.setHead h { s.head h with afterHard := false }
      else s
    | none => s)

/-! ### Frames (R176-R178, R187, R203, R210, R211) -/

/-- The energy code of a frame (R211). -/
def State.energy (s : State) (h : Nat) : Nat :=
  let base := s.nat (Obj.HeadFiring.baseEnergy h)
  if s.nat (Obj.HeadThermal.state h) ≠ 1 then base
  else
    let beyond : Nat := s.nat (Obj.HeadThermal.temperature h) - s.nat (Obj.HeadThermal.tsoft h)
    let drop : Nat := (s.nat (Obj.HeadThermal.derateSlope h) * beyond + 2 ^ 21) / 2 ^ 22
    min base (max (s.nat (Obj.HeadThermal.minEnergy h)) (base - drop))

/-- Codes packed into 64-bit payload blocks (R177). -/
def packCodes (w c : Nat) : Nat → List Nat → List Block
  | 0, _ => []
  | n + 1, l =>
    BitVec.ofNat 64 (((l.take c).foldr (fun x acc => acc * 2 ^ w + x) 0)) :: packCodes w c n (l.drop c)

/-- LSTART (R176). -/
def lstart (line : Int) (w j : Nat) (zero : Bool) (energy : Nat) : Block :=
  withCheck (0x33 + low 24 line * 2 ^ 8 + w * 2 ^ 32 + j * 2 ^ 34 + (if zero then 2 ^ 36 else 0) + energy * 2 ^ 40)

/-- LEND over the frame's blocks (R178). -/
def lend (start : Block) (payload : List Block) : Block :=
  withCheck (0x55 + payload.length * 2 ^ 8 + crc32 (blockBytes start ++ (payload.map blockBytes).flatten) * 2 ^ 24)

/-- What lane `l` of `n` carries of a frame (R187): LSTART, its payload blocks with an all-zero fill in a short last slot, LEND. -/
def laneBlocks (start fin : Block) (payload : List Block) (l n : Nat) : List (Bool × Block) :=
  [(true, start)] ++ (List.range (cdiv payload.length n)).map (fun q => (false, payload.getD (q * n + l) 0#64)) ++ [(true, fin)]

/-- A cause known now withholds the line: no frame is sent for it (R205). -/
def State.withheld (s : State) (h : Nat) (f : FireLine) : Bool :=
  f.hold.isSome || s.blankWeb || !s.portUp h || s.tooHot h || (match (s.head h).take with | some 0 => true | _ => false)

/-- The instant that orders frames on a shared link and places the deadline: the committed strobe, else its prediction. -/
def State.strobeAt (s : State) (h : Nat) (f : FireLine) : Option Nat :=
  if f.st = .committed then some f.ts else s.predict (s.planeOf h) f.target

/-- The line of head `h` whose frame may go now: window open, codes staged, nothing withholding it; a rewound line once its strobe is
predicted again (R206). -/
def State.ready (s : State) (h : Nat) : Option FireLine :=
  match s.nextLine h with
  | some f =>
    if f.frame = .window ∧ f.codes.isSome ∧ !s.withheld h f ∧ (!bit f.flags 4 ∨ (s.strobeAt h f).isSome) then some f else none
  | none => none

/-- The link of `h` carries a frame now. -/
def State.linkBusy (s : State) (h : Nat) : Bool :=
  (s.link h).any (fun p => (s.head p).lines.any (fun f => f.frame == .sent && decide (s.now < f.frameEnd)))

/-- Another head of the link has a ready frame with an earlier strobe (R203). -/
def State.behind (s : State) (h : Nat) (f : FireLine) : Bool :=
  (s.link h).any (fun p => p != h && (match s.ready p with
    | none => false
    | some g => match s.strobeAt p g, s.strobeAt h f with
      | some a, some b => decide (a < b)
      | some _, none => true
      | _, _ => false))

/-- The frame of a line goes out as soon as HTX is free (R176-R178, R187, R206, R210, R211). -/
def State.sendFrame (s : State) (h : Nat) (f : FireLine) (codes : List Nat) : State :=
  let (_, n) := linkPorts s.dict h
  let w := s.nat (Obj.PlaneConfig.dropBits (s.planeOf h))
  let zero := codes.all (· == 0)
  let e := s.energy h
  let payload := if zero then [] else packCodes w (codesPerWord w) (payloadCount s.dict h) codes
  let start := lstart f.line w (h % 4) zero e
  let fin := lend start payload
  let dur := (2 + cdiv payload.length n) * blockTime (linkRate s.dict h)
  let at_ := s.htxFree h
  let fl := (f.flags &&& 0xF7) ||| (if e < s.nat (Obj.HeadFiring.baseEnergy h) then 8 else 0)
  let s := s.setLine h { f with frame := .sent, frameStart := at_, frameEnd := at_ + dur, energy := e, drops := (codes.filter (· != 0)).length, flags := fl }
  let s := s.bump (Obj.PortStatus.framesSent h) 64
  (s.link h).foldl (fun s p => s.emit (.pier p at_ (laneBlocks start fin payload (s.laneOf p).1 n))) s

/-- The strobe instant of line `f` of head `h` as it stands: the committed one, or what a commit would fix now (R199, R200). -/
def State.strobeDue (s : State) (h : Nat) (f : FireLine) : Option Nat :=
  if f.st = .committed then some f.ts
  else (s.strobeAt h f).map (fun p => max p (s.now + 10 * s.nat Obj.FiringTiming.commitLead))

/-- `FRAME_SEND` (R203, R204): a frame that cannot finish by the deadline is not started. -/
def execFrameSend (t h : Nat) (s : State) : Host.Outcome State Fault Refusal :=
  fieldCmd t s (fun s =>
    match s.ready h with
    | none => s
    | some f =>
      let codes := f.codes.getD []
      let (_, n) := linkPorts s.dict h
      let blocks := if codes.all (· == 0) then 2 else 2 + cdiv (payloadCount s.dict h) n
      let fin := s.htxFree h + blocks * blockTime (linkRate s.dict h)
      let late : Bool := match s.strobeDue h f with | some ts => decide (ts < fin + 10 * s.nat Obj.FiringTiming.strobeSetup) | none => false
      if !s.owner || s.linkBusy h || s.behind h f || late then s else s.sendFrame h f codes)

/-- `FRAME_DEADLINE` (R204): the frame of a committed line is not complete at t_s − tSETUP. -/
def execFrameDeadline (t h : Nat) (s : State) : Host.Outcome State Fault Refusal :=
  fieldCmd t s (fun s =>
    match s.findLine h (fun f => f.st == .committed) with
    | none => s
    | some f =>
      let dl := f.ts - 10 * s.nat Obj.FiringTiming.strobeSetup
      if s.now < dl ∨ (f.frame = .sent ∧ f.frameEnd ≤ dl) then s
      else
        let s := if f.frame = .sent then s.cancelFrame h f 0
          else (s.sendCtrl h (labort f.line 0)).inc (Obj.PortStatus.framesAborted h)
        (s.setF (Obj.HeadFiring.lateData h) true).resolve h { f with frame := .aborted } 3)

/-! ### Strobes (R197-R201) -/

/-- `STROBE_COMMIT` (R199): the first uncommitted line whose prediction lies `CommitLead` or less ahead. -/
def execStrobeCommit (t h : Nat) (s : State) : Host.Outcome State Fault Refusal :=
  fieldCmd t s (fun s =>
    match s.findLine h (fun f => f.st == .waiting) with
    | none => s
    | some f => match s.predict (s.planeOf h) f.target with
      | none => s
      | some p => if p ≤ s.now + 10 * s.nat Obj.FiringTiming.commitLead then s.commitStrobe h f else s)

/-- `LINE_WITHHELD_RESOLVED` (R203): a line that a cause withholds, at t_s − `CommitLead` of its current prediction. -/
def execLineWithheldResolved (t h : Nat) (s : State) : Host.Outcome State Fault Refusal :=
  fieldCmd t s (fun s =>
    match s.findLine h (fun f => f.st == .waiting) with
    | none => s
    | some f => match s.predict (s.planeOf h) f.target with
      | none => s
      | some p =>
        if !s.owner || !s.withheld h f || decide (s.now + 10 * s.nat Obj.FiringTiming.commitLead < p) then s
        else match s.cause h f p with | some o => s.resolve h f o | none => s)

/-- Adds drop counts per energy class. -/
def addHeat (a b : List Nat) : List Nat := (List.range 4).map (fun i => a.getD i 0 + b.getD i 0)

/-- `STROBE` (R197): HSTBh rises at t_s for a line whose frame is complete. A measurement in progress is abandoned (R183). -/
def execStrobe (t h : Nat) (s : State) : Host.Outcome State Fault Refusal :=
  fieldCmd t s (fun s =>
    match s.findLine h (fun f => f.st == .committed) with
    | none => s
    | some f =>
      let dl := f.ts - 10 * s.nat Obj.FiringTiming.strobeSetup
      if s.now < f.ts ∨ f.frame ≠ .sent ∨ dl < f.frameEnd then s
      else
        let st := s.stamp .field
        let s := s.setLine h { f with st := .strobed, stamp := st }
        let s := s.setHead h { s.head h with hstb := true, hstbAt := s.now, resolved := some s.now, quiet := 0, heat := addHeat (s.head h).heat f.classes }
        let s := ((s.pin (.hstb h) true).captureField 3 (some h) st).abortChunk h
        let s := (s.endLate h f.line).record h { line := f.line, outcome := 0xFF, flags := f.flags, energy := f.energy, drops := f.drops, stamp := st
                                                 final := false }
        match s.dux.takeAt with
        | some d => (s.setDux { s.dux with takeAt := none }).setN Obj.DuplexStatus.lastGap (((s.now - d) / 10 : Nat) : Int)
        | none => s)

/-- `STROBE_END` (R197): HSTBh falls `StrobeWidth` after it rose. -/
def execStrobeEnd (t h : Nat) (s : State) : Host.Outcome State Fault Refusal :=
  fieldCmd t s (fun s =>
    if (s.head h).hstb ∧ (s.head h).hstbAt + 10 * s.nat Obj.FiringTiming.strobeWidth ≤ s.now then
      (s.setHead h { s.head h with hstb := false }).pin (.hstb h) false
    else s)

/-! ### The thermal state (R213-R215) -/

/-- The next thermal state (R213): T against `Tsoft` and `Thard` with a hysteresis of 2.0 °C, and the Soft and Hard flags of the STAT. -/
def nextThermal (old T soft hard : Nat) (sf hf : Bool) : Nat :=
  let calm := decide (T + 128 < soft) && !sf
  let isHard := decide (hard ≤ T) || hf
  match old with
  | 1 => if isHard then 2 else if calm then 0 else 1
  | 2 => if decide (T + 128 < hard) && !hf then (if calm then 0 else 1) else 2
  | _ => if isHard then 2 else if decide (soft ≤ T) || sf then 1 else 0

/-- The lines of head `h` whose strobe has risen, or can no longer be withdrawn, are at risk (R214). -/
def State.riskLines (s : State) (h : Nat) : State :=
  let hd := s.head h
  s.setHead h { hd with lines := hd.lines.map (fun f => if f.st = .waiting then f else { f with atRisk := true }) }

/-- Entry of head `h` into Hard (R214): committed strobes are withdrawn, pending lines are at risk, frames of later lines end. -/
def State.enterHard (s : State) (h : Nat) : State :=
  let s := ((((s.inc (Obj.HeadThermal.hardEntries h)).ev Ev.headHard [] h).withdrawHead h (some 4) 1).riskLines h)
  let s := ((s.head h).lines.filter (fun f => f.st == .waiting && f.frame == .sent)).foldl (fun s f =>
    (s.cancelFrame h f 1).setLine h { f with frame := .aborted }) s
  s.ev Ev.lineAtRisk [] h

/-- The thermal state moves (R213). -/
def State.thermal (s : State) (h : Nat) (n : Nat) : State :=
  let old := s.nat (Obj.HeadThermal.state h)
  let pend := (s.head h).hardPending
  let s := s.setN (Obj.HeadThermal.state h) n
  let s := if n = 2 ∧ old ≠ 2 then (s.setHead h { s.head h with hardPending := false }).enterHard h else s
  let s := if n = 1 ∧ (old = 0 ∨ old = 3) then s.ev Ev.headSoft [] h else s
  if n < 2 ∧ (old = 2 ∨ (old = 3 ∧ pend)) then
    (s.setHead h { s.head h with afterHard := true, hardPending := false }).ev Ev.headHardCleared [] h
  else s

/-! ### Confirmation (R208, R214, R216) -/

/-- A strobed line that the carrier did not fire: REJECTED, or BLANK_THERMAL with CarrierCut when a STAT of its window had Hard set; a STAT
of another kind that the cut-off shows by puts the head into Hard (R216). -/
def State.rejectLine (s : State) (h : Nat) (f : FireLine) (hard : Bool) : State :=
  if hard then
    let s := s.finalise h f 4 (f.flags ||| 2) f.stamp
    if f.cut ∧ s.nat (Obj.HeadThermal.state h) < 2 then s.thermal h 2 else s
  else s.finalise h f 9 f.flags f.stamp

/-- `CONFIRMATION_WINDOW_END` (R208): 4 µs after a strobe. -/
def execConfirmationWindowEnd (t h : Nat) (s : State) : Host.Outcome State Fault Refusal :=
  fieldCmd t s (fun s =>
    match s.findLine h (fun f => f.st == .strobed && decide (f.ts + 40000 ≤ s.now)) with
    | none => s
    | some f =>
      if f.sawStat then s.rejectLine h f f.sawHard
      else s.finalise h f (if f.atRisk then 1 else 12) f.flags f.stamp)

/-- What a LINE STAT says of the strobed lines whose window is open (R208). -/
def State.confirmLines (s : State) (h last : Nat) (bad hard : Bool) : State :=
  ((s.head h).lines.filter (fun f => f.st == .strobed && decide (f.ts ≤ s.now ∧ s.now < f.ts + 40000))).foldl (fun s f =>
    if low 24 f.line = last then s.finalise h f (if f.atRisk then 1 else 0) f.flags f.stamp
    else if bad then s.rejectLine h f (f.sawHard || hard)
    else s.setLine h { f with sawStat := true, sawHard := f.sawHard || hard }) s

/-- `LINE_STAT` (R181, R193, R207-R216). -/
def execLineStat (t h : Nat) (w : Block) (s : State) : Host.Outcome State Fault Refusal :=
  fieldCmd t s (fun s => s.onStat h 0 w (fun s =>
    let n := w.toNat
    let last := bits n 39 16; let raw := bits n 53 40; let ow := bits n 55 54
    let moved := (s.head h).lastStat != some last
    let s := s.setPort h { s.port h with statAt := s.now }
    let s := s.setN (Obj.PortStatus.owner h) (ownerCode ow)
    let s := s.setHead h { s.head h with lastStat := some last }
    let s := if moved then s.setDux { s.dux with lastLineAt := s.now } else s
    let s := if s.claims h && ow == 1 then s.portUpNow h else s
    let T := (clamp (raw + s.num (Obj.HeadCal.tempOffset h)) 0 16383).toNat
    let s := (s.setN (Obj.HeadCal.tempRaw h) raw).setN (Obj.HeadThermal.temperature h) T
    let follows := s.role == 2 && s.portState h == 4
    let judged := (s.portState h == 2 && ow == 1) || follows
    let next := fun (s : State) => nextThermal (s.nat (Obj.HeadThermal.state h)) T (s.nat (Obj.HeadThermal.tsoft h)) (s.nat (Obj.HeadThermal.thard h)) (bit n 13) (bit n 14)
    let s := if judged && next s == 2 && s.nat (Obj.HeadThermal.state h) != 2 then s.riskLines h else s
    let s := s.confirmLines h last (bit n 12 || bit n 15) (bit n 14)
    let s := if s.portState h = 2 ∧ ow ≠ 1 then s.ownershipLost h ow else s
    if judged then s.thermal h (next s) else s))

end Sys2Proof.Machine
end

