-- ==== Sys2Proof/Machine/Health.lean ====
section
/-! DEFINITION. The commands of nozzle health (spec/09) and of the head measurements that calibration shares (R456-R459). -/

namespace Sys2Proof.Machine

/-! ### Measurement -/

/-- A MEASURE goes out on port `h` (R180, R219). -/
def State.startChunk (s : State) (h first count kind : Nat) (conf : Bool) : State :=
  (s.setMeas h { s.meas_ h with chunk := some (first, count, kind, conf), got := 0 }).sendCtrl h (measureBlock first count kind)

/-- A chunk of `n` nozzles may start on head `h` (R219): the port UP, not in Hard, no chunk in progress, and idle for its length. A part
that does not own the carriers measures nothing (R454, R481). -/
def State.mayMeasure (s : State) (h n : Nat) : Bool :=
  s.owner && s.portUp h && s.nat (Obj.HeadThermal.state h) != 2 && (s.meas_ h).chunk.isNone && !s.waits .pier (h / 4)
    && s.headIdle h (n * 40000)

/-- `MEASURE_CHUNK_START` (R219, R222, R459): a confirmation that waits, then a temperature-offset run that is the next of its head,
then the next chunk of the sweep. -/
def execMeasureChunkStart (t h : Nat) (s : State) : Host.Outcome State Fault Refusal :=
  fieldCmd t s (fun s =>
    let x := s.meas_ h
    let N := nozzles s.dict h
    match x.confirm with
    | (i, _, _) :: _ => if s.mayMeasure h 1 then s.startChunk h i 1 0 true else s
    | [] =>
      if x.offset ∧ s.calFirst 4 h then (if s.mayMeasure h 1 then s.startChunk h 0 1 1 false else s)
      else if x.sweeping ∧ x.next < N then
        let n := min (s.nat (Obj.HeadHealth.measureChunk h)) (N - x.next)
        if s.mayMeasure h n then s.startChunk h x.next n 0 false else s
      else s)

/-- A result for a nozzle channel waits for the control cycle (R234). -/
def State.pushRes (s : State) (h i v : Nat) (c : Option Nat) : State :=
  { s with health := { s.health with res := s.health.res ++ [⟨channel s.dict h i, v, c⟩] } }

/-- A value of nozzle `i` is stored and classified (R221, R222). -/
def State.takeRes (s : State) (h i v : Nat) (conf : Bool) : State :=
  let s := s.storeRes h i v
  let c := s.resClass h v
  let x := s.meas_ h
  if conf then
    let first := x.confirm.head?
    let s := s.setMeas h { x with confirm := x.confirm.drop 1 }
    match first, c with
    | some (_, _, c0), some c1 => if c0 = c1 then s.pushRes h i v (some c1) else s
    | _, _ => s
  else
    let s := s.setMeas h { x with next := i + 1 }
    let s := s.setN (Obj.HeadHealth.sweepProgress h) ((i + 1 : Nat) : Int)
    match c with
    | none => s.pushRes h i v none
    | some c => s.setMeas h { s.meas_ h with confirm := (s.meas_ h).confirm ++ [(i, v, c)] }

/-- A sweep with every nozzle measured and every value confirmed is complete. -/
def State.endSweep (s : State) (h : Nat) : State :=
  let x := s.meas_ h
  if x.sweeping ∧ nozzles s.dict h ≤ x.next ∧ x.confirm.isEmpty ∧ 0 < nozzles s.dict h then s.sweepDone h else s

/-- A temperature-offset run ends (R459). -/
def State.endOffset (s : State) (h v : Nat) : State :=
  let off : Int := (v : Int) - s.num (Obj.HeadCal.tempRaw h)
  let s := s.setMeas h { s.meas_ h with offset := false }
  if off.natAbs ≤ s.nat Obj.CalLimits.tempOffsetLimit then (s.setN (Obj.HeadCal.tempOffset h) off).calEnd 4 h none
  else s.calEnd 4 h (some 1)

/-- `MEASURE_STAT` (R181, R183, R221, R222, R459). -/
def execMeasureStat (t h : Nat) (w : Block) (s : State) : Host.Outcome State Fault Refusal :=
  fieldCmd t s (fun s => s.onStat h 1 w (fun s =>
    let n := w.toNat
    let i := bits n 31 16; let v := bits n 45 32
    match (s.meas_ h).chunk with
    | none => s
    | some (first, count, kind, conf) =>
      if bit n 46 then (s.abortChunk h).serveWaits
      else if i < first ∨ first + count ≤ i then s
      else
        let x := s.meas_ h
        let done := bit n 47 || decide (x.got + 1 ≥ count)
        let s := s.setMeas h { x with got := x.got + 1, chunk := if done then none else x.chunk }
        let s := if kind = 1 then s.endOffset h v else (s.takeRes h i v conf).endSweep h
        if done then s.serveWaits else s))

/-- `SWEEP_START` (R220): the interval has passed since the last complete sweep, or a new carrier came UP. -/
def execSweepStart (t h : Nat) (s : State) : Host.Outcome State Fault Refusal :=
  fieldCmd t s (fun s =>
    let x := s.meas_ h
    let p := s.nat (Obj.HeadHealth.sweepInterval h)
    let due := x.due || (decide (0 < p) && decide (x.doneAt + 10 ^ 9 * (p : Int) ≤ s.tim.slave.ns))
    if h < s.nHeads ∧ 0 < nozzles s.dict h ∧ !x.sweeping ∧ due then s.startSweep h else s)

/-- A write of `SweepNow`: absorbed by a sweep in progress. -/
def wrSweepNow (h : Nat) (s : State) : State × Nat := (if (s.meas_ h).sweeping then s else s.startSweep h, 0)

/-- `SWEEP_NOW` (R220). -/
def execSweepNow (t : Nat) (a : Caller) (h : Nat) (v : Bytes) (s : State) : Host.Outcome State Fault Refusal :=
  access t s (fun s => s.write a (Obj.HeadHealth.sweepNow h) v (fun _ => wrSweepNow h))

/-! ### Probes and pending entries (R227, R232) -/

/-- An enabled camera covers the column of a channel (R226, R232, R259). -/
def State.covered (s : State) (ch : Nat) : Bool :=
  match chanPlace s.dict ch with
  | none => false
  | some (k, h, i) => s.coveredColumn s.dict k (column s.dict h i)

/-- `PROBE_HOLDOFF` (R232, R234): an applied entry enters probe in the next control cycle. -/
def execProbeHoldoff (t n : Nat) (s : State) : Host.Outcome State Fault Refusal :=
  fieldCmd t s (fun s =>
    match s.defect n with
    | none => s
    | some e =>
      if e.applied ∧ !e.probe ∧ e.source ≤ 1 ∧ e.okSince ∧ s.nat Obj.HealthControl.mode = 0 ∧ s.covered n
          ∧ e.appliedAt + 10 ^ 9 * s.num Obj.HealthControl.probeHoldoff ≤ s.tim.slave.ns then
        { s with health := { s.health with probes := if s.health.probes.contains n then s.health.probes else s.health.probes ++ [n] } }
      else s)

/-- `PENDING_TIMEOUT` (R227): a pending entry without a valid window. -/
def execPendingTimeout (t n : Nat) (s : State) : Host.Outcome State Fault Refusal :=
  fieldCmd t s (fun s =>
    match s.defect n with
    | none => s
    | some e =>
      if !e.applied ∧ !e.proposed ∧ e.validAt + 10 ^ 9 * s.num Obj.HealthControl.pendingTimeout ≤ s.tim.slave.ns then s.dropDefect n else s)

/-! ### Host writes (R227, R233, R236) -/

/-- A write of `Confirm` (R227). -/
def wrConfirm (x : Val) (s : State) : State × Nat :=
  if s.pool ≤ x.nat then (s, 0x02010001)
  else match s.defect x.nat with
  | some e => if e.proposed then (s.applyDefect e Ev.defectApplied, 0) else (s, 0x03010004)
  | none => (s, 0x03010004)

/-- A write of `DefectRemove` (R233). -/
def wrDefectRemove (x : Val) (s : State) : State × Nat :=
  if s.pool ≤ x.nat then (s, 0x02010001)
  else if (s.defect x.nat).isSome then (s.dropDefect x.nat, 0)
  else if s.health.queue.any (fun e => e.chan == x.nat) then
    (s.setHealth { s.health with queue := s.health.queue.filter (fun e => e.chan != x.nat) }, 0)
  else (s, 0x03010004)

/-- The entry that a 16-byte record of `DefectWrite` spells; none where it breaks R233. -/
def State.parseDefect (s : State) (b : Bytes) : Option Defect :=
  let fl := fld b 7 1
  let m := bits fl 5 4; let forced := bit fl 6; let method := fld b 6 1
  if fld b 0 4 < s.pool ∧ fld b 4 1 = 6 ∧ fld b 5 1 = 2 ∧ 1 ≤ m ∧ fl % 16 = 0 ∧ fl < 128 ∧ (if forced then decide (method ≤ 4) else method == 0)
      ∧ fld b 8 4 = 0 ∧ fld b 12 4 = 0 then
    some { s.blankDefect (fld b 0 4) 6 2 with method := method, manual := m, forced := forced }
  else none

/-- The records of a `DefectWrite`. -/
def splitRecs : Nat → Bytes → List Bytes
  | 0, _ => []
  | n + 1, b => b.take 16 :: splitRecs n (b.drop 16)

/-- A write of `DefectWrite` (R233, R236): whole or not at all, and refused by a table that is full or would overflow. -/
def wrDefectWrite (x : Val) (s : State) : State × Nat :=
  let b := x.byt
  let l := (splitRecs (b.length / 16) b).map s.parseDefect
  if b.length % 16 ≠ 0 ∨ b.length < 16 ∨ 4096 < b.length ∨ l.any Option.isNone then (s, 0x02010001)
  else
    let es := l.filterMap id
    let fresh := (es.map (·.chan)).eraseDups.filter (fun c => (s.defect c).isNone)
    if 4096 ≤ s.health.table.length ∨ 4096 < s.health.table.length + fresh.length then (s, 0x06010003)
    else (es.foldl (fun s e =>
      let s := s.setHealth { s.health with queue := s.health.queue.filter (fun q => q.chan != e.chan) }
      s.applyDefect e Ev.defectApplied) s, 0)

/-- `DEFECT_CONFIRM` (R227). -/
def execDefectConfirm (t : Nat) (a : Caller) (v : Bytes) (s : State) : Host.Outcome State Fault Refusal :=
  access t s (fun s => s.write a Obj.DefectEdit.confirm v wrConfirm)

/-- `DEFECT_REMOVE` (R233). -/
def execDefectRemove (t : Nat) (a : Caller) (v : Bytes) (s : State) : Host.Outcome State Fault Refusal :=
  access t s (fun s => s.write a Obj.DefectEdit.defectRemove v wrDefectRemove)

/-- `DEFECT_WRITE` (R233). -/
def execDefectWrite (t : Nat) (a : Caller) (v : Bytes) (s : State) : Host.Outcome State Fault Refusal :=
  access t s (fun s => s.write a Obj.DefectEdit.defectWrite v wrDefectWrite)

end Sys2Proof.Machine
end

