-- ==== Sys2Proof/Machine/CalRuns.lean ====
section
/-! DEFINITION. Calibration runs and ageing (spec/20): run requests, lane adaptation, overdue runs, ring oscillators and margin
re-planning. -/

namespace Sys2Proof.Machine

/-- Instances of a subject that the part has (R451). -/
def State.calInstances (s : State) : Nat → Nat
  | 1 | 3 | 4 => s.nHeads
  | 2 => s.nSub
  | 5 => s.nCams
  | _ => 0

/-- A flat-field run begins once its camera is enabled (R460). -/
def State.beginFlat (s : State) (c : Nat) : State :=
  if s.isDue 5 c ∧ s.flag (Obj.CameraPort.enable c) ∧ !s.cal.flats.any (fun f => f.1 == c) then
    s.setCal { s.cal with flats := s.cal.flats ++ [(c, ⟨s.now, 0, [], 0⟩)] }
  else s

/-- A write of `RunNow` of a subject (R451): a run of an instance is queued. -/
def wrRunNow (subj : Nat) (x : Val) (s : State) : State × Nat :=
  let i := x.nat
  if s.calInstances subj ≤ i then (s, 0x02010001)
  else match subj with
    | 1 => (s.calQueue 1 ((s.link i).headD i), 0)
    | 3 => ((s.calQueue 3 i).setMeas i { s.meas_ i with baseline := true }, 0)
    | 4 => ((s.calQueue 4 i).setMeas i { s.meas_ i with offset := true }, 0)
    | 5 => ((s.calQueue 5 i).beginFlat i, 0)
    | n => (s.calQueue n i, 0)

/-- `CAL_RUN_NOW` (R451). -/
def execCalRunNow (t : Nat) (a : Caller) (subj : Nat) (v : Bytes) (s : State) : Host.Outcome State Fault Refusal :=
  access t s (fun s => s.write a (Obj.CalSubject.runNow subj) v (wrRunNow subj))

/-- The check of R454 that a link's new eye widths fail: 1 `PierMinEye`, 2 half the width before the run. -/
def eyeCheck (least : Nat) : List (Option Nat × Nat) → Option Nat
  | [] => none
  | (old, w) :: r =>
    if w < least then some 1
    else match old with
      | some o => if 2 * w < o then some 2 else eyeCheck least r
      | none => eyeCheck least r

/-- `EyeWidthMin` of pier `p`: its least lane. -/
def State.showEye (s : State) (p : Nat) : State :=
  match (s.pierPorts p).filterMap (fun h => (s.port h).eye) with
  | [] => s
  | a :: r => s.setN (Obj.PierCal.eyeWidthMin p) ((r.foldl min a : Nat) : Int)

/-- `LANE_ADAPTATION` (R453, R454): a due adaptation of the link of `h` runs in an idle window and ends with the lanes' eye widths. Widths of
some lanes only: a strobe became predicted, and the run was aborted with the lanes restored. -/
def execLaneAdaptation (t h : Nat) (widths : List Nat) (s : State) : Host.Outcome State Fault Refusal :=
  fieldCmd t s (fun s =>
    let l := s.link h
    let i := l.headD h
    let up := l.all (fun p => s.portUp p || (!s.owner && s.portState p == 4))
    let idle := l.all (fun p => (s.meas_ p).chunk.isNone && (!s.owner || !inUse s.dict p || s.headIdle p (2000000 * l.length)))
    if !s.isDue 1 i || !up || !idle || decide (l.length < widths.length) then s
    else if widths.length < l.length then s.calAbort 1 i
    else
      let ws := l.zip widths
      match eyeCheck (s.nat Obj.CalLimits.pierMinEye) (ws.map (fun x => ((s.port x.1).eye, x.2))) with
      | some c => s.calEnd 1 i (some c)
      | none =>
        let s := ws.foldl (fun s (x : Nat × Nat) => s.setPort x.1 { s.port x.1 with eye := some x.2 }) s
        ((s.calEnd 1 i none).setN (Obj.PierCal.adaptTemp (h / 4)) (s.num Obj.Ageing.dieTemp)).showEye (h / 4))

/-- `CALIBRATION_OVERDUE` (R452): a run without a window for `DeferWarn`, reported once. -/
def execCalibrationOverdue (t subj inst : Nat) (s : State) : Host.Outcome State Fault Refusal :=
  fieldCmd t s (fun s =>
    match s.cal.due.find? (fun d => d.subj == subj && d.inst == inst) with
    | none => s
    | some d =>
      if !d.warned ∧ d.since + 10 ^ 9 * s.num Obj.CalLimits.deferWarn ≤ s.tim.slave.ns then
        (s.setDue (s.cal.due.map (fun x => if x.subj = subj ∧ x.inst = inst then { x with warned := true } else x))).ev Ev.calibrationOverdue [] subj
      else s)

/-- `RO_MEASURE` (R461): the shift of each ring-oscillator site, in 0.01%, once a second has passed since the last. -/
def execRoMeasure (t : Nat) (shifts : List Int) (s : State) : Host.Outcome State Fault Refusal :=
  fieldCmd t s (fun s =>
    if (match s.cal.roAt with | some a => decide (s.now < a + 10 ^ 10) | none => false) then s
    else
      (s.setCal { s.cal with roAt := some s.now }).setB Obj.Ageing.roShift
        ((List.range 16).map (fun i => leBytes 2 (shifts.getD i 0))).flatten)

/-- Triggers by temperature (R451): DieTemp is the mean of the 16 sensors; a move beyond the limit from the value at an instance's last
accepted run makes pier links and subchannels due. -/
def State.dieTemps (s : State) (temps : List Nat) : State :=
  if temps.isEmpty then s
  else
    let s := s.setN Obj.Ageing.dieTemp (freeDiv (temps.sum : Nat) temps.length)
    let d := s.num Obj.Ageing.dieTemp
    let lim := fun (subj : Nat) => if subj = 1 then s.nat Obj.CalLimits.pierTempDelta else s.nat Obj.CalLimits.dramTempDelta
    s.cal.temps.foldl (fun s (p : Nat × Nat) =>
      let subj := p.1 / 256
      if (subj = 1 ∨ subj = 2) ∧ 64 * lim subj < (d - p.2).natAbs then s.calAuto subj (p.1 % 256) else s) s

/-! ### Margin re-planning (R462) -/

/-- The least path margin measured at a voltage and frequency. -/
def leastMargin (l : List PathMargin) (mv mhz : Nat) : Option Int :=
  (l.filter (fun m => m.mv == mv && m.mhz == mhz)).foldl (fun a m => match a with | none => some m.ps | some x => some (min x m.ps)) none

/-- The search of R462 at point `n`: guardband, frequency, the margin accepted and whether the target was out of reach. A margin that
the test did not deliver is a free value. -/
def replanLoop (l : List PathMargin) (target nominal n free : Nat) : Nat → Nat → Nat → Nat × Nat × Int × Bool
  | 0, g, f => (g, f, 0, true)
  | k + 1, g, f =>
    let m := (leastMargin l (nominal + g) f).getD (sext 16 (Config.freeNat (free + k)))
    if (target : Int) ≤ m then (g, f, m, false)
    else if g + 5 ≤ 40 ∧ nominal + g + 5 ≤ 900 then replanLoop l target nominal n free k (g + 5) f
    else if n = 3 ∧ 800 ≤ f - 25 ∧ 25 ≤ f then replanLoop l target nominal n free k g (f - 25)
    else (g, f, m, true)

/-- FCORE moves to a point one step at a time under R423, each step a completed transition with its voltage write. -/
def State.stepPoints (s : State) (n : Nat) : Nat → State
  | 0 => s
  | k + 1 =>
    let cur := s.nat Obj.Dvfs.opInForce
    if cur = n then s
    else
      let m := if cur < n then cur + 1 else cur - 1
      State.stepPoints (((s.emit (.avs (s.opVolt m))).setN Obj.Dvfs.opInForce m).inc Obj.Dvfs.dvfsTransitions) n k

/-- Margin re-planning of one point, with FCORE there. -/
def State.replanPoint (s : State) (l : List PathMargin) (n : Nat) : State :=
  let g0 := s.nat (Obj.OperatingPoint.guardband n); let f0 := s.nat (Obj.OperatingPoint.frequency n)
  let s := s.stepPoints n 3
  let (g, f, m, bad) := replanLoop l (s.nat Obj.Ageing.marginTarget) (s.nat (Obj.OperatingPoint.nominalVoltage n)) n s.free 64 g0 f0
  let s := { s with free := s.free + 64 }
  let s := ((s.setN (Obj.OperatingPoint.guardband n) g).setN (Obj.OperatingPoint.frequency n) f)
  let s := if g = g0 then s else s.emit (.avs (s.opVolt n))
  let s := if n = 3 then s.setF (Obj.OperatingPoint.derated n) (decide (f < 1000)) else s
  let b := s.byt Obj.Ageing.pathMargin
  let b := (b ++ List.replicate (8 - b.length) 0#8).take 8
  let s := s.setB Obj.Ageing.pathMargin (b.take (2 * n) ++ leBytes 2 m ++ b.drop (2 * n + 2))
  let s := if g ≠ g0 then s.logAgeing 1 n g0 g f0 f m else s
  let s := if f ≠ f0 then s.logAgeing 2 n g0 g f0 f m else s
  if bad then ((s.logAgeing 3 n g0 g f0 f m).ev Ev.marginExhausted).setN Obj.Ageing.replanState 3 else s

/-- Margin re-planning over the four points (R462); it ends at `OpTarget`. -/
def State.replan (s : State) (l : List PathMargin) : State :=
  let s := s.setN Obj.Ageing.replanState 2
  let s := s.each [0, 1, 2, 3] (fun s n => s.replanPoint l n)
  s.stepPoints (s.nat Obj.Dvfs.opTarget) 3

/-- A write of `ReplanNow` (R462): only in HOLD with every plane and camera port disabled. -/
def wrReplanNow (l : List PathMargin) (s : State) : State × Nat :=
  if s.anyPlane then (s, 0x03010001)
  else if (List.range 4).any (fun c => s.flag (Obj.CameraPort.enable c)) then (s, 0x03010005)
  else if s.pow.state ≠ 1 then (s, 0x03010001)
  else (s.replan l, 0)

/-- `REPLAN_NOW` (R462). -/
def execReplanNow (t : Nat) (a : Caller) (v : Bytes) (margins : List PathMargin) (s : State) : Host.Outcome State Fault Refusal :=
  access t s (fun s => s.write a Obj.Ageing.replanNow v (fun _ => wrReplanNow margins))

end Sys2Proof.Machine
end

