-- ==== Sys2Proof/Machine/Pipeline.lean ====
section
/-! DEFINITION. The arithmetic of the image pipeline (spec/10, R238, R254-R264) as functions of one frame: its objects in force at its
Frame Start and its received lines. -/

namespace Sys2Proof.Machine

/-! ### Unpacking (R238, R254) -/

/-- Bits [hi:lo] of byte `i`. -/
def byteField (b : Bytes) (i hi lo : Nat) : Nat := bits (fld b i 1) hi lo

/-- The raw pixels of a payload as CSI-2 packs RAW10, RAW12 and RAW14 (the standard that R238 names). -/
def rawPixels (dt : Nat) (b : Bytes) : List Nat :=
  match dt with
  | 0x2B => (chunks 5 b.length b).flatMap (fun g => (List.range 4).map (fun i => fld g i 1 * 4 + byteField g 4 (2 * i + 1) (2 * i)))
  | 0x2D => (chunks 7 b.length b).flatMap (fun g =>
      let lowBits := fld g 4 3
      (List.range 4).map (fun i => fld g i 1 * 64 + bits lowBits (6 * i + 5) (6 * i)))
  | _ => (chunks 3 b.length b).flatMap (fun g => [fld g 0 1 * 16 + byteField g 2 3 0, fld g 1 1 * 16 + byteField g 2 7 4])

/-- Stage 1 (R254): a raw pixel as a U14. -/
def unpack (dt r : Nat) : Nat :=
  match dt with
  | 0x2B => r * 16 + r / 64
  | 0x2D => r
  | _ => r * 4 + r / 1024

/-! ### The frame -/

/-- Its camera's `Width`. -/
def Frame.width (f : Frame) : Nat := dnat f.cfg (Obj.CameraPort.width f.cam)
/-- Its camera's `Height`. -/
def Frame.height (f : Frame) : Nat := dnat f.cfg (Obj.CameraPort.height f.cam)
/-- Row `y` is valid (R239, R243). -/
def Frame.valid (f : Frame) (y : Nat) : Bool := match f.rows[y]? with | some (some _) => true | _ => false
/-- The rows that are valid. -/
def Frame.validRows (f : Frame) : List Nat := (List.range f.height).filter f.valid
/-- The stage-1 value at a pixel; 0 on an invalid line (R250). -/
def Frame.p1 (f : Frame) (x y : Nat) : Nat := match f.rows[y]? with | some (some r) => r.getD x 0 | _ => 0

/-- Stage 2 (R254): black level by CFA phase. -/
def Frame.p2 (f : Frame) (x y : Nat) : Nat := f.p1 x y - dnat f.cfg (Obj.PipelineConfig.blackLevel f.cam (2 * (y % 2) + x % 2))

/-- `CfaPattern`. -/
def Frame.cfa (f : Frame) : Nat := dnat f.cfg (Obj.PipelineConfig.cfaPattern f.cam)

/-- A pixel is in the defective-pixel list (R255). -/
def Frame.listed (f : Frame) (x y : Nat) : Bool :=
  (chunks 4 4096 (dbyt f.cfg (Obj.defectPixels f.cam))).any (fun e => bits (leNat e) 12 0 == x && bits (leNat e) 25 13 == y)

/-- Stage 3 (R255) at column `x` of row `y`, with fuel for the rows above. -/
def Frame.p3At (f : Frame) : Nat → Nat → Nat → Nat
  | 0, _, _ => 0
  | n + 1, x, y =>
    if !f.listed x y then f.p2 x y
    else
      let s := if f.cfa = 0 then 1 else 2
      let l := if s ≤ x ∧ !f.listed (x - s) y then [f.p2 (x - s) y] else []
      let r := if x + s < f.width ∧ !f.listed (x + s) y then [f.p2 (x + s) y] else []
      match l ++ r with
      | [a, b] => (a + b + 1) / 2
      | [a] => a
      | _ => if y < s then 0 else f.p3At n x (y - s)

/-- Stage 3. -/
def Frame.p3 (f : Frame) (x y : Nat) : Nat := f.p3At (y + 1) x y

/-- Flat-field entry `x` of a table (R256). -/
def flatEntry (b : Bytes) (x : Nat) : Nat := if b.isEmpty then 0x4000 else fld b (4 * x) 4

/-- Stage 4 (R256). -/
def Frame.p4 (f : Frame) (x y : Nat) : Nat :=
  let e := flatEntry (dbyt f.cfg (Obj.flatField f.cam)) x
  (clamp (((f.p3 x y * bits e 15 0 + 8192) / 16384 : Nat) + sext 14 (bits e 31 16)) 0 16383).toNat

/-- The colour that a pixel carries under a Bayer pattern: 0 R, 1 G, 2 B (R257). -/
def bayer (pattern x y : Nat) : Nat :=
  let row0 := match pattern with | 1 => [0, 1, 1, 2] | 2 => [1, 0, 2, 1] | 3 => [1, 2, 0, 1] | _ => [2, 1, 1, 0]
  row0.getD (2 * (y % 2) + x % 2) 1

/-- A coordinate mirrored into 0 … n − 1 (R257). -/
def mirrorIn (n : Nat) (x : Int) : Nat := if x < 0 then (-x).toNat else if x < n then x.toNat else (2 * (n : Int) - 2 - x).toNat

/-- The line that stands in for line `y` (R257): itself where it is valid, else the nearest valid line of its parity. -/
def Frame.validLine (f : Frame) (y : Nat) : Option Nat :=
  if f.valid y then some y
  else
    let l := f.validRows.filter (fun r => r % 2 == y % 2)
    let dist := fun (r : Nat) => max r y - min r y
    match (l.map dist).foldl (fun (m : Option Nat) d => match m with | none => some d | some e => some (min d e)) none with
    | none => none
    | some d => match l.filter (fun r => dist r == d) with
      | [a, b] => if Config.openVal 3 [f.start, (y : Int)] % 2 = 0 then some a else some b
      | a :: _ => some a
      | [] => none

/-- The stage-4 value of a neighbour (R257). -/
def Frame.near4 (f : Frame) (x y : Int) : Nat :=
  match f.validLine (mirrorIn f.height y) with
  | some r => f.p4 (mirrorIn f.width x) r
  | none => Config.openVal 2 [f.start, x, y]

/-- Colour `k` at a pixel (R257). -/
def Frame.colour (f : Frame) (x y k : Nat) : Nat :=
  let c := fun (dx dy : Nat) => bayer f.cfa (x + dx) (y + dy)
  if f.cfa = 0 ∨ c 0 0 = k then f.p4 x y
  else
    let at_ := fun (d : Int × Int) => f.near4 (x + d.1) (y + d.2)
    let row : List (Int × Int) := [(-1, 0), (1, 0)]
    let col : List (Int × Int) := [(0, -1), (0, 1)]
    let l := if c 1 0 = k ∧ c 0 1 = k then row ++ col else if c 1 0 = k then row else if c 0 1 = k then col
      else [(-1, -1), (1, -1), (-1, 1), (1, 1)]
    ((l.map at_).sum + l.length / 2) / l.length

/-- Stage 5: R, G and B of a pixel. -/
def Frame.rgb (f : Frame) (x y : Nat) : List Nat := [f.colour x y 0, f.colour x y 1, f.colour x y 2]

/-! ### Density (R258) -/

/-- The greatest v up to 2^`n` − 1, found bit by bit, for which 10^(2v − 1) m^8192 ≤ 16383^8192. -/
def logSearch (m : Nat) : Nat → Nat → Nat
  | 0, v => v
  | n + 1, v =>
    let w := v + 2 ^ n
    if 10 ^ (2 * w - 1) * m ^ 8192 ≤ 16383 ^ 8192 then logSearch m n w else logSearch m n v

/-- The default density LUT entry `t`: min(16,383, round(4,096 log10(16,383 / max(16t, 1)))). -/
def densityDefault (t : Nat) : Nat := min 16383 (logSearch (max (16 * t) 1) 15 0)

/-- Entry `t` of channel `i` of a density LUT. -/
def lutEntry (b : Bytes) (i t : Nat) : Nat := if b.isEmpty then densityDefault t else fld b (2 * (1024 * i + t)) 2

/-- D_i: the LUT interpolated as a tone curve (R152, R258). -/
def density (b : Bytes) (i u : Nat) : Nat :=
  let t := u / 16; let a : Int := lutEntry b i t
  (a + (((lutEntry b i (min (t + 1) 1023) : Int) - a) * (u % 16 : Nat) + 8) / 16).toNat

/-- The default colour matrix: five rows of M(j, 0), M(j, 1), M(j, 2), Off_j. -/
def matrixDefault : List Int := [4096, 0, 0, 0, 0, 4096, 0, 0, 0, 0, 4096, 0, 0, 0, 0, 0, 1365, 1365, 1365, 0]

/-- Value `i` of row `j` of a colour matrix; `i` = 3 is the offset. -/
def matrixAt (b : Bytes) (j i : Nat) : Int := if b.isEmpty then matrixDefault.getD (4 * j + i) 0 else sfld b (2 * (4 * j + i)) 2

/-- Stage 6: output `j` of a pixel (R258). -/
def Frame.out (f : Frame) (x y j : Nat) : Nat :=
  let lut := dbyt f.cfg (Obj.densityLut f.cam); let m := dbyt f.cfg (Obj.colourMatrix f.cam)
  let t : Int := ((List.range 3).map (fun i => matrixAt m j i * density lut i (f.colour x y i))).sum
  (clamp ((t + 2048) / 4096 + matrixAt m j 3) 0 16383).toNat

/-! ### Geometry (R259, R260) -/

/-- u of inspection column `X`. -/
def Frame.uAt (f : Frame) (X : Nat) : Int := dnum f.cfg (Obj.PipelineConfig.u0 f.cam) + X * dnum f.cfg (Obj.PipelineConfig.step f.cam)

/-- Output `j` at inspection column `X` of row `y`; none where the column is uncovered. -/
def Frame.insp (f : Frame) (X y j : Nat) : Option Nat :=
  let u := f.uAt X
  let i := u / 65536
  if i < 0 ∨ i > (f.width : Int) - 1 then none
  else
    let n := i.toNat
    let fr := (u / 256 % 256).toNat
    let a := f.out n y j
    let b := if n + 1 < f.width then f.out (n + 1) y j else a
    some ((a * (256 - fr) + b * fr + 128) / 256)

/-- The columns that the camera outputs. -/
def Frame.cover (f : Frame) : List Nat :=
  let a := dnat f.cfg (Obj.PipelineConfig.coverStart f.cam)
  (List.range (dnat f.cfg (Obj.PipelineConfig.coverEnd f.cam) + 1 - a)).map (· + a)

/-- P(y): the along-web position of row `y`, in schedule counts (R260). -/
def Frame.rowPos (f : Frame) (y : Nat) : Int :=
  (match f.exp with | some e => e.pos | none => 0) + dnum f.cfg (Obj.PipelineConfig.rowOrigin f.cam)
    + ((y : Int) * dnum f.cfg (Obj.PipelineConfig.rowPitch f.cam) + 32768) / 65536

/-! ### Metadata and statistics (R249, R264) -/

/-- The metadata record, given the generation carried, Mixed and SettingsFault. -/
def Frame.meta (f : Frame) (gen : Nat) (mixed fault : Bool) : Bytes :=
  let n := f.rows.length
  let v := f.validRows.length
  let short := decide (n < f.height)
  let b := fun (c : Bool) (k : Nat) => if c then 2 ^ k else 0
  let e := f.exp
  let get := fun (g : Expect → Int) => match e with | some x => g x | none => 0
  let flag := fun (g : Expect → Bool) => match e with | some x => g x | none => false
  let part := decide (v < f.height) || mixed || fault
  let flags := b part 0 + b short 1 + b f.long 2 + b mixed 3 + b fault 4 + b (flag (·.delayed)) 5 + b (flag (·.late)) 6 + b f.inLine 7
  leBytes 4 f.num ++ leBytes 2 gen ++ leBytes 2 f.field ++ leBytes 6 (get (·.key))
    ++ leBytes 2 (get (fun x => if x.lineKey then ((x.phase + 1024 + 2048 * x.plane : Nat) : Int) else 0)) ++ leBytes 6 (get (·.pos))
    ++ leBytes 1 f.cam ++ leBytes 1 flags ++ leBytes 4 (get (fun x => (stamp32 x.tp : Nat))) ++ leBytes 4 ((stamp32 f.start : Nat) : Int)
    ++ leBytes 2 ((min n f.height : Nat) : Int) ++ leBytes 2 v ++ leBytes 4 0

/-- The frame is Partial (R244). -/
def Frame.isPartial (f : Frame) : Bool := bit (fld f.head 23 1) 0

/-- The valid pixels of a frame. -/
def Frame.pixels (f : Frame) : List (Nat × Nat) := f.validRows.flatMap (fun y => (List.range f.width).map (fun x => (x, y)))

/-- The mean of a value over the valid pixels, rounded down. -/
def Frame.mean (f : Frame) (tag : Int) (g : Nat → Nat → Nat) : Nat :=
  let l := f.pixels
  if l.isEmpty then Config.openVal 4 [f.start, tag] else (l.map (fun p => g p.1 p.2)).sum / l.length

/-- The statistics record (R264). -/
def Frame.stats (f : Frame) : Bytes :=
  f.head ++ ((List.range 3).map (fun (k : Nat) => leBytes 2 (f.mean (k : Int) (fun x y => f.colour x y k) : Nat))).flatten
    ++ leBytes 2 (f.mean 3 (fun x y => f.out x y 4) : Nat)
    ++ leBytes 4 ((f.pixels.filter (fun p => f.p1 p.1 p.2 == 16383)).length : Nat)
    ++ leBytes 4 ((f.pixels.filter (fun p => f.p2 p.1 p.2 == 0)).length : Nat) ++ leBytes 8 0

/-- Entry `t` of a preview LUT; by default t >> 2. -/
def previewEntry (b : Bytes) (t : Nat) : Nat := if b.isEmpty then t / 4 else fld b t 1

/-- The preview of a frame at scale `s` (R262): 8-bit R, G, B by pixel, row by row. -/
def Frame.preview (f : Frame) (s : Nat) : Bytes :=
  let lut := dbyt f.cfg (Obj.previewLut f.cam)
  (List.range (f.height / s)).flatMap (fun Y => (List.range (f.width / s)).flatMap (fun X =>
    let bad := (List.range s).any (fun j => !f.valid (Y * s + j))
    (List.range 3).flatMap (fun k =>
      let t := ((List.range s).flatMap (fun j => (List.range s).map (fun i => f.colour (X * s + i) (Y * s + j) k))).sum
      leBytes 1 (if bad then 0 else (previewEntry lut ((t + s * s / 2) / (s * s) / 16) : Int)))))

/-- The bytes of the ring slot that holds a frame (R250): the metadata padded to 64 bytes, then its pixels in 16-bit containers, row by row;
zeros on an invalid line. -/
def Frame.slotBytes (f : Frame) : Bytes :=
  f.head ++ List.replicate (64 - f.head.length) 0#8 ++ (List.range f.height).flatMap (fun y => (List.range f.width).flatMap (fun x => leBytes 2 (f.p1 x y)))

/-- The pixel that a slot holds at column `x` of row `y` of a frame `w` pixels wide (R250). -/
def slotPixel (slot : Bytes) (w x y : Nat) : Nat := fld slot (64 + 2 * (w * y + x)) 2

/-- Pixels of a rectangle as U14 in 16-bit containers (R263): from the ring slot for stage 1, or from stage 4; invalid rows as zeros. -/
def Frame.code (f : Frame) (source x y w h : Nat) : Bytes :=
  let slot := f.slotBytes
  (List.range h).flatMap (fun j => (List.range w).flatMap (fun i =>
    leBytes 2 (if source = 0 then (slotPixel slot f.width (x + i) (y + j) : Int) else if f.valid (y + j) then (f.p4 (x + i) (y + j) : Int) else 0)))

end Sys2Proof.Machine
end

