-- ==== Sys2Proof/Machine/CompOps.lean ====
section
/-! DEFINITION. Operations on compression jobs (spec/13): archive space, the output of an input block, the end of a job, completion
records, the STREAM messages of archive output, and camera coding (R263, R321). -/

namespace Sys2Proof.Machine

/-! ### Channels -/

/-- Channel `ch`. -/
def State.chan (s : State) (ch : Nat) : CompChan := smGet (fun _ => CompChan.init) s.comp.chans ch

/-- Channel `ch` replaced, with `State`, `QueueDepth` and `CurrentJob`. -/
def State.setChan (s : State) (ch : Nat) (x : CompChan) : State :=
  let s := { s with comp := { s.comp with chans := smSet (fun _ => CompChan.init) s.comp.chans ch x } }
  let s := s.setN (Obj.Channel.state ch) (if x.run.isNone then 0 else if x.stopAt.isSome then 2 else 1)
  (s.setN (Obj.Channel.queueDepth ch) x.queue.length).setN (Obj.Channel.currentJob ch) (match x.run with | some j => (j.id : Int) | none => 0)

/-- A channel is deep: C6 and C7 (R311). -/
def deep (ch : Nat) : Bool := decide (6 ≤ ch)

/-- Archive blocks leave or join the pool. -/
def State.archiveFree (s : State) (n : Int) : State :=
  s.setN Obj.CompressionControl.archiveBlocksFree (s.num Obj.CompressionControl.archiveBlocksFree + n)

/-- Bytes of an archive block. -/
def archiveBlock : Nat := 65536

/-- The bound of R313 for a job of `n` input bytes. -/
def jobBound (n : Nat) : Nat := n + 6 * cdiv n 32768 + 2

/-! ### Messages of archive output (R316, R318, R386) -/

/-- The waiting messages go while the Span stands and their ring has credit; a block returns to the pool when its last message goes. -/
def State.sendArchive (s : State) : State :=
  if s.span.lostF then s
  else
    let msgs := s.comp.out
    let s := { s with comp := { s.comp with out := [] } }
    msgs.foldl (fun (s : State) (m : ArchMsg) =>
      let blocked := s.comp.out.any (fun x => x.ring == m.ring)
      let credit : Nat := (smGet (fun _ => (0 : Nat)) s.span.credit m.ring)
      if m.ring < 64 ∧ (blocked ∨ credit = 0) then { s with comp := { s.comp with out := s.comp.out ++ [m] } }
      else
        let s := if m.ring < 64 then { s with span := { s.span with credit := smSet (fun _ => 0) s.span.credit m.ring (credit - 1) } } else s
        (s.streamField m.ring m.body).archiveFree m.blocks) s

/-- A message of job `j` joins those that wait. -/
def State.queueMsg (s : State) (ch : Nat) (j : Job) (body : Bytes) (blocks : Nat) (part : Option Nat) : State :=
  { s with comp := { s.comp with out := s.comp.out ++ [⟨ch, j.id, j.ring, body, blocks, part⟩] } }

/-- Output bytes of job `j` from offset `off` leave in messages of at most 32,768 bytes; with them `blocks` archive blocks. -/
def State.queueOutput (s : State) (ch : Nat) (j : Job) (off : Nat) (data : Bytes) (blocks : Nat) : State :=
  let n := cdiv data.length 32768
  (List.range n).foldl (fun s i =>
    let o := off + 32768 * i
    s.queueMsg ch j (streamHead 3 ch (if o = 0 then 1 else 0) j.id o 0xFFFFFFFF (s.stamp .field) ++ sub data (32768 * i) 32768)
      (if i + 1 = n then blocks else 0) (some (o / archiveBlock))) s

/-- The completion record of job `j` (R322). -/
def Job.record (j : Job) (ch status stamp : Nat) : Bytes :=
  leBytes 4 j.id ++ leBytes 1 ch ++ leBytes 1 status
    ++ leBytes 1 ((if j.raw then 1 else 0) + (if status = 1 then 0 else 2) + (if j.frame.isSome then 4 else 0) : Nat) ++ leBytes 1 0
    ++ leBytes 8 j.consumed ++ leBytes 8 j.produced ++ leBytes 4 j.blocks ++ leBytes 4 j.stored ++ leBytes 4 (j.start.getD 0)
    ++ leBytes 4 stamp ++ leBytes 4 ((~~~ j.crc).toNat : Int) ++ leBytes 4 j.tag

/-- What follows a coding job's record: the frame's metadata and, for a crop, its rectangle (R322). -/
def Job.trailer (j : Job) : Bytes :=
  match j.frame with
  | none => []
  | some f => j.head ++ (match f.crop with | some l => (l.map (fun (n : Nat) => leBytes 2 n)).flatten | none => [])

/-- A record of job `j` follows its output, and stands in `LastCompletion`. -/
def State.queueRecord (s : State) (ch : Nat) (j : Job) (status : Nat) : State :=
  let stamp := s.stamp .field
  let r := j.record ch status stamp
  let len := if status = 1 then 0xFFFFFFFF else j.produced
  let fl := (if j.produced = 0 then 1 else 0) + (if status = 1 then 0 else 2)
  (s.setB (Obj.Channel.lastCompletion ch) r).queueMsg ch j (streamHead 3 ch fl j.id j.produced len stamp ++ r ++ j.trailer) 0 none

/-! ### The end of a job (R315, R322-R324) -/

/-- A frame that no job and no pipeline needs leaves its ring slot (R250). -/
def freeSlots (l : List Frame) : List Frame := l.filter (fun f => !(f.done && f.jobs == 0))

/-- Camera `c`. -/
def State.cam (s : State) (c : Nat) : Cam := smGet (fun _ => Cam.init) s.cams.cam c
/-- Camera `c` replaced. -/
def State.setCam (s : State) (c : Nat) (x : Cam) : State :=
  { s with cams := { s.cams with cam := smSet (fun _ => Cam.init) s.cams.cam c x } }

/-- `BacklogFrames`: the through-memory frames that wait. -/
def State.showBacklog (s : State) : State :=
  s.setN Obj.CameraSelect.backlogFrames (((List.range 4).flatMap (fun c => (s.cam c).ring.filter (fun f => !f.done))).length : Nat)

/-- A coding job lets go of its frame. -/
def State.releaseFrame (s : State) (j : Job) : State :=
  match j.frame with
  | none => s
  | some f =>
    let c := s.cam f.cam
    s.setCam f.cam { c with ring := freeSlots (c.ring.map (fun x => if x.num = f.num ∧ x.start = f.start ∧ x.jobs ≠ 0 then { x with jobs := x.jobs - 1 } else x)) }

/-- Messages that `p` picks are discarded, and their blocks return to the pool. -/
def State.dropMessages (s : State) (p : ArchMsg → Bool) : State :=
  let n := ((s.comp.out.filter p).map (·.blocks)).sum
  ({ s with comp := { s.comp with out := s.comp.out.filter (fun m => !p m) } }).archiveFree n

/-- Unsent output of a job is discarded, and its blocks return to the pool (R315, R323); its records stand. -/
def State.dropOutput (s : State) (ch id : Nat) : State := s.dropMessages (fun m => m.chan == ch && m.job == id && m.part.isSome)

/-- Job `j` of channel `ch` ends: its allotment and, unless DONE, its unsent output return; its record goes out. -/
def State.endJob (s : State) (ch : Nat) (j : Job) (status : Nat) : State :=
  let left := j.room / archiveBlock + (if j.fill.isEmpty ∨ status = 0 then 0 else 1)
  let s := s.archiveFree left
  let s := if status = 0 then s.queueOutput ch j (j.produced - j.fill.length) j.fill 1 else s.dropOutput ch j.id
  let s := if status = 0 then s.bump (Obj.Channel.jobsDone ch) 64 else s.inc (Obj.Channel.failures ch)
  (((s.releaseFrame j).queueRecord ch j status).sendArchive)

/-- The job that runs on channel `ch` ends; the channel is idle. -/
def State.endRun (s : State) (ch : Nat) (j : Job) (status : Nat) : State :=
  (s.setChan ch { s.chan ch with run := none, stopAt := none }).endJob ch j status

/-! ### The output of an input block (R310, R313-R316) -/

/-- Whole bytes of a bit string, and the bits left over. -/
def packBits (l : List Bool) : Bytes × List Bool :=
  let n := l.length / 8
  ((List.range n).map (fun i => BitVec.ofNat 8 (bitsNat ((l.drop (8 * i)).take 8))), l.drop (8 * n))

/-- The bits of a natural number, least significant first. -/
def natBits (w n : Nat) : List Bool := (List.range w).map (fun i => bit n i)

/-- A stored block after `p` bits of a started byte (R313). -/
def storedBits (p : Nat) (final : Bool) (b : Bytes) : List Bool :=
  [final, false, false] ++ List.replicate ((8 - (p + 3) % 8) % 8) false ++ natBits 16 b.length ++ natBits 16 (65535 - b.length) ++ streamBits b

/-- The block of type `ty` (1 fixed, 2 dynamic) that a channel makes of an input block: BFINAL, BTYPE and what follows (R310, R311). -/
def typedBlock (deep : Bool) (ty level : Nat) (hist data : Bytes) (last : Bool) : List Bool :=
  [last, decide (ty = 1), decide (ty = 2)] ++ Config.deflateBody deep ty level hist data last

/-- The compressed form of an input block (R311): dynamic on a deep channel; on the others fixed, dynamic or the shorter of the two by Mode. -/
def deflated (deep : Bool) (mode level : Nat) (hist data : Bytes) (last : Bool) : List Bool :=
  let f := typedBlock deep 1 level hist data last
  let d := typedBlock deep 2 level hist data last
  if deep ∨ mode = 1 then d
  else if mode = 0 then f
  else if f.length < d.length ∨ (f.length = d.length ∧ Config.openVal 6 [f.length, level] % 2 = 0) then f else d

/-- Bytes are written into the allotment of job `j`: full archive blocks leave at once; what does not fit is answered (R316). -/
def State.writeOut (s : State) (ch : Nat) : Nat → Job → Bytes → State × Job × Bytes
  | 0, j, b => (s, j, b)
  | n + 1, j, b =>
    if b.isEmpty ∨ j.room = 0 then (s, j, b)
    else
      let m := min (min b.length j.room) (archiveBlock - j.fill.length)
      let part := b.take m
      let j := { j with fill := j.fill ++ part, room := j.room - m, produced := j.produced + m, crc := part.foldl crc32Byte j.crc }
      let s := s.bump (Obj.Channel.bytesOut ch) 64 m
      if j.fill.length = archiveBlock then
        let s := s.queueOutput ch j (j.produced - archiveBlock) j.fill 1
        State.writeOut s ch n { j with fill := [] } (b.drop m)
      else State.writeOut s ch n j (b.drop m)

/-- Output of job `j` goes on from bytes `b`, of which the last belong to a block of `held` input bytes: when all fit the block is complete,
else the job stops (R316). `last`: the input ends with this block. -/
def State.emitOut (s : State) (ch : Nat) (j : Job) (b : Bytes) (last : Bool) : State :=
  let (s, j, left) := s.writeOut ch (b.length + 1) j b
  if !left.isEmpty then
    -- the allotment is full; a block that is full has left already
    let j := { j with rest := left }
    let s := s.setChan ch { s.chan ch with run := some j, stopAt := some s.now }
    let s := (s.queueRecord ch j 1).sendArchive
    if j.cancel then s.endRun ch j 5 else s
  else
    let s := s.bump (Obj.Channel.bytesIn ch) 64 j.held
    let j := { j with rest := [], consumed := j.consumed + j.held, held := 0, blocks := j.blocks + 1 }
    if last then s.endRun ch j 0
    else
      let s := (s.setChan ch { s.chan ch with run := some j, stopAt := none }).sendArchive
      if j.cancel then s.endRun ch j 5 else s

/-- An input block of the running job is compressed, verified and written (R310, R313-R316). -/
def State.inputBlock (s : State) (ch : Nat) (j : Job) (data : Bytes) : State :=
  let last := decide (j.len ≤ j.consumed + data.length)
  let j := { j with start := some (j.start.getD (s.stamp .field)), held := data.length }
  let store := storedBits j.bits.length last data
  let comp := if j.len = 0 then streamBits [0x03, 0x00] else deflated (deep ch) j.mode j.level j.hist data last
  let raw := j.len ≠ 0 && decide (store.length ≤ comp.length)
  if !raw && j.len ≠ 0 && !verifyBlock j.hist data last comp then
    ((s.endRun ch j 2).inc Obj.CompressionControl.verifyFailures).ev Ev.compressVerifyFail [] ch
  else
    let all := j.bits ++ (if raw then store else comp)
    let all := if last then all ++ List.replicate ((8 - all.length % 8) % 8) false else all
    let (bytes, bits) := packBits all
    let h := j.hist ++ data
    let j := { j with bits := bits, hist := h.drop (h.length - 32768), raw := j.raw || raw, stored := j.stored + (if raw then 1 else 0) }
    let s := if raw then s.bump (Obj.Channel.storedBlocks ch) 64 else s
    s.emitOut ch j bytes last

/-! ### Starting jobs (R320, R321) -/

/-- A job that has not begun. -/
def newJob (id : Nat) (sess : Option Nat) (ring len room : Nat) : Job :=
  { id := id, sess := sess, region := 5, mode := 2, level := 0, src := 0, len := len, ring := ring, tag := 0, frame := none, head := []
    input := [], room := room, fill := [], bits := [], rest := [], hist := [], held := 0, consumed := 0, produced := 0, sent := 0, blocks := 0
    stored := 0, raw := false, crc := 0xFFFFFFFF#32, start := none, cancel := false }

/-- A frame or crop becomes a coding job on the first free channel of `CodeChannels` (R263, R321); with none, or with too little archive
space, it is skipped. Answers whether a job started. -/
def State.codeJob (s : State) (f : Frame) (crop : Option (List Nat)) (data : Bytes) : State × Bool :=
  let need := cdiv (jobBound data.length) archiveBlock
  let ok := fun (ch : Nat) => bit (dnat f.cfg (Obj.Outputs.codeChannels f.cam)) ch && (s.chan ch).run.isNone && (s.chan ch).queue.isEmpty
  match (List.range 6).find? ok with
  | none => (s.inc (Obj.Outputs.codeSkipped f.cam), false)
  | some ch =>
    if s.num Obj.CompressionControl.archiveBlocksFree < (need : Int) then (s.inc (Obj.Outputs.codeSkipped f.cam), false)
    else
      let x := s.chan ch
      let j := { newJob (2 ^ 31 + x.coded % 2 ^ 31) none 0xFF data.length (need * archiveBlock) with
        frame := some { cam := f.cam, num := f.num, start := f.start, crop := crop }, head := f.head, input := data }
      (((s.archiveFree (-(need : Int))).setChan ch { x with run := some j, coded := x.coded + 1 }), true)

end Sys2Proof.Machine
end

