-- ==== Sys2Proof/Machine/InspOps.lean ====
section
/-! DEFINITION. The inspection analyser (spec/11): where a camera row lies on the print, the expected image, column statistics, the close
of a window with its findings, the defect-tile map, and the registration loops. -/

namespace Sys2Proof.Machine

/-! ### Where a row lies (R268, R269) -/

/-- A_k at a schedule position in 1/1024 line, rounded down. -/
def State.lineAt (s : State) (k : Nat) (P : Int) : Int :=
  let p := s.plane k
  (p.ancA + (P * 2 ^ 48 - p.ancS) * s.num (Obj.LineGenerator.linesPerCount k) / 2 ^ 48) / 2 ^ 38

/-- λ_k(y) in 1/1024 line; none for a row before the anchor. -/
def State.rowLine (s : State) (f : Frame) (k y : Nat) : Option Int :=
  let P := f.rowPos y
  if P * 2 ^ 48 < (s.plane k).ancS then none
  else some (s.lineAt k P - s.num (Obj.CameraOffset.cameraOffset f.cam k))

/-- ρ/2 in 2⁻⁶⁵ line: |`RowPitch` × `LinesPerCount`| (R273). -/
def State.halfRow (s : State) (f : Frame) (k : Nat) : Int :=
  ((dnum f.cfg (Obj.PipelineConfig.rowPitch f.cam) * s.num (Obj.LineGenerator.linesPerCount k)).natAbs : Int)

/-- `ColumnsPerInsp` for a nozzle pitch in Q16.16 µm: round(2¹⁶ × 42.333 333 µm / `NozzlePitch`) (R269). -/
def colsPerInsp (d : Dict) (k : Nat) : Int := near (2 ^ 32 * 42333333) (1000000 * dnum d (Obj.PlaneConfig.nozzlePitch k))

/-- ξ(X) in Q16.16 plane columns. -/
def xiAt (d w : Dict) (k : Nat) (X : Int) : Int := X * dnum d (Obj.PlaneRender.columnsPerInsp k) + dnum w (Obj.PlaneRender.columnOrigin k)

/-! ### The expected image (R270-R273) -/

/-- The entries of head `h` in its plane's present run, oldest first, with those that wait for earlier lines (R207, R270). -/
def Head.run (hd : Head) : List FireRec := hd.record.drop (hd.record.length - hd.fresh) ++ hd.held

/-- What the renderer reads of head `h` on line `L`: none where the head line is unrendered, else the codes that carry ink (empty for
none). -/
def State.headLine (s : State) (k h : Nat) (L : Int) : Option (List Nat) :=
  let hd := s.head h
  if !rowFires s.dict k h L ∨ L < (s.plane k).first then some []
  else if L > (s.plane k).opened ∨ hd.blind.contains L ∨ hd.lines.any (fun f => f.line == L) then none
  else match hd.run.reverse.find? (fun r => r.line == L) with
    | none => match hd.record.head? with
      | some r => if L < r.line && decide (s.nat Obj.FiringTiming.recordDepth ≤ hd.fresh) then none else some []
      | none => some []
    | some r =>
      if r.outcome = 0 ∨ r.outcome = 1 ∨ r.outcome = 12 then
        match hd.slots.find? (fun x => x.1 == L) with
        | some (_, codes) => some codes
        | none => match hd.slots.getLast? with
          | some (a, _) => if L < a then none else some []
          | none => none
      else some []

/-- `DensityOfCode` of a code (R272). -/
def densityOf (w : Dict) (k code : Nat) : Nat :=
  match dbyt w (Obj.PlaneRender.densityOfCode k) with
  | [] => 1365 * code
  | b => fld b (2 * code) 2

/-- K(i, j) for i, j = −2 to 2 (R272). -/
def kernelAt (w : Dict) (k : Nat) (i j : Int) : Nat :=
  let a := (i + 2).toNat; let b := (j + 2).toNat
  match dbyt w (Obj.PlaneRender.kernel k) with
  | [] => 16 * [1, 4, 6, 4, 1].getD a 0 * [1, 4, 6, 4, 1].getD b 0
  | t => fld t (2 * (5 * b + a)) 2

/-- The ink of a set of nozzles at a cell of the plane grid: OD(x, L) over the heads and nozzles that `p` admits; none where a head line
that feeds the cell is unrendered. -/
def State.cellOd (s : State) (w : Dict) (k : Nat) (p : Nat → Nat → Bool) (x L : Int) : Option Nat :=
  if x < 0 ∨ (width s.dict k : Int) ≤ x then some 0
  else (planeHeads s.dict k).foldl (fun acc h =>
    match nozzleAt s.dict h x.toNat with
    | none => acc
    | some i => if !p h i then acc else
      match acc, s.headLine k h L with
      | some t, some codes => some (t + (if codes.isEmpty then 0 else densityOf w k (codes.getD i 0)))
      | _, _ => none) (some 0)

/-- The 25 offsets of the kernel. -/
def kernelCells : List (Int × Int) := ([-2, -1, 0, 1, 2] : List Int).flatMap (fun j => ([-2, -1, 0, 1, 2] : List Int).map (fun i => (i, j)))

/-- (e(x, L) + 2048) >> 12, without the clamp (R272); none where a cell under the kernel is unrendered. -/
def State.cellDensity (s : State) (w : Dict) (k : Nat) (p : Nat → Nat → Bool) (x L : Int) : Option Nat :=
  (kernelCells.foldl (fun acc (c : Int × Int) =>
    match acc, s.cellOd w k p (x - c.1) (L - c.2) with
    | some t, some o => some (t + kernelAt w k c.1 c.2 * o)
    | _, _ => none) (some 0)).map (fun e => (e + 2048) / 4096)

/-- The cells that a range touches, with their weights in 1/256 of a cell of size `unit`, rounded to nearest with ties up (R273). -/
def cellWeights (unit lo hi : Int) : List (Int × Int) :=
  let a := lo / unit
  ((List.range ((hi + unit - 1) / unit - a).toNat).map (fun (i : Nat) =>
    let c := a + i
    let ov := min hi ((c + 1) * unit) - max lo (c * unit)
    (c, near (256 * ov) unit)))

/-- A camera row against a plane: the window's objects, λ in 1/1024 line and ρ/2. -/
structure RowView where
  k : Nat
  w : Dict
  lam : Int
  half : Int
  deriving DecidableEq, Repr

/-- The footprint of inspection column `X` on row `v`: columns and lines with their weights. -/
def State.footprint (s : State) (v : RowView) (X : Int) : List (Int × Int) × List (Int × Int) :=
  (cellWeights 65536 (xiAt s.dict v.w v.k X) (xiAt s.dict v.w v.k (X + 1)),
   cellWeights (2 ^ 65) (v.lam * 2 ^ 55 - v.half) (v.lam * 2 ^ 55 + v.half))

/-- The area mean of a cell value over a footprint, rounded down (R273); none where a cell is unrendered. -/
def areaMean (tag : Int) (v : RowView) (X : Int) (fp : List (Int × Int) × List (Int × Int)) (g : Int → Int → Option Nat) : Option Nat :=
  let cells := fp.2.flatMap (fun l => fp.1.map (fun c => (c.1, l.1, c.2 * l.2)))
  let sum := cells.foldl (fun (acc : Option Int) c => match acc, g c.1 c.2.1 with
    | some t, some e => some (t + c.2.2 * e)
    | _, _ => none) (some 0)
  let n := (cells.map (fun c => c.2.2)).sum
  sum.map (fun t => if n ≤ 0 then Config.openVal 1 [X, v.lam, tag] else (t / n).toNat)

/-- E_k(X, y); none where it is invalid. -/
def State.expected (s : State) (v : RowView) (X : Int) : Option Nat :=
  areaMean (-1) v X (s.footprint v X) (fun x L => (s.cellDensity v.w v.k (fun _ _ => true) x L).map (min 16383))

/-- c_n(X, y) of nozzle `i` of head `h` (R273). -/
def State.contribution (s : State) (v : RowView) (X : Int) (h i : Nat) : Option Nat :=
  areaMean (channel s.dict h i) v X (s.footprint v X) (fun x L => s.cellDensity v.w v.k (fun a b => a == h && b == i) x L)

/-! ### Windows and statistics (R274, R275) -/

/-- The nozzles of plane `k`: head, nozzle. -/
def planeNozzles (d : Dict) (k : Nat) : List (Nat × Nat) := (planeHeads d k).flatMap (fun h => (List.range (nozzles d h)).map (fun i => (h, i)))

/-- A channel's statistics in a window (R275). -/
def Win.stat (w : Win) (ch : Nat) : Stat := smGet (fun _ => (⟨0, 0, false⟩ : Stat)) w.stats ch

/-- The observed and expected values of a row at inspection column `X`. -/
def State.pixel (s : State) (f : Frame) (v : RowView) (y X : Nat) : Option (Int × Int) :=
  match f.insp X y v.k, s.expected v X with
  | some o, some e => some (o, e)
  | _, _ => none

/-- One valid row of a frame adds to the statistics of a window of plane `v.k` (R275): to those of every covered nozzle. -/
def State.addRow (s : State) (f : Frame) (v : RowView) (y : Nat) (w : Win) : Win :=
  let px := f.cover.map (fun X => (X, s.pixel f v y X, (s.expected v X).isNone))
  (planeNozzles s.dict v.k).foldl (fun w (n : Nat × Nat) =>
    let x := column s.dict n.1 n.2
    if !s.coveredColumn v.w v.k x then w
    else
      let ch := channel s.dict n.1 n.2
      -- columns whose footprint, widened by the kernel, holds the nozzle's column
      let close := px.filter (fun p => decide (xiAt s.dict v.w v.k p.1 / 65536 - 2 ≤ x ∧ (x : Int) * 65536 < xiAt s.dict v.w v.k (p.1 + 1) + 2 * 65536))
      let terms := close.filterMap (fun p => match p.2.1, s.contribution v p.1 n.1 n.2 with
        | some (o, e), some c => if c = 0 then none else some ((o - e) * c, (c * c : Nat))
        | _, _ => none)
      let st := w.stat ch
      let st' : Stat := { deficit := clamp (st.deficit + ((terms.map (·.1)).sum + 2048) / 4096) (-(2 ^ 31)) (2 ^ 31 - 1)
                          evidence := min (2 ^ 32 - 1) (st.evidence + ((terms.map (·.2)).sum + 2048) / 4096)
                          bad := st.bad || close.any (fun p => p.2.2) }
      { w with stats := smSet (fun _ => (⟨0, 0, false⟩ : Stat)) w.stats ch st' }) w

/-- The correlation sums of a row (R279): terms over the shifts −R to R, across and along, at the pixels whose every term is valid. -/
def State.addCorrelation (s : State) (f : Frame) (v : RowView) (y : Nat) (w : Win) : Win :=
  let r := dnat w.cfg (Obj.RegistrationLoop.searchRange v.k)
  let shifts := (List.range (2 * r + 1)).map (fun (i : Nat) => (i : Int) - r)
  let px := f.cover.filter (fun X => decide (dnat w.cfg (Obj.RegistrationLoop.regStart v.k) ≤ X ∧ X ≤ dnat w.cfg (Obj.RegistrationLoop.regEnd v.k)))
  px.foldl (fun w (X : Nat) =>
    let across := shifts.map (fun sh => s.expected v (X - sh))
    let along := shifts.map (fun sh =>
      let y' := (y : Int) - sh
      if y' < 0 ∨ (f.height : Int) ≤ y' then none
      else match s.rowLine f v.k y'.toNat with
        | some l => s.expected { v with lam := l } X
        | none => none)
    match f.insp X y v.k with
    | none => w
    | some o =>
      if across.any (·.isNone) ∨ along.any (·.isNone) then w
      else
        let add := fun (c : List Nat) (l : List (Option Nat)) =>
          (List.range (2 * r + 1)).map (fun i => c.getD i 0 + o * ((l.getD i none).getD 0))
        { w with cx := add w.cx across, cy := add w.cy along }) w

/-! ### The loops (R280-R283) -/

/-- A rational rounded to nearest, ties away from zero. -/
def nearAway (a b : Int) : Int :=
  let n := if b < 0 then -a else a
  let d : Int := b.natAbs
  if n < 0 then -((-2 * n + d) / (2 * d)) else (2 * n + d) / (2 * d)

/-- The shift that a correlation gives (R279): numerator and denominator; none where it is out of range or lacks texture. -/
def shiftOf (least : Nat) (c : List Nat) : Option (Int × Int) :=
  let r := c.length / 2
  let at_ := fun (i : Int) => (c.getD (i + r).toNat 0 : Int)
  -- candidates by smaller |s|, the negative one first
  let order : List Int := (List.range (r + 1)).flatMap (fun (i : Nat) => if i = 0 then [0] else [-(i : Int), i])
  let best := order.foldl (fun b i => if at_ i > at_ b then i else b) 0
  let c0 := at_ best
  if c.isEmpty ∨ best.natAbs = r then none
  else
    let sharp := 2 * c0 - at_ (best - 1) - at_ (best + 1)
    if sharp * 16384 < least * c0 ∨ sharp ≤ 0 then none
    else
      let den := 2 * (at_ (best - 1) - 2 * c0 + at_ (best + 1))
      some (best * den + at_ (best - 1) - at_ (best + 1), den)

/-- The page in force at the first unopened line of plane `k` is dot, as far as it is known. -/
def State.dotPage (s : State) (k : Nat) : Bool :=
  match (s.plane k).pages.find? (fun p => match p.start with | some S => decide (S ≤ (s.plane k).opened ∧ (s.plane k).opened ≤ p.last) | none => false) with
  | some p => (dotBits p.format).isSome
  | none => false

/-- Objects of an axis: 0 along, 1 across. -/
def axisKeys (k : Nat) : Nat → Nat × Nat × Nat × Nat × Nat × Nat × Nat × Nat
  | 0 => (Obj.RegistrationLoop.alongMode k, Obj.RegistrationLoop.alongGain k, Obj.RegistrationLoop.alongDeadBand k,
      Obj.RegistrationLoop.alongSlew k, Obj.RegistrationLoop.alongMin k, Obj.RegistrationLoop.alongMax k,
      Obj.RegistrationLoop.lastAlongError k, Obj.PlaneConfig.planePhase k)
  | _ => (Obj.RegistrationLoop.acrossMode k, Obj.RegistrationLoop.acrossGain k, Obj.RegistrationLoop.acrossDeadBand k,
      Obj.RegistrationLoop.acrossSlew k, Obj.RegistrationLoop.acrossMin k, Obj.RegistrationLoop.acrossMax k,
      Obj.RegistrationLoop.lastAcrossError k, Obj.PlaneConfig.lateralShift k)

/-- An axis of plane `k`. -/
def Ana.axis (a : Ana) (ax : Nat) : Axis := if ax = 0 then a.along else a.across
/-- The same, replaced. -/
def Ana.setAxis (a : Ana) (ax : Nat) (x : Axis) : Ana := if ax = 0 then { a with along := x } else { a with across := x }

/-- A loop meets its bound (R283). -/
def State.atBound (s : State) (k : Nat) : State := (s.inc (Obj.RegistrationLoop.boundHits k)).evPl Ev.loopAtBound k

/-- Plane `k` is the reference of another plane (R280): it is never corrected. -/
def State.isReference (s : State) (k : Nat) : Bool :=
  (List.range 4).any (fun j => j != k && decide (s.nat (Obj.RegistrationLoop.refPlane j) = k))

/-- The error `e` of a window whose first line is `first` reaches the loop of an axis of plane `k` (R281-R283). -/
def State.runLoop (s : State) (k ax : Nat) (first e : Int) : State :=
  let (mode, gain, dead, slew, lo, hi, last, obj) := axisKeys k ax
  let s := s.setN last e
  let a := s.anaOf k
  let x := a.axis ax
  if (match x.effect with | some l => decide (first < l) | none => false) then s.inc (Obj.RegistrationLoop.staleEstimates k)
  else if e.natAbs ≤ s.nat dead then s
  else
    let m : Int := ((e.natAbs * s.nat gain + 8192) / 16384 : Nat)
    let step := if 0 < e then -m else m
    let step := if ax = 1 ∧ s.dotPage k then 64 * wholeShift step else step
    let u := s.unopened k
    let fresh := (s.starts k).any (fun p => p.1.start.isNone && p.2 == u)
    let used := if fresh then 0 else x.used
    let room : Int := (s.nat slew - used : Nat)
    let step := clamp step (-room) room
    let cur := s.coming obj
    let min_ := s.num lo; let max_ := s.num hi
    if s.num mode ≠ 2 ∨ s.isReference k then s
    else if cur < min_ ∨ max_ < cur then s.atBound k
    else
      let new := clamp (cur + step) min_ max_
      if new = cur then s
      else if ax = 0 ∧ !s.planePhaseOk k new then s.atBound k
      else
        let d := (new - cur).natAbs
        let s := (wrRwl obj (.num new) s).1
        let s := match descOf obj with | some ds => s.journal obj 0xFF (encodeVal ds.ty (.num new)) | none => s
        let a := s.anaOf k
        let s := s.setAna k (a.setAxis ax { effect := some u, used := used + d, last := d, lastLine := u })
        s.evAt Ev.loopCorrection k u [ax, e, step]

/-- The estimate of a plane for a window, if the window is closed and gave one. -/
def State.estimate (s : State) (k idx ax : Nat) : Option Int :=
  match (s.anaOf k).ests.find? (fun x => x.1 == idx) with
  | some (_, a, b) => if ax = 0 then a else b
  | none => none

/-- The window of plane `k` is still to close (R280). -/
def State.windowOpen (s : State) (k idx : Nat) : Bool :=
  bit (s.nat Obj.AnalysisControl.renderActive) k && ((s.anaOf k).wins.any (fun w => w.idx == idx) || decide ((s.anaOf k).idx ≤ idx))

/-- The errors of plane `k` that wait for their reference plane are taken where it has closed the same window (R280). -/
def State.takeErrors (s : State) (k : Nat) : State :=
  let r := s.nat (Obj.RegistrationLoop.refPlane k)
  let ready := (s.anaOf k).waits.filter (fun w => decide (4 ≤ r) || !s.windowOpen r w.1)
  let s := s.setAna k { s.anaOf k with waits := (s.anaOf k).waits.filter (fun w => decide (r < 4) && s.windowOpen r w.1) }
  ready.foldl (fun s (w : Nat × Int) => [0, 1].foldl (fun s ax =>
    match s.estimate k w.1 ax with
    | none => s
    | some e =>
      if 4 ≤ r then s.runLoop k ax w.2 e
      else match s.estimate r w.1 ax with
        | some g => s.runLoop k ax w.2 (e - g)
        | none => s) s) s

/-- A window of plane `k` has closed for every enabled camera: its registration estimates (R279, R280). -/
def State.estimateWindow (s : State) (k : Nat) (w : Win) : State :=
  let on := fun (ax : Nat) => s.num (axisKeys k ax).1 ≠ 0
  let least := dnat w.cfg (Obj.RegistrationLoop.minSharpness k)
  let pitch := (List.range 4).find? (fun c => s.flag (Obj.CameraPort.enable c))
  let shift := fun (ax : Nat) (c : List Nat) => if on ax then shiftOf least c else none
  let lpc := s.num (Obj.LineGenerator.linesPerCount k)
  let ey : Option Int := match shift 0 w.cy, pitch with
    | some (n, d), some c => some (nearAway (n * s.num (Obj.PipelineConfig.rowPitch c) * lpc * 1024) (d * 2 ^ 64))
    | _, _ => none
  let ex : Option Int := (shift 1 w.cx).map (fun p => nearAway (p.1 * s.num (Obj.PlaneRender.columnsPerInsp k) * 64) (p.2 * 65536))
  let miss := (if on 0 ∧ ey.isNone then 1 else 0) + (if on 1 ∧ ex.isNone then 1 else 0)
  let s := s.bump (Obj.RegistrationLoop.noEstimate k) 32 miss
  let a := s.anaOf k
  let s := s.setAna k { a with ests := (a.ests ++ [(w.idx, ey, ex)]).drop (a.ests.length - 15), waits := a.waits ++ [(w.idx, w.first)] }
  let s := if ey.isSome ∨ ex.isSome then s.evPl Ev.registrationEstimate k else s
  (List.range 4).foldl (fun s j => s.takeErrors j) s

/-! ### The close of a window (R275-R277) -/

/-- The score of a nozzle, in 1/16,384 (R275). -/
def score (st : Stat) : Int := clamp ((st.deficit * 16384).tdiv st.evidence) (-32767) 32767

/-- The finding of a usable nozzle at column `x` with score `sc`, among the usable nozzles (column, channel, score): 4 missing, 5 deviated
(R276). -/
def classify (missing deviated tie : Int) (l : List (Nat × Nat × Int)) (x ch : Nat) (sc : Int) : Option Nat :=
  let within := fun (n : Nat) => l.filter (fun p => p.2.1 != ch && decide (p.1 ≤ x + n ∧ x ≤ p.1 + n))
  let lowest := (within 1).foldl (fun (m : Option Int) p => match m with | none => some p.2.2 | some v => some (min v p.2.2)) none
  if (match lowest with | some v => decide (sc > v + tie) | none => false) then none
  else if sc ≤ -missing then (if (within 2).any (fun p => decide (deviated ≤ p.2.2)) then some 5 else some 4)
  else if sc ≤ -deviated then some 5
  else none

/-- Column statistics of plane `k` with the channels of a closed window replaced (R275). -/
def statBytes (pool : Nat) (old : Bytes) (l : List (Nat × Stat)) : Bytes :=
  let b := if old.isEmpty then List.replicate (8 * pool) 0#8 else old
  l.foldl (fun (b : Bytes) (p : Nat × Stat) => b.take (8 * p.1) ++ leBytes 4 p.2.deficit ++ leBytes 4 p.2.evidence ++ b.drop (8 * p.1 + 8)) b

/-- A window of plane `k` is closed for every enabled camera, camera `c` the last (R275-R277): scores, findings over the whole plane, the
report to nozzle health, the registration estimates; its statistics go with it. -/
def State.finishWindow (s : State) (k c : Nat) (w : Win) : State :=
  let st := (planeNozzles s.dict k).map (fun (n : Nat × Nat) => (column s.dict n.1 n.2, channel s.dict n.1 n.2, w.stat (channel s.dict n.1 n.2)))
  let usable := (st.filter (fun p => decide (s.nat Obj.AnalysisControl.minEvidence ≤ p.2.2.evidence) && !p.2.2.bad)).map (fun p => (p.1, p.2.1, score p.2.2))
  let q := fun (key : Nat) => dnum w.cfg key
  let kind := fun (p : Nat × Nat × Int) =>
    classify (q (Obj.StreakConfig.missingLevel k)) (q (Obj.StreakConfig.deviatedLevel k)) (q (Obj.StreakConfig.tieMargin k)) usable p.1 p.2.1 p.2.2
  let found := sortBy (fun a b => decide (a.1 < b.1) || (a.1 == b.1 && decide (a.2.1 ≤ b.2.1)))
    (usable.filterMap (fun p => (kind p).map (fun f => (p.2.2, p.2.1, f))))
  let storm := decide (dnat w.cfg (Obj.StreakConfig.stormLimit k) < found.length)
  let cap := dnat w.cfg (Obj.StreakConfig.maxFindings k)
  let told := if storm then [] else (found.take cap).map (fun f => (f.2.1, f.2.2))
  let out := (found.drop cap).map (fun f => f.2.1)
  let clear := if storm then [] else (usable.map (fun p => p.2.1)).filter (fun ch => !(found.any (fun f => f.2.1 == ch)))
  let s := s.setB (Obj.PlaneRender.columnStats k) (statBytes s.pool (s.byt (Obj.PlaneRender.columnStats k)) (st.map (fun p => (p.2.1, p.2.2))))
  let s := if storm then (s.inc (Obj.StreakConfig.implausibleWindows k)).evPl Ev.inspectionImplausible k
    else (s.bump (Obj.StreakConfig.findingsReported k) 32 told.length).bump (Obj.StreakConfig.findingsCapped k) 32 out.length
  let rep : Report := { plane := k, camera := c, first := w.first, last := w.first + w.lines - 1, partialFrame := !w.parts.isEmpty, found := told, clear := clear }
  let s := { s with health := { s.health with reports := s.health.reports ++ [rep] } }
  (s.setAna k { s.anaOf k with wins := (s.anaOf k).wins.filter (fun x => x.idx != w.idx) }).estimateWindow k w

/-- A window is closed for every enabled camera. -/
def State.allClosed (s : State) (w : Win) : Bool := (List.range 4).all (fun j => !s.flag (Obj.CameraPort.enable j) || w.closed.contains j)

/-- A window of plane `k` closes for camera `c` (R274): with it closed for every enabled camera, its findings are formed. -/
def State.closeWindow (s : State) (k c : Nat) (w : Win) : State :=
  let w := { w with closed := w.closed ++ [c] }
  if s.allClosed w then s.finishWindow k c w
  else s.setAna k { s.anaOf k with wins := (s.anaOf k).wins.map (fun x => if x.idx = w.idx then w else x) }

/-- A camera has been disabled: the windows that waited for it alone are finished (R274). -/
def State.settleWindows (s : State) : State :=
  s.each (List.range 4) (fun s k =>
    ((s.anaOf k).wins.filter (fun w => s.allClosed w)).foldl (fun s w => match w.closed.getLast? with
      | some c => s.finishWindow k c w
      | none => s) s)

/-- The windows of plane `k` before `first` that are open for camera `c` close (R274, the first of its two moments). -/
def State.closeBefore (s : State) (k c : Nat) (first : Int) : State :=
  (((s.anaOf k).wins).filter (fun w => decide (w.first < first) && !w.closed.contains c)).foldl (fun s w =>
    match (s.anaOf k).wins.find? (fun x => x.idx == w.idx) with
    | some w => s.closeWindow k c w
    | none => s) s

/-- Row `y` of a frame is analysed for plane `k` (R268, R274, R275, R279). -/
def State.analyseRow (s : State) (f : Frame) (k y : Nat) : State :=
  match s.rowLine f k y with
  | none => s
  | some lam =>
    let L := lam / 1024
    let ws := (s.anaOf k).wins
    match ws.find? (fun w => decide (w.first ≤ L ∧ L < w.first + w.lines)) with
    | none =>
      if L < (s.anaOf k).next ∧ decide (-(-(s.plane k).ancA / 2 ^ 48) ≤ L) then s.inc Obj.AnalysisControl.lateRows else s
    | some w =>
      if w.closed.contains f.cam then s.inc Obj.AnalysisControl.lateRows
      else
        let s := s.closeBefore k f.cam w.first
        let v : RowView := { k := k, w := w.cfg, lam := lam, half := s.halfRow f k }
        let on := s.num (Obj.RegistrationLoop.alongMode k) ≠ 0 ∨ s.num (Obj.RegistrationLoop.acrossMode k) ≠ 0
        let a := s.anaOf k
        let s := s.setAna k { a with wins := a.wins.map (fun x =>
          if x.idx = w.idx then
            let x := if f.isPartial ∧ !x.parts.contains f.cam then { x with parts := x.parts ++ [f.cam] } else x
            let x := s.addRow f v y x
            if on then s.addCorrelation f v y x else x
          else x) }
        -- the renderer has read the trestle and the record up to the row's footprint
        let upTo := L + 2 + v.half / 2 ^ 65
        let p := s.plane k
        let old := match p.readTo.find? (fun r => r.1 == f.cam) with | some (_, x) => x | none => upTo
        let s := s.setPlane k { p with readTo := p.readTo.filter (fun r => r.1 != f.cam) ++ [(f.cam, max old upTo)] }
        let cams := (List.range 4).filter (fun c => s.flag (Obj.CameraPort.enable c))
        let all := (cams.map (fun c => match (s.plane k).readTo.find? (fun r => r.1 == c) with | some (_, x) => some x | none => none))
        if all.any (·.isNone) then s
        else
          let least := (all.filterMap id).foldl min upTo
          s.each (planeHeads s.dict k) (fun s h =>
            let hd := s.head h
            s.setHead h { hd with unread := min hd.unread (hd.record.filter (fun r => decide (least < r.line))).length })

/-! ### The defect-tile map (R278) -/

/-- The planes whose analysis runs. -/
def State.analysed (s : State) : List Nat := (List.range 4).filter (fun k => bit (s.nat Obj.AnalysisControl.renderActive) k)

/-- The largest |Δ_k| at a pixel over the planes analysed; none where no plane has a value. -/
def State.delta (s : State) (f : Frame) (X y : Nat) : Option Nat :=
  s.analysed.foldl (fun acc k =>
    match s.rowLine f k y with
    | none => acc
    | some lam =>
      let w := match (s.anaOf k).wins.find? (fun w => decide (w.first ≤ lam / 1024 ∧ lam / 1024 < w.first + w.lines)) with
        | some w => w.cfg
        | none => windowCfg s.dict k
      match s.pixel f { k := k, w := w, lam := lam, half := s.halfRow f k } y X with
      | some (o, e) => some (max (o - e).natAbs (acc.getD 0))
      | none => acc) none

/-- The flags of the tiles of a frame, row-major. -/
def State.tiles (s : State) (f : Frame) (n : Nat) : List Bool :=
  let across := cdiv f.cover.length n; let down := cdiv f.height n
  (List.range down).flatMap (fun j => (List.range across).map (fun i =>
    let px := ((f.cover.drop (i * n)).take n).flatMap (fun X => ((List.range f.height).drop (j * n) |>.take n).filterMap (fun y =>
      if f.valid y then s.delta f X y else none))
    !px.isEmpty && decide (s.nat Obj.AnalysisControl.tileLimit ≤ px.sum / px.length)))

/-- Flags as a bitmap, bit 0 of byte 0 first. -/
def bitmap (l : List Bool) : Bytes :=
  (chunks 8 l.length l).map (fun g => BitVec.ofNat 8 (g.foldr (fun b n => 2 * n + (if b then 1 else 0)) 0))

/-- The defect-tile map of a frame. -/
def State.tileMap (s : State) (f : Frame) : Bytes :=
  let n := s.nat Obj.AnalysisControl.tileSize
  f.head ++ leBytes 2 (cdiv f.cover.length n : Nat) ++ leBytes 2 (cdiv f.height n : Nat) ++ leBytes 1 n ++ leBytes 1 0
    ++ leBytes 2 (dnat f.cfg (Obj.PipelineConfig.coverStart f.cam)) ++ leBytes 8 0 ++ bitmap (s.tiles f n)

/-- A processed frame reaches the analyser (R261): its rows, plane by plane, and its defect-tile map. -/
def State.analyse (s : State) (f : Frame) : State :=
  let map := s.tileMap f
  let ks := s.analysed
  let s := f.validRows.foldl (fun s y => ks.foldl (fun s k => s.analyseRow f k y) s) s
  s.streamItem 4 f.cam f.num (stamp32 f.start) map

end Sys2Proof.Machine
end

