-- ==== Sys2Proof/Machine/Cameras.lean ====
section
/-! DEFINITION. The commands of the camera ports and the image pipeline (spec/10) and of their flat-field calibration (R460). -/

namespace Sys2Proof.Machine

/-! ### Triggers (R241, R242) -/

/-- CAMc_TRIG goes to its active or inactive level. -/
def State.driveTrig (s : State) (c : Nat) (on : Bool) : State := s.pin (.trig c) (on != s.flag (Obj.TriggerConfig.trigPolarity c))

/-- `TrigWidth` in 0.1 ns. -/
def State.trigWidth (s : State) (c : Nat) : Nat := 10 * s.nat (Obj.TriggerConfig.trigWidth c)

/-- A trigger leaves the list of those that wait. -/
def State.dropTrig (s : State) (g : Trigger) : State := s.setSched { s.sched with trigs := dropFirst g s.sched.trigs }

/-- A due pulse on camera `c`: issued, stamped, with its expectation; or delayed behind an earlier one (R241). -/
def State.pulse (s : State) (c : Nat) (g : Trigger) : State :=
  let x := s.cam c
  let w := s.trigWidth c
  let earliest := match x.pulse, x.pulseEnd with
    | some t, _ => t + 2 * w
    | none, some t => t + w
    | none, none => 0
  if !s.flag (Obj.CameraPort.enable c) then s.dropTrig g
  else if s.now < earliest then
    let s := if g.spaced then s else s.inc (Obj.TriggerConfig.trigDelayed c)
    s.setSched { s.sched with trigs := s.sched.trigs.map (fun y => if y = g then { g with due := some earliest, delayed := true, spaced := true } else y) }
  else
    let e : Expect := { tp := s.tim.slave.ns, key := g.key, lineKey := g.lineKey, plane := g.plane, phase := g.phase
                        pos := s.num Obj.ScheduleControl.schedulePosition, delayed := g.delayed, late := g.late }
    ((s.dropTrig g).setCam c { x with pulse := some s.now, expects := x.expects ++ [e] }).driveTrig c true

/-- `CAMERA_TRIGGER_PULSE` (R241). -/
def execCameraTriggerPulse (t c : Nat) (s : State) : Host.Outcome State Fault Refusal :=
  fieldCmd t s (fun s =>
    match s.sched.trigs.find? (fun g => g.camera == c && (match g.due with | some d => decide (d ≤ s.now) | none => false)) with
    | some g => s.pulse c g
    | none => s)

/-- `TRIGGER_PULSE_END` (R241). -/
def execTriggerPulseEnd (t c : Nat) (s : State) : Host.Outcome State Fault Refusal :=
  fieldCmd t s (fun s =>
    match (s.cam c).pulse with
    | some a => if a + s.trigWidth c ≤ s.now then
        (s.setCam c { s.cam c with pulse := none, pulseEnd := some (a + s.trigWidth c) }).driveTrig c false else s
    | none => s)

/-- `TRIGGER_MISSED` (R242): expectations of camera `c` that have reached tp + `WindowMax` expire. -/
def execTriggerMissed (t c : Nat) (s : State) : Host.Outcome State Fault Refusal :=
  fieldCmd t s (fun s =>
    let gone := (s.cam c).expects.filter (fun e => decide (e.tp + 1000 * s.num (Obj.TriggerConfig.windowMax c) ≤ s.tim.slave.ns))
    let s := s.setCam c { s.cam c with expects := (s.cam c).expects.filter (fun e => !gone.contains e) }
    gone.foldl (fun s _ => (s.inc (Obj.CameraStatus.triggersMissed c)).ev Ev.triggerMissed [] c) s)

/-! ### Generations carried by a frame (R248) -/

/-- The generation that a frame carries, Mixed and SettingsFault. -/
def Cam.settings (x : Cam) (f : Frame) : Nat × Bool × Bool :=
  match f.ref with
  | none => (x.gen0, false, false)
  | some r =>
    let good := x.ended.filter (fun g => !g.failed && (match g.done with | some d => decide (d < r) | none => false))
    let gen := match good.getLast? with | some g => g.num | none => x.gen0
    let before := fun (g : Gen) => match g.first with | some a => decide (a < r) | none => false
    let mixed := (x.ended ++ x.queue).any (fun g => !g.failed && before g && (match g.done with | some d => decide (r ≤ d) | none => true))
    -- a failed generation that would be carried, with no later one completed
    let later := x.ended.foldl (fun bad g =>
      match g.done with
      | some d => if d < r then g.failed else bad
      | none => bad) false
    (gen, mixed, later)

/-! ### Processing (R251, R261-R264, R460) -/

/-- A preview goes to the sessions, or waits in its ring while the Span is lost; a full ring drops its oldest (R262). -/
def State.putPreview (s : State) (p : Preview) : State :=
  if !s.span.lostF then s.streamItem 2 p.cam p.num p.stamp p.data
  else
    let l := s.cams.previews ++ [p]
    let full := decide (s.nat Obj.RegionMap.previewRingSize < (l.map (fun q => q.data.length)).sum)
    let s := { s with cams := { s.cams with previews := if full then l.drop 1 else l } }
    if full then s.inc (Obj.Outputs.previewDropped p.cam) else s

/-- The flagged tiles of a frame as crops: first column, first row, width, height, mapped back through R259 and rounded out (R263). -/
def State.crops (s : State) (f : Frame) : List (List Nat) :=
  let n := s.nat Obj.AnalysisControl.tileSize
  let across := cdiv f.cover.length n
  ((s.tiles f n).zipIdx.filter (·.1)).map (fun p =>
    let i := p.2 % across; let j := p.2 / across
    let X0 := f.cover.headD 0 + i * n
    let X1 := min (X0 + n) (f.cover.headD 0 + f.cover.length)
    let x0 := (clamp (f.uAt X0 / 65536) 0 (f.width - 1)).toNat
    let x1 := (clamp ((f.uAt X1 + 65535) / 65536) (x0 + 1) f.width).toNat
    [x0, j * n, x1 - x0, min n (f.height - j * n)])

/-- The frame is one that its camera codes (R263): in full every `CodeEvery`-th accepted one, in crops every one. -/
def Frame.coded (f : Frame) : Bool :=
  match dnat f.cfg (Obj.Outputs.codeMode f.cam) with
  | 0 => false
  | 1 => decide (f.idx % dnat f.cfg (Obj.Outputs.codeEvery f.cam) = 0)
  | _ => true

/-- Coding of a frame (R263): answers the jobs started. -/
def State.codeFrame (s : State) (f : Frame) (crops : List (List Nat)) : State × Nat :=
  let mode := dnat f.cfg (Obj.Outputs.codeMode f.cam)
  let src := dnat f.cfg (Obj.Outputs.codeSource f.cam)
  if mode = 0 ∨ !f.coded then (s, 0)
  else if !f.slot then (s.inc (Obj.Outputs.codeSkipped f.cam), 0)
  else
    let items : List (Option (List Nat)) := if mode = 1 then [none] else crops.map some
    items.foldl (fun (p : State × Nat) it =>
      let r := it.getD [0, 0, f.width, f.height]
      let (s, ok) := p.1.codeJob f it (f.code src (r.getD 0 0) (r.getD 1 0) (r.getD 2 0) (r.getD 3 0))
      (s, p.2 + (if ok then 1 else 0))) (s, 0)

/-- The table of a flat-field run (R460): the new gains, or the check that fails. -/
def flatGains (lo hi : Nat) (m : List Nat) : Except Nat (List Nat) :=
  if m.any (· == 0) then .error 1
  else
    let mu := fun (q : Nat) =>
      let l := (m.zipIdx.filter (fun p => p.2 % 2 == q)).map (·.1)
      l.sum / max l.length 1
    let g := m.zipIdx.map (fun p => min 0xFFFF ((2 * mu (p.2 % 2) * 16384 + p.1) / (2 * p.1)))
    if m.length < 100 * (g.filter (fun x => decide (x < lo ∨ hi < x))).length then .error 2 else .ok g

/-- A processed frame counts toward the flat-field run of its camera (R460). -/
def State.flatFrame (s : State) (f : Frame) : State :=
  match s.cal.flats.find? (fun p => p.1 == f.cam) with
  | none => s
  | some (_, r) =>
    if f.isPartial then s
    else
      let sums := (List.range f.width).map (fun x => r.sums.getD x 0 + ((List.range f.height).map (fun y => f.p3 x y)).sum)
      let r := { r with frames := r.frames + 1, sums := sums, rows := r.rows + f.height }
      let rest := s.cal.flats.filter (fun p => p.1 != f.cam)
      if r.frames < s.nat Obj.CalLimits.flatFrames then s.setCal { s.cal with flats := rest ++ [(f.cam, r)] }
      else
        let s := s.setCal { s.cal with flats := rest }
        match flatGains (s.nat Obj.CalLimits.flatGainMin) (s.nat Obj.CalLimits.flatGainMax) (r.sums.map (fun n => n / max r.rows 1)) with
        | .error c => s.calEnd 5 f.cam (some c)
        | .ok g =>
          let old := s.byt (Obj.flatField f.cam)
          let b := ((List.range 8192).map (fun x => leBytes 4 ((match g[x]? with | some v => v | none => flatEntry old x : Nat) : Int))).flatten
          (s.setB (Obj.flatField f.cam) b).calEnd 5 f.cam none

/-- The pipeline processes an accepted frame to its end. -/
def State.process (s : State) (f : Frame) : State :=
  let st := f.stats
  let stamp := stamp32 f.start
  let s := (s.setB (Obj.CameraStatus.lastStats f.cam) st).streamItem 1 f.cam f.num stamp st
  let scale := dnat f.cfg (Obj.Outputs.previewScale f.cam)
  let s := if scale ≠ 0 ∧ f.idx % dnat f.cfg (Obj.Outputs.previewEvery f.cam) = 0 then
      s.putPreview { cam := f.cam, num := f.num, stamp := stamp, data := f.preview (2 ^ scale) } else s
  let crops := if dnat f.cfg (Obj.Outputs.codeMode f.cam) = 2 then s.crops f else []
  let (s, n) := (s.analyse f).codeFrame f crops
  let s := s.flatFrame f
  let x := s.cam f.cam
  (s.setCam f.cam { x with ring := freeSlots (x.ring.map (fun g => if g.num = f.num ∧ g.start = f.start ∧ !g.done then { g with done := true, jobs := n } else g)) }).showBacklog

/-- `FRAME_PROCESS` (R251): the through-memory frame with the earliest start. -/
def execFrameProcess (t : Nat) (s : State) : Host.Outcome State Fault Refusal :=
  fieldCmd t s (fun s =>
    let l := ((List.range 4).flatMap (fun c => (s.cam c).ring.filter (fun f => !f.done && !f.inLine)))
    match l.foldl (fun (m : Option Frame) f => match m with | none => some f | some g => if f.start < g.start then some f else some g) none with
    | none => s
    | some f => s.process f)

/-! ### Port control (R240, R266) -/

/-- The port stops (R266): the frame in progress and the expectations go, the trigger is inactive, the lanes go to low power. -/
def State.stopPort (s : State) (c : Nat) : State :=
  let x := s.cam c
  let s := s.setCam c { x with frame := none, expects := [], pulse := none, pulseEnd := none, lowPower := true }
  ((((s.driveTrig c false).setF (Obj.CameraPort.enable c) false).setN (Obj.CameraPort.state c) 0).settleWindows)

/-- The port starts (R240): frames number from 0. -/
def State.startPort (s : State) (c : Nat) : State :=
  let x := s.cam c
  let s := s.setCam c { x with count := 0, starts := [], expects := [], frame := none, seen := 0, lowPower := false, gen0 := s.nat (Obj.SensorControl.generationDone c) }
  ((s.setF (Obj.CameraPort.enable c) true).setN (Obj.CameraPort.state c) 1).beginFlat c

/-- `Reset` of a port (R266): stopped, its ring and generation queue emptied, and enabled again where it was enabled. -/
def State.resetPort (s : State) (c : Nat) : State :=
  let on := s.flag (Obj.CameraPort.enable c)
  let s := s.stopPort c
  let s := (s.setCam c { s.cam c with ring := [], queue := [], count := 0, starts := [], seen := 0 }).showBacklog
  (if on then s.startPort c else s).endWait .camera c

/-- A write of `Enable` of a port (R240, R259, R266, R422). -/
def wrCameraEnable (sess c : Nat) (v : Val) (s : State) : State × Nat :=
  if v.int = 0 then
    if s.flag (Obj.CameraPort.enable c) then ((s.stopPort c).showNeed, 0) else (s, 0)
  else if s.flag (Obj.CameraPort.enable c) then (s, 0)
  else if !coversOk (overlay s.dict [(Obj.CameraPort.enable c, .num 1)]) then (s, 0x03020002)
  else
    let need := max s.needNow.1 (s.cameraNeed s.inLine (s.inLine == c || s.flag (Obj.CameraPort.enable s.inLine)))
    s.whenFast sess (Obj.CameraPort.enable c) v need (fun s => (s.startPort c, 0))

/-- `CAMERA_ENABLE` (R240). -/
def execCameraEnable (t : Nat) (a : Caller) (c : Nat) (v : Bytes) (s : State) : Host.Outcome State Fault Refusal :=
  access t s (fun s => s.write a (Obj.CameraPort.enable c) v (wrCameraEnable a.sess c))

/-- `CAMERA_DISABLE` (R266). -/
def execCameraDisable (t : Nat) (a : Caller) (c : Nat) (v : Bytes) (s : State) : Host.Outcome State Fault Refusal :=
  access t s (fun s => s.write a (Obj.CameraPort.enable c) v (wrCameraEnable a.sess c))

/-- A write of `Reset` of a port (R266, R437): at once when no frame is in progress, else once it has ended. -/
def wrCameraReset (c : Nat) (s : State) : State × Nat :=
  if (s.cam c).frame.isNone then (s.resetPort c, 0)
  else if s.waits .camera c then (s, 0)
  else (s.startWait .camera c, 0)

/-- `CAMERA_RESET` (R266). -/
def execCameraReset (t : Nat) (a : Caller) (c : Nat) (v : Bytes) (s : State) : Host.Outcome State Fault Refusal :=
  access t s (fun s => s.write a (Obj.CameraPort.reset c) v (fun _ s => wrCameraReset c s))

/-- A write of `InLineCamera` (R252, R422). -/
def wrInLine (sess : Nat) (v : Val) (s : State) : State × Nat :=
  let need := max s.needNow.1 (s.cameraNeed v.nat (s.flag (Obj.CameraPort.enable v.nat)))
  s.whenFast sess Obj.CameraSelect.inLineCamera v need (fun s => (s.setVal Obj.CameraSelect.inLineCamera v, 0))

/-- `IN_LINE_CAMERA` (R252). -/
def execInLineCamera (t : Nat) (a : Caller) (v : Bytes) (s : State) : Host.Outcome State Fault Refusal :=
  access t s (fun s => s.write a Obj.CameraSelect.inLineCamera v (wrInLine a.sess))

/-! ### Frames (R239, R240, R242, R243, R248, R250, R252) -/

/-- Objects of camera `c` that a frame keeps from its Frame Start (R265). -/
def frameCfg (d : Dict) (c : Nat) : Dict :=
  d.filter (fun e => let ix := e.1 / 256; ix == 0x6000 + c || (decide (0x6100 ≤ ix ∧ ix < 0x6138) && ix % 8 == c))

/-- The frame of camera `c` ends (R243, R244, R249): judged, given its metadata, and processed when it is in-line. -/
def State.endFrame (s : State) (c : Nat) : State :=
  let x := s.cam c
  match x.frame with
  | none => s
  | some f =>
    let s := (s.setCam c { x with frame := none }).setN (Obj.CameraPort.state c) 1
    let s :=
      if !f.accepted then s
      else
        let s := if f.rows.length < f.height then (s.inc (Obj.CameraStatus.shortFrames c)).ev Ev.shortFrame [] c else s
        let (gen, mixed, fault) := x.settings f
        let f := { f with head := f.meta gen mixed fault }
        let s := if f.slot then (s.setCam c { s.cam c with ring := (s.cam c).ring ++ [f] }).showBacklog else s
        if f.inLine then s.process f else s
    if s.waits .camera c then s.resetPort c else s

/-- The in-line camera follows a write at the first Frame Start on the old or the new one (R252). -/
def State.switchInLine (s : State) (c : Nat) : State :=
  if s.cams.inLine ≠ s.inLine ∧ (c = s.cams.inLine ∨ c = s.inLine) then { s with cams := { s.cams with inLine := s.inLine } } else s

/-- A frame matches no expectation (R242): counted, reported at most once per second. -/
def State.untriggered (s : State) (c : Nat) : State :=
  let s := s.inc (Obj.CameraStatus.untriggered c)
  let again := match (s.cam c).untrigAt with | some t => decide (t + 10 ^ 10 ≤ s.now) | none => true
  if again then (s.setCam c { s.cam c with untrigAt := some s.now }).ev Ev.untriggeredFrame [] c else s

/-- A Frame Start with frame number field `fnum` on the image channel (R240, R242, R243, R250). -/
def State.startFrame (s : State) (c fnum : Nat) : State :=
      let s := (s.endFrame c).switchInLine c
      let x := s.cam c
      let n := x.count
      let tf := s.tim.slave.ns
      let d := s.nat (Obj.SensorControl.sensorDelay c)
      let starts := (tf :: x.starts).take 4
      let lo := 1000 * s.num (Obj.TriggerConfig.windowMin c); let hi := 1000 * s.num (Obj.TriggerConfig.windowMax c)
      let e := x.expects.find? (fun e => decide (lo ≤ tf - e.tp ∧ tf - e.tp ≤ hi))
      let inl := decide (s.cams.inLine = c)
      let cfg := frameCfg s.dict c
      let room := decide (x.ring.length < s.nat (Obj.CameraPort.ringFrames c))
      let beyond := e.isSome && !inl && !room
      let f : Frame := { cam := c, num := n, accepted := e.isSome && !beyond, inLine := inl, exp := e, field := fnum
                         idx := x.seen + 1, start := tf
                         marks := (List.range 4).map (fun k => (s.plane k).hwm), ref := starts[d]?, cfg := cfg, rows := [], long := false, head := []
                         slot := false, done := false, jobs := 0 }
      let f := { f with slot := room && (!inl || f.coded) }
      let s := s.setCam c { x with count := (n + 1) % 2 ^ 32, starts := starts, frame := some f, packet := s.now
                                   seen := if f.accepted then x.seen + 1 else x.seen
                                   expects := match e with | some e => dropFirst e x.expects | none => x.expects }
      let s := (s.setN (Obj.CameraStatus.frameNumber c) n).setN (Obj.CameraPort.state c) 2
      let s := s.captureField 4 (some c) (s.stamp .field)
      let s := if e.isSome then s.bump (Obj.CameraStatus.framesAccepted c) 64 else s.untriggered c
      if beyond then (s.inc (Obj.CameraStatus.ringOverruns c)).ev Ev.ringOverrun [] c else s

/-- An image line of the frame in progress (R239, R243). -/
def State.imageLine (s : State) (c : Nat) (hdr : PacketHeader) (data : Bytes) (crcOk : Bool) : State :=
  let x := s.cam c
  match x.frame with
  | none => s
  | some f =>
    let s := s.setCam c { x with packet := s.now }
    if !f.accepted then s
    else if f.height ≤ f.rows.length then
      let s := s.inc (Obj.CameraStatus.excessLines c)
      if f.long then s
      else ((s.setCam c { s.cam c with frame := some { f with long := true } }).inc (Obj.CameraStatus.longFrames c)).ev Ev.longFrame [] c
    else
      let want := f.width * pixelBits (s.nat (Obj.CameraPort.dataType c)) / 8
      let good := hdr.wordCount == want && crcOk && data.length == hdr.wordCount
      let row := if good then some ((rawPixels hdr.dt data).map (unpack hdr.dt)) else none
      let s := s.setCam c { s.cam c with frame := some { f with rows := f.rows ++ [row] } }
      if good then s else s.inc (Obj.CameraStatus.invalidLines c)

/-- A packet at the receiver (R239): its header judged; then it starts or ends a frame, is accepted and ignored, is a line, or is
discarded. -/
def State.packet (s : State) (c : Nat) (hdr : PacketHeader) (line : State → State) : State :=
  if !s.flag (Obj.CameraPort.enable c) ∨ s.nCams ≤ c then s
  else if 2 ≤ hdr.ecc then s.inc (Obj.CameraStatus.packetsDiscarded c)
  else
    let s := if hdr.ecc = 1 then s.inc (Obj.CameraStatus.eccCorrected c) else s
    let dt := s.nat (Obj.CameraPort.dataType c)
    if hdr.vc ≠ s.nat (Obj.CameraPort.imageVc c) ∨ hdr.vcx ≠ 0 ∨ (hdr.dt ≠ dt ∧ 3 < hdr.dt) then s.inc (Obj.CameraStatus.packetsDiscarded c)
    else match hdr.dt with
      | 0 => s.startFrame c (hdr.wordCount % 65536)
      | 1 => s.endFrame c
      | 2 | 3 => s.setCam c { s.cam c with packet := s.now }
      | _ => line s

/-- `FRAME_START` (R239, R240): a Frame Start packet, whose word count is its frame number. -/
def execFrameStart (t c : Nat) (hdr : PacketHeader) (fnum : Nat) (s : State) : Host.Outcome State Fault Refusal :=
  fieldCmd t s (fun s => s.packet c { hdr with dt := 0, wordCount := fnum } id)

/-- `IMAGE_LINE` (R239). -/
def execImageLine (t c : Nat) (hdr : PacketHeader) (data : Bytes) (crcOk : Bool) (s : State) : Host.Outcome State Fault Refusal :=
  fieldCmd t s (fun s => s.packet c hdr (fun s => s.imageLine c hdr data crcOk))

/-- `PACKET_DISCARD` (R239): a packet of which only the header counts; one that R239 does not discard has no effect here. -/
def execPacketDiscard (t c : Nat) (hdr : PacketHeader) (s : State) : Host.Outcome State Fault Refusal :=
  fieldCmd t s (fun s => s.packet c hdr id)

/-- `FRAME_END` (R239, R243): a Frame End packet. -/
def execFrameEnd (t : Nat) (p : PortPacket) (s : State) : Host.Outcome State Fault Refusal :=
  fieldCmd t s (fun s => s.packet p.port { p.hdr with dt := 1 } id)

/-- `FRAME_TIMEOUT` (R243). -/
def execFrameTimeout (t c : Nat) (s : State) : Host.Outcome State Fault Refusal :=
  fieldCmd t s (fun s => if (s.cam c).packet + 10000 * s.nat (Obj.CameraPort.frameTimeout c) ≤ s.now then s.endFrame c else s)

/-! ### Generations (R245-R247) -/

/-- A record of a generation keeps its reserved bits 0 (R246). -/
def genRecordOk (b : Bytes) : Bool :=
  decide (fld b 0 1 < 128) && decide (fld b 1 1 < 16) && (!bit (fld b 1 1) 3 || fld b 4 4 == 0)

/-- A write of `GenerationWrite` (R246). -/
def wrGeneration (c : Nat) (v : Val) (s : State) : State × Nat :=
  let recs := chunks 8 128 v.byt
  let x := s.cam c
  if !recs.all genRecordOk then (s, 0x02010001)
  else if 16 ≤ x.queue.length then (s, 0x06010004)
  else
    let n := s.nat (Obj.SensorControl.generationQueued c) % 65535 + 1
    ((s.setCam c { x with queue := x.queue ++ [{ num := n, first := none, done := none, failed := false, recs := recs }] }).setN
      (Obj.SensorControl.generationQueued c) n, 0)

/-- `GENERATION_WRITE` (R246). -/
def execGenerationWrite (t : Nat) (a : Caller) (c : Nat) (v : Bytes) (s : State) : Host.Outcome State Fault Refusal :=
  access t s (fun s => s.write a (Obj.SensorControl.generationWrite c) v (wrGeneration c))

/-- The field time base in ns at an earlier instant, at its present increment. -/
def State.slaveNsAt (s : State) (at_ : Nat) : Int := (s.tim.slave.val - s.tim.slave.inc * ticksBetween at_ s.now) / 2 ^ 32

/-- The bytes of a record on the bus (R246): the address with the write bit, the register address and the data, each most significant byte
first at its width; a read repeats the address with the read bit in place of data. -/
def genWire (r : Bytes) : Bytes :=
  let ctl := fld r 1 1; let dev := 2 * (fld r 0 1 % 128)
  leBytes 1 dev ++ beBytes (ctl % 2 + 1) (fld r 2 2)
    ++ (if bit ctl 3 then leBytes 1 (dev + 1 : Nat) else beBytes (bits ctl 2 1 + 1) (fld r 4 4))

/-- The bus shows an error (R245): a NACK, a lost arbitration, or a stretch beyond `timeout` ms. -/
def busError (b : BusReport) (timeout : Nat) : Bool := b.nack || b.lost || decide (10 ^ 7 * timeout < b.stretch)

/-- One record of the oldest generation of camera `c` ends, its START at `start`: with a bus error the generation fails; with its last
record it completes (R245, R246, R247). -/
def State.genRecord (s : State) (c start : Nat) (bus : BusReport) (rdata : Bytes) : State :=
  let failed := busError bus (s.nat (Obj.SensorControl.i2cTimeout c))
  let x := s.cam c
  match x.queue with
  | [] => s
  | g :: rest =>
    match g.recs with
    | [] => s
    | r :: rs =>
      let g := { g with first := some (g.first.getD (s.slaveNsAt start)), recs := rs }
      let s := s.emit (.camera c 1 (if failed then (genWire r).take bus.sent else genWire r))
      if failed then
        let s := s.setCam c { x with queue := rest, ended := x.ended ++ [{ g with done := some s.tim.slave.ns, failed := true, recs := [] }] }
        (s.setN (Obj.SensorControl.generationFailed c) g.num).ev Ev.generationFailed [] c
      else
        let x := if bit (fld r 1 1) 3 then { x with reads := g.num } else x
        let s := if bit (fld r 1 1) 3 then
            s.setB (Obj.SensorControl.readback c)
              ((if (s.cam c).reads = g.num then s.byt (Obj.SensorControl.readback c) else []) ++ rdata.take (bits (fld r 1 1) 2 1 + 1))
          else s
        if rs.isEmpty then
          (s.setCam c { x with queue := rest, ended := x.ended ++ [{ g with done := some s.tim.slave.ns }] }).setN (Obj.SensorControl.generationDone c) g.num
        else s.setCam c { x with queue := g :: rest }

/-- `GENERATION_RECORD` (R247). -/
def execGenerationRecord (t c start : Nat) (bus : BusReport) (rdata : Bytes) (s : State) : Host.Outcome State Fault Refusal :=
  fieldCmd t s (fun s => s.genRecord c start bus rdata)

/-! ### Flat field (R460) -/

/-- `FLAT_FIELD_TIMEOUT` (R460): `FlatFrames` good frames have not arrived within 10 s. -/
def execFlatFieldTimeout (t c : Nat) (s : State) : Host.Outcome State Fault Refusal :=
  fieldCmd t s (fun s =>
    match s.cal.flats.find? (fun p => p.1 == c) with
    | none => s
    | some (_, r) =>
      if r.start + 10 ^ 11 ≤ s.now then (s.setCal { s.cal with flats := s.cal.flats.filter (fun p => p.1 != c) }).calEnd 5 c (some 3) else s)

end Sys2Proof.Machine
end

