-- ==== Sys2Proof/Machine/Compression.lean ====
section
/-! DEFINITION. The commands of the compression channels (spec/13). -/

namespace Sys2Proof.Machine

/-! ### Submission (R318, R319) -/

/-- JobIds of a session's jobs that have not ended. -/
def State.jobIds (s : State) (sess : Nat) : List Nat :=
  (List.range 8).flatMap (fun ch =>
    let x := s.chan ch
    ((x.queue ++ x.run.toList).filter (fun j => j.sess == some sess)).map (·.id))

/-- The size of a region of R306 in bytes, from the region table. -/
def State.regionSize (s : State) (r : Nat) : Nat := fld (s.byt Obj.RegionMap.regionTable) (16 * r + 8) 8

/-- The abort that R319 gives a descriptor on channel `ch`; 0 where it is accepted. -/
def State.submitAbort (s : State) (sess ch : Nat) (b : Bytes) : Nat :=
  let id := fld b 0 4; let region := fld b 4 1; let mode := fld b 5 1; let level := fld b 6 1
  let ring := fld b 24 2
  let modeOk := if deep ch then mode == 1 else decide (mode ≤ 2)
  let levelOk := if deep ch then decide (1 ≤ level ∧ level ≤ 9) else level == 0
  if fld b 7 1 ≠ 0 ∨ fld b 26 2 ≠ 0 ∨ !modeOk ∨ !levelOk ∨ id = 0 ∨ 2 ^ 31 ≤ id ∨ (s.jobIds sess).contains id
      ∨ 2 ^ 30 < fld b 16 4 ∨ fld b 20 4 = 0 ∨ 16384 < fld b 20 4 ∨ 63 < ring then 0x02010001
  else if region ≠ 1 ∧ region ≠ 3 ∧ region ≠ 5 then 0x01010002
  else if s.regionSize region < fld b 8 8 + fld b 16 4 then 0x02010001
  else if !(s.ringsOf sess 1).contains ring then 0x01010003
  else if 16 ≤ (s.chan ch).queue.length then 0x06010006
  else if s.num Obj.CompressionControl.archiveBlocksFree < (fld b 20 4 : Int) then 0x06010007
  else 0

/-- A write of `Submit` of channel `ch` (R319). -/
def wrSubmit (sess ch : Nat) (v : Val) (s : State) : State × Nat :=
  let b := v.byt
  let a := s.submitAbort sess ch b
  if a ≠ 0 then (s, a)
  else
    let n := fld b 20 4
    let j : Job := { newJob (fld b 0 4) (some sess) (fld b 24 2) (fld b 16 4) (n * archiveBlock) with
      region := fld b 4 1, mode := fld b 5 1, level := fld b 6 1, src := fld b 8 8, tag := fld b 28 4 }
    ((s.archiveFree (-(n : Int))).setChan ch { s.chan ch with queue := (s.chan ch).queue ++ [j] }, 0)

/-- `COMPRESSION_SUBMIT` (R318). -/
def execCompressionSubmit (t : Nat) (a : Caller) (ch : Nat) (v : Bytes) (s : State) : Host.Outcome State Fault Refusal :=
  access t s (fun s => s.write a (Obj.Channel.submit ch) v (wrSubmit a.sess ch))

/-! ### Running (R310-R320) -/

/-- `JOB_START` (R320): an idle channel takes its oldest queued job. -/
def execJobStart (t ch : Nat) (s : State) : Host.Outcome State Fault Refusal :=
  fieldCmd t s (fun s =>
    let x := s.chan ch
    match x.run, x.queue with
    | none, j :: r => s.setChan ch { x with run := some j, stopAt := none, queue := r }
    | _, _ => s)

/-- Channel `ch` ends its running or STOPPED job with RESET and its queued ones with CANCELLED, and clears its history (R324). -/
def State.resetChannel (s : State) (ch : Nat) : State :=
  let x := s.chan ch
  let s := s.setChan ch { x with run := none, stopAt := none, queue := [] }
  let s := match x.run with | some j => s.endJob ch j 6 | none => s
  (x.queue.foldl (fun s j => s.endJob ch j 5) s).endWait .channel ch

/-- A channel that waits for the end of its input block is reset (R437, R438). -/
def State.channelIdle (s : State) (ch : Nat) : State := if s.waits .channel ch then s.resetChannel ch else s

/-- `INPUT_BLOCK` (R310): the next input block of channel `ch`, read from DRAM; a coding job reads the frame it holds. -/
def execInputBlock (t ch : Nat) (src : SourceRead) (s : State) : Host.Outcome State Fault Refusal :=
  fieldCmd t s (fun s =>
    let x := s.chan ch
    match x.run, x.stopAt with
    | some j, none =>
      let n := min 32768 (j.len - j.consumed)
      match src with
      | .uncorrectable => ((s.endRun ch { j with start := some (j.start.getD (s.stamp .field)) } 3)).channelIdle ch
      | .data b =>
        let data := if j.frame.isSome then sub j.input j.consumed n else b
        if data.length ≠ n then s else (s.inputBlock ch j data).channelIdle ch
    | _, _ => s)

/-- The channel whose STOPPED job has a JobId and belongs to a session. -/
def State.stoppedChannel (s : State) (sess id : Nat) : Option Nat :=
  (List.range 8).find? (fun ch => match (s.chan ch).run, (s.chan ch).stopAt with
    | some j, some _ => j.sess == some sess && j.id == id
    | _, _ => false)

/-- A write of `Resume` (R317). -/
def wrResumeJob (sess : Nat) (v : Val) (s : State) : State × Nat :=
  let b := v.byt
  let n := fld b 4 4
  if fld b 0 4 = 0 ∨ n = 0 ∨ 16384 < n then (s, 0x02010001)
  else match s.stoppedChannel sess (fld b 0 4) with
    | none => (s, 0x03010004)
    | some ch =>
      if s.num Obj.CompressionControl.archiveBlocksFree < (n : Int) then (s, 0x06010007)
      else match (s.chan ch).run with
        | none => (s, 0x03010004)
        | some j =>
          let s := (s.archiveFree (-(n : Int))).setChan ch { s.chan ch with stopAt := none }
          (s.emitOut ch { j with room := j.room + n * archiveBlock } j.rest (decide (j.len ≤ j.consumed + j.held)), 0)

/-- `COMPRESSION_RESUME` (R317). -/
def execCompressionResume (t : Nat) (a : Caller) (v : Bytes) (s : State) : Host.Outcome State Fault Refusal :=
  access t s (fun s => s.write a Obj.CompressionControl.resume v (wrResumeJob a.sess))

/-- `RESUME_TIMEOUT` (R317): a STOPPED job has waited `ResumeTimeout`. -/
def execResumeTimeout (t ch : Nat) (s : State) : Host.Outcome State Fault Refusal :=
  fieldCmd t s (fun s =>
    match (s.chan ch).run, (s.chan ch).stopAt with
    | some j, some at_ =>
      if at_ + 10 ^ 7 * s.nat Obj.CompressionControl.resumeTimeout ≤ s.now then (s.endRun ch j 7).ev Ev.compressTimeout [] ch else s
    | _, _ => s)

/-! ### Cancelling and resetting (R324) -/

/-- Jobs that `p` picks end as CANCELLED: a queued or STOPPED one at once, a running one at the end of its input block. -/
def State.cancelJobs (s : State) (p : Job → Bool) : State :=
  (List.range 8).foldl (fun s ch =>
    let x := s.chan ch
    let gone := x.queue.filter p
    let s := s.setChan ch { x with queue := x.queue.filter (fun j => !p j) }
    let s := gone.foldl (fun s j => s.endJob ch j 5) s
    match (s.chan ch).run, (s.chan ch).stopAt with
    | some j, some _ => if p j then s.endRun ch j 5 else s
    | some j, none => if p j then s.setChan ch { s.chan ch with run := some { j with cancel := true } } else s
    | none, _ => s) s

/-- A write of `Cancel` (R324): a job of the writing session only. -/
def wrCancel (sess : Nat) (v : Val) (s : State) : State × Nat :=
  if !(s.jobIds sess).contains v.nat then (s, 0x03010004)
  else (s.cancelJobs (fun j => j.sess == some sess && j.id == v.nat), 0)

/-- `COMPRESSION_CANCEL` (R324). -/
def execCompressionCancel (t : Nat) (a : Caller) (v : Bytes) (s : State) : Host.Outcome State Fault Refusal :=
  access t s (fun s => s.write a Obj.CompressionControl.cancel v (wrCancel a.sess))

/-- A write of `Reset` of channel `ch` (R324, R437): at once unless an input block is in progress, then at its end. -/
def wrChannelReset (ch : Nat) (s : State) : State × Nat :=
  match (s.chan ch).run, (s.chan ch).stopAt with
  | some _, none => if s.waits .channel ch then (s, 0) else (s.startWait .channel ch, 0)
  | _, _ => (s.resetChannel ch, 0)

/-- `CHANNEL_RESET` (R324). -/
def execChannelReset (t : Nat) (a : Caller) (ch : Nat) (v : Bytes) (s : State) : Host.Outcome State Fault Refusal :=
  access t s (fun s => s.write a (Obj.Channel.reset ch) v (fun _ s => wrChannelReset ch s))

end Sys2Proof.Machine
end

