-- ==== Sys2Proof/Machine/Inspection.lean ====
section
/-! DEFINITION. The commands of the inspection analyser (spec/11). -/

namespace Sys2Proof.Machine

/-! ### Windows (R274) -/

/-- The second moment of R274: since the plane's enable its accumulator, less the camera's offset, has reached the window's last line + 3, and
no frame of the camera that started before that moment remains. -/
def State.windowPassed (s : State) (k c : Nat) (w : Win) : Bool :=
  let reached := fun (mark : Int) => decide (w.first + w.lines + 2 ≤ (mark / 2 ^ 38 - s.num (Obj.CameraOffset.cameraOffset c k)) / 1024)
  let x := s.cam c
  let left := (match x.frame with | some f => [f] | none => []) ++ x.ring.filter (fun f => !f.done)
  reached (s.plane k).hwm && left.all (fun f => reached (f.marks.getD k 0) || !f.accepted)

/-- `WINDOW_CLOSE` (R274): the oldest open window of plane `k` closes for camera `c`. -/
def execWindowClose (t k c : Nat) (s : State) : Host.Outcome State Fault Refusal :=
  fieldCmd t s (fun s =>
    if !bit (s.nat Obj.AnalysisControl.renderActive) k ∨ !s.flag (Obj.CameraPort.enable c) then s
    else match (s.anaOf k).wins.find? (fun w => !w.closed.contains c) with
      | none => s
      | some w => if s.windowPassed k c w then s.closeWindow k c w else s)

/-! ### The planes analysed (R271, R284) -/

/-- A write of `PlaneMask`: analyses start and stop; none starts where one finds no room for its render extension. -/
def wrPlaneMask (x : Val) (s : State) : State × Nat :=
  let m := x.nat
  let on := (List.range 4).filter (fun k => bit m k && s.flag (Obj.PlaneConfig.enable k) && !bit (s.nat Obj.AnalysisControl.renderActive) k)
  let off := (List.range 4).filter (fun k => !bit m k && bit (s.nat Obj.AnalysisControl.renderActive) k)
  let s' := off.foldl (fun s k => (s.setExt k none).refreshGeometry) (s.setVal Obj.AnalysisControl.planeMask x)
  match on.foldl (fun (o : Option State) k => o.bind (fun s => s.startAnalysis k)) (some s') with
  | some s' => (s', 0)
  | none => (s, 0x06010005)

/-- `PLANE_MASK` (R284). -/
def execPlaneMask (t : Nat) (a : Caller) (v : Bytes) (s : State) : Host.Outcome State Fault Refusal :=
  access t s (fun s => s.write a Obj.AnalysisControl.planeMask v wrPlaneMask)

end Sys2Proof.Machine
end

