-- ==== Sys2Proof/Machine/DramOps.lean ====
section
/-! DEFINITION. Operations of the DRAM controller (spec/12): refresh, row-hammer tables, uncorrectable reads, training results. -/

namespace Sys2Proof.Machine

/-! ### Subchannels -/

/-- Subchannel `u`. -/
def State.subch (s : State) (u : Nat) : Sub := smGet (fun _ => Sub.init) s.dram u
/-- Subchannel `u` replaced. -/
def State.setSub (s : State) (u : Nat) (x : Sub) : State := { s with dram := smSet (fun _ => Sub.init) s.dram u x }

/-- `State` of subchannel `u` (R309). -/
def State.subState (s : State) (u : Nat) : Nat := s.nat (Obj.DramStatus.state u)

/-- The subchannel serves traffic: ready or retraining. -/
def State.serving (s : State) (u : Nat) : Bool := decide (u < s.nSub) && (s.subState u == 3 || s.subState u == 4)

/-- tREFI in 0.1 ns (R296). -/
def State.trefi (s : State) (u : Nat) : Nat := 10 * s.nat (Obj.DramStatus.refreshInterval u)

/-! ### Refresh (R296-R299, R304) -/

/-- tRFC in 0.1 ns for a density (R296). -/
def tRfc (density : Nat) : Nat := if density = 0 then 2950 else 4100

/-- A REFab is issued on subchannel `u` at instant `at_`; the row-hammer tables clear at every 8,192nd (R304). -/
def State.issueRef (s : State) (u at_ : Nat) : State :=
  let x := s.subch u
  let s := s.setSub u (if x.since + 1 = 8192 then { x with last := at_, since := 0, tables := [] } else { x with last := at_, since := x.since + 1 })
  (s.bump (Obj.DramStatus.refreshes u) 64).emit (.dram u 1 at_)

/-- `n` REFab are issued back-to-back from instant `at_`, each tRFC after the one before (R298). -/
def State.issueRefs (s : State) (u at_ n : Nat) : State :=
  let gap := tRfc (s.subch u).density
  (List.range n).foldl (fun s i => s.issueRef u (at_ + gap * i)) s

/-! ### Row hammer (R302, R303) -/

/-- Rows of a bank: density over 32 banks of 8 Kbit pages (JESD79-5, which R285 names). -/
def bankRows (density : Nat) : Nat := match density with | 0 => 65536 | 1 => 98304 | _ => 131072

/-- The least count of a table. -/
def leastCount (l : List HammerEntry) : Nat := match l with | [] => 0 | a :: r => r.foldl (fun m e => min m e.count) a.count

/-- The first entry that `p` picks replaced by `f` of it. -/
def mapFirst {α : Type} (p : α → Bool) (f : α → α) : List α → List α
  | [] => []
  | a :: r => if p a then f a :: r else a :: mapFirst p f r

/-- One ACT counted in a bank's table (R302): the table, and whether the row's neighbours are to be refreshed. -/
def hammerAct (threshold rank row : Nat) (l : List HammerEntry) : List HammerEntry × Bool :=
  let mine := fun (e : HammerEntry) => e.rank == rank && e.row == row
  let l := if l.any mine then mapFirst mine (fun e => { e with count := e.count + 1 }) l
    else if l.length < 16 then l ++ [⟨rank, row, 1⟩]
    else let m := leastCount l
         mapFirst (fun e => e.count == m) (fun e => ⟨rank, row, e.count + 1⟩) l
  if l.any (fun e => mine e && decide (threshold ≤ e.count)) then (mapFirst mine (fun e => { e with count := 0 }) l, true) else (l, false)

/-- The neighbours of a row within its bank (R303). -/
def neighbourRows (rows reach row : Nat) : List Nat :=
  ((List.range reach).flatMap (fun i => (if i + 1 ≤ row then [row - (i + 1)] else []) ++ [row + i + 1])).filter (fun r => decide (r < rows))

/-- ACTs of a bank, the last of them caused by neighbour refreshes of the first (R302, R303). -/
def State.actRows (s : State) (u rank bank : Nat) : Nat → List Nat → State
  | 0, _ => s
  | _, [] => s
  | n + 1, row :: more =>
    let x := s.subch u
    let (l, hot) := hammerAct (s.nat Obj.DramPolicy.hammerThreshold) rank row (smGet (fun _ => []) x.tables bank)
    let s := s.setSub u { x with tables := smSet (fun _ => []) x.tables bank l }
    if hot then
      let nb := neighbourRows (bankRows x.density) (s.nat Obj.DramPolicy.hammerReach) row
      let s := nb.foldl (fun s r => s.emit (.dram u 2 r)) (s.inc (Obj.DramStatus.hammerRefreshes u))
      State.actRows s u rank bank n (nb ++ more)
    else State.actRows s u rank bank n more

/-! ### Training loss and uncorrectable reads (R291, R292) -/

/-- A training loss on subchannel `u` (R292, R487). -/
def State.trainingLoss (s : State) (u : Nat) : State :=
  let s := (s.setN (Obj.DramStatus.state u) 5).ev Ev.dramTrainingLoss [] u
  if s.role = 0 then s.autoHold 2 else s.giveUp 4

/-- The 64-byte burst that holds an address begins here (R289). -/
def burst (addr : Nat) : Nat := addr / 64 * 64

/-- The codes of a line whose slot begins at `base`, with those of the words in the burst of `addr` set to 0 (R116, R291). -/
def zeroBurst (dropBits base addr : Nat) (codes : List Nat) : List Nat :=
  codes.zipIdx.map (fun p =>
    let w := base + 8 * (p.2 / codesPerWord dropBits)
    if burst addr ≤ w ∧ w < burst addr + 64 then 0 else p.1)

/-- The codes of line `L` of head `h` after the burst of `addr` has been zeroed. -/
def State.zeroed (s : State) (h addr : Nat) (L : Int) (codes : List Nat) : List Nat :=
  let k := s.planeOf h
  match slotAddress s.dict (s.plane k).ext (s.anaOf k).cmax k h L with
  | some a => zeroBurst (s.nat (Obj.PlaneConfig.dropBits k)) (trestleBase s.dict + a) addr codes
  | none => codes

/-- A frame with the rows made invalid that the 64 bytes from offset `o` of its slot touch (R250, R291). -/
def Frame.spoil (f : Frame) (o : Nat) : Frame :=
  let rows := f.rows.mapIdx (fun i r =>
    let a := 64 + 2 * f.width * i
    if a < o + 64 ∧ o < a + 2 * f.width then none else r)
  let h := f.head
  let g := { f with rows := rows }
  if h.isEmpty then g
  else { g with head := h.take 23 ++ leBytes 1 (setBit (fld h 23 1) 0 true) ++ sub h 24 10 ++ leBytes 2 g.validRows.length ++ h.drop 36 }

/-- The lines of head `h`'s present run whose entries lie in the burst of `addr`, each head's ring of `RecordDepth` entries of 16 bytes beginning
on a 1 MiB boundary (R209, R306). -/
def State.recordHit (s : State) (h addr : Nat) : List Int :=
  let hd := s.head h
  let n := hd.record.length
  let first := burst addr % 2 ^ 20 / 16
  (hd.record.zipIdx.filter (fun p => decide (n - hd.fresh ≤ p.2)
    && decide (first ≤ (hd.pushed - n + p.2) % s.nat Obj.FiringTiming.recordDepth
      ∧ (hd.pushed - n + p.2) % s.nat Obj.FiringTiming.recordDepth < first + 4))).map (·.1.line)

/-- Entries of the mirror ring (R512). -/
def mirrorSize : Nat := 32768

/-- The mirror with the entries in the burst of `addr` unreadable: a ring of entries of 32 bytes from the second MiB (R306, R512). -/
def State.mirrorHit (s : State) (addr : Nat) : List (Option EventRec) :=
  let m := s.flt.mirror
  let first := (burst addr - mib) / 32
  m.zipIdx.map (fun p =>
    let at_ := (s.flt.mirrored - m.length + p.2) % mirrorSize
    if first ≤ at_ ∧ at_ < first + 2 then none else p.1)

/-- What an uncorrectable read at `addr` does to the region it hits (R291, R320, R323, R324). -/
def State.contain (s : State) (addr : Nat) : EccHit → State
  | .strip k job page line col =>
    match s.strips.held.find? (fun x => x.plane == k && x.job == job && x.page == page && x.firstLine == line && x.firstCol == col) with
    | some x =>
      let s := match x.st with | .inflating e => s.idleEngine e | _ => s
      s.failStrip x true
    | none => s
  | .trestle h _ true =>
    let hd := s.head h
    s.setHead h { hd with lines := hd.lines.map (fun f => { f with codes := f.codes.map (s.zeroed h addr f.line) })
                          slots := hd.slots.map (fun x => (x.1, s.zeroed h addr x.1 x.2)) }
  | .trestle h line false => s.setHead h { s.head h with blind := (s.head h).blind ++ [line] }
  | .record h => s.setHead h { s.head h with blind := (s.head h).blind ++ s.recordHit h addr }
  | .ring c slot =>
    let (n, s) := s.fresh
    let x := s.cam c
    s.setCam c { x with ring := x.ring.mapIdx (fun i f => if i = slot then f.spoil (n % (64 + 2 * f.width * f.height)) else f) }
  | .preview =>
    match s.cams.previews with
    | [] => s
    | p :: r => { s with cams := { s.cams with previews := r } }.inc (Obj.Outputs.previewDropped p.cam)
  | .archive ch id block =>
    match (s.chan ch).run.filter (fun j => j.id == id) with
    | some j => s.endRun ch j 4
    | none =>
      let hit := fun (m : ArchMsg) => m.chan == ch && m.job == id && m.part == some block
      if s.comp.out.any hit then (s.dropMessages hit).ev Ev.archiveCorrupt [] ch else s
  | .firmware image =>
    let (o, s) := s.fresh
    let (n, s) := s.fresh
    let off := o % 2 ^ 32; let len := n % 32768 + 1
    ({ s with span := { s.span with bootReq := s.span.bootReq ++ [(image % 2, 1, off, len)], badBoot := s.span.badBoot ++ [image % 2] } }).toHost 0x45
      (leBytes 1 ((image % 2 : Nat) : Int) ++ leBytes 1 1 ++ leBytes 2 0 ++ leBytes 4 off ++ leBytes 4 len)
  | .log => (s.setFlt { s.flt with mirror := s.mirrorHit addr }).touch Obj.fieldMirror
  | .training => s

/-- An uncorrectable read on subchannel `u` (R291, R292). -/
def State.uncorrectable (s : State) (u addr : Nat) (hit : EccHit) : State :=
  let s := ((s.inc (Obj.DramStatus.uncorrectable u)).setN (Obj.DramStatus.lastErrorAddress u) addr).ev Ev.dramUncorrectable [] u
  let s := s.contain addr hit
  let x := s.subch u
  let errs := s.now :: x.errs.filter (fun t => decide (s.now < t + 10 ^ 7))
  let s := s.setSub u { x with errs := errs }
  if s.nat Obj.DramPolicy.ueLimit < errs.length then s.trainingLoss u else s

/-! ### Training results (R293-R295, R301, R455) -/

/-- Width of a window of delay steps. -/
def windowWidth (lo hi : Nat) : Nat := hi + 1 - lo

/-- The longest run of passing steps of a sweep at one Vref value (R294): its first step and its width; the lower of two equally long. -/
def passRun (m : Nat) : Nat × Nat :=
  let r := (List.range 128).foldl (fun (p : Nat × Nat × Nat) i =>
    let n := if bit m i then p.1 + 1 else 0
    if p.2.2 < n then (n, i + 1 - n, n) else (n, p.2.1, p.2.2)) (0, 0, 0)
  r.2

/-- The passing window of a lane in one direction (R294): the longest run over the Vref values, of equals that of the lower one. -/
def passWindow (l : List Nat) : Nat × Nat :=
  (l.map passRun).foldl (fun (m : Nat × Nat) r => if m.2 < r.2 then r else m) (0, 0)

/-- Entry of `EyeMap` for one window: its midpoint, rounded down, and its width. -/
def eyeBytes (w : Nat × Nat) : Bytes := leBytes 1 ((2 * w.1 + w.2 - 1) / 2 : Nat) ++ leBytes 1 (w.2 : Nat)

/-- The entry of `EyeMap` of a trained lane (R294). -/
def trainedEye (x : LaneEyes) : Bytes := eyeBytes (passWindow x.read) ++ eyeBytes (passWindow x.write)

/-- A trained lane is at least `MinEyeWidth` wide both ways (R295). -/
def trainedWide (x : LaneEyes) (least : Nat) : Bool := decide (least ≤ (passWindow x.read).2 ∧ least ≤ (passWindow x.write).2)

/-- Training of a subchannel is good (R293, R295): step 1 and steps 2 to 5 within their bounds, and five lanes wide enough. -/
def trainGood (r : TrainResult) (init least : Nat) : Bool :=
  decide (init ≤ 10) && r.steps.length == 4 && ((r.steps.zip [20, 10, 25, 30]).all (fun p => decide (p.1 ≤ p.2)))
    && r.lanes.length == 5 && r.lanes.all (fun x => trainedWide x least)

/-- Duration of full training in ms (R293): the channels train in parallel, the subchannels of one channel one after the other. -/
def trainTime (ok : List TrainResult) (inits : List Nat) : Nat :=
  let sub := fun (u : Nat) => match ok[u]? with | some r => r.steps.sum | none => 0
  max (inits.getD 0 0 + sub 0 + sub 1) (inits.getD 1 0 + sub 2 + sub 3)

/-- The entry of `EyeMap` of a retrained lane (R301): centres at the midpoints, rounded down. -/
def laneEye (x : LaneSweep) : Bytes :=
  leBytes 1 (((x.readLo + x.readHi) / 2 : Nat) : Int) ++ leBytes 1 (windowWidth x.readLo x.readHi) ++ leBytes 1 (((x.writeLo + x.writeHi) / 2 : Nat) : Int)
    ++ leBytes 1 (windowWidth x.writeLo x.writeHi)

/-- A retrained lane is at least `MinEyeWidth` wide both ways (R292). -/
def laneWide (x : LaneSweep) (least : Nat) : Bool := decide (least ≤ windowWidth x.readLo x.readHi ∧ least ≤ windowWidth x.writeLo x.writeHi)

/-- Bytes of an `EyeMap`, or zeros. -/
def eyeMapOf (b : Bytes) : Bytes := if b.length = 20 then b else List.replicate 20 0#8

/-- The judgement of a retrained lane's window against its old centre `c` (R301, R455): an edge beyond ±8 steps keeps the centre and rejects;
a new centre must lie within `DramMaxShift`. Edges at ±8 are inside the sweep (log entry 156). -/
def windowOk (c lo hi shift : Nat) : Bool :=
  -- both edges lie inside the sweep
  decide (c ≤ lo + 8 ∧ hi ≤ c + 8) && (let m := (lo + hi) / 2
    decide (m ≤ c + shift ∧ c ≤ m + shift))

end Sys2Proof.Machine
end

