-- ==== Sys2Proof/Machine/SecOps.lean ====
section
/-! DEFINITION. Credentials, the debug grant and the closing of sessions (R371, R494-R505). -/

namespace Sys2Proof.Machine

/-! ### Issuers and roles (R500, R501) -/

/-- The lifecycle state (R495): 0 BLANK, 1 PROVISIONED, 2 FIELD, 3 RETURN, 4 SCRAPPED. -/
def State.lifecycle (s : State) : Nat := s.nat Obj.Security.lifecycle

/-- A debug grant signed by the owner is in force. -/
def State.ownerGrant (s : State) : Bool := s.nat Obj.Debug.level != 0 && s.sec.signer == 1

/-- Whether lifecycle `lc` admits a credential of issuer `iss` (0 vendor, 1 owner, 2 none) to a role (R501); a session without a
credential holds role X (R500). -/
def admitsIssuer (lc iss : Nat) (role : Nat) (owner : Bool) : Bool :=
  match lc, iss with
  | 4, _ => false
  | _, 2 => role == 0
  | 0, 0 => true
  | 1, 0 => true
  | 1, 1 => decide (role < 3)
  | 2, 1 => decide (role < 3)
  | 2, 0 => role == 3 && owner
  | 3, 0 => true
  | _, _ => false

/-- Issuer of an open session's credential. -/
def State.issuer (s : State) (i : Nat) : Nat := smGet (fun _ => 2) s.sec.creds i

/-- The fused hash that stands for an issuer's key; none where the key is not fused (R494, R500). -/
def State.issuerKey (s : State) (iss : Nat) : Option Bytes :=
  if iss = 0 then some (Config.partBytes Obj.Security.rootKeyHash)
  else if iss = 1 ∧ s.lifecycle ≠ 0 then some (s.byt Obj.Security.ownerKeyHash) else none

/-- The master time in whole ns. -/
def State.masterNs (s : State) : Int := s.tim.master.ns

/-- TIME80 of the ten bytes at an offset, in ns. -/
def time80 (b : Bytes) (o : Nat) : Int := ((fld b o 6 * 1000000000 + fld b (o + 6) 4 : Nat) : Int)

/-- A time in ns as TIME80. -/
def time80Bytes (n : Int) : Bytes := leBytes 6 (n / 1000000000) ++ leBytes 4 (n % 1000000000)

/-- A credential passes every check of R500. -/
def State.credentialOk (s : State) (c : Bytes) : Bool :=
  let iss := fld c 6 1
  c.length == 236 && fld c 0 4 == 0x52435A41 && fld c 4 1 == 1 && decide (fld c 5 1 ≤ 3) && decide (iss ≤ 1)
    && (match s.issuerKey iss with
        | some k => Config.ecdsaVerify k (Config.sha384 (c.take 140)) (sub c 140 96)
        | none => false)
    && (!bit (fld c 7 1) 0 || fld c 8 8 == s.ident.uniqueId)
    && decide (s.nat (if iss = 0 then Obj.Security.credentialFloorVendor else Obj.Security.credentialFloorOwner) ≤ fld c 36 4)
    && (!s.flag Obj.Security.timeTrusted || decide (time80 c 16 ≤ s.masterNs ∧ s.masterNs ≤ time80 c 26))

/-! ### Contexts and rings freed (R371, R374) -/

/-- A ring is freed: its descriptors are discarded and its binding ends. -/
def State.freeRing (s : State) (r : Nat) : State :=
  let d := s.nat (Obj.Ring.depth r)
  let s := (s.setRing r []).setN Obj.Ngalis.descriptorsFree (s.nat Obj.Ngalis.descriptorsFree + d : Nat)
  let s := ((s.setN (Obj.Ring.session r) 0xFFFF).setN (Obj.Ring.direction r) 0).setN (Obj.Ring.depth r) 0
  let s := ((s.setN (Obj.Ring.streamMask r) 0).setN (Obj.Ring.launchMode r) 0).setN (Obj.Ring.launchDelay r) 0
  ((s.setN (Obj.Ring.launchPhase r) 0).endWait .ring r).sendCredit r

/-- A context is freed with no message: its rings, its DOMAIN transfers and its session-relative objects go (R361, R371). -/
def State.freeContext (s : State) (i : Nat) : State :=
  let st := s.sessState i
  let s := (s.ringsOf i 0 ++ s.ringsOf i 1).foldl State.freeRing s
  let s := { s with groups := { s.groups with transfers := s.groups.transfers.filter (fun x => x.sess != i) }
                    sec := { s.sec with creds := smErase s.sec.creds i } }
  let s := ((s.setSess i Sess.init).setN (Obj.Session.state i) 0).setN (Obj.Session.rings i) 0
  if st = 1 then s.setN Obj.Ngalis.handshaking (s.nat Obj.Ngalis.handshaking - 1 : Nat)
  else if st = 2 then s.setN Obj.Ngalis.openSessions (s.nat Obj.Ngalis.openSessions - 1 : Nat) else s

/-- A SESSION_NOTE of a context (R385): 0 opened, 1 closed, 2 streams changed. -/
def State.noteSession (s : State) (i change : Nat) : State :=
  s.toField 0x08 (leBytes 2 i ++ leBytes 1 change ++ leBytes 1 (s.num (Obj.Session.role i)) ++ leBytes 2 (s.sess i).streams ++ leBytes 2 0)

/-- A session ends with a reason (R371): CLOSE goes to the host unless the host asked for it, the field island is told, and the
context is freed. A handshake ends with no message. -/
def State.closeContext (s : State) (i reason : Nat) (tell : Bool := true) : State :=
  if s.sessState i = 2 then
    let s := if !tell then s else s.sendMsg i 13 (leBytes 1 reason ++ leBytes 3 0)
    let s := (s.sess i).strips.foldl (fun s w => s.abortDeposit w 0) s
    ((s.noteSession i 1).freeContext i).hev Ev.sessionClosed [reason] i
  else s.freeContext i

/-! ### The debug grant (R503, R505) -/

/-- Nobody holds the grant: the level is NONE, and the field island is told to close debug above OBSERVE (R385 CONTROL opcode 3). -/
def State.dropGrant (s : State) : State :=
  let s := if s.nat Obj.Debug.level = 2 then
      s.toField 0x0A (leBytes 1 3 ++ leBytes 3 0 ++ leBytes 4 s.span.counts ++ leBytes 4 0)
    else s
  let s := ((s.setN Obj.Debug.level 0).setN Obj.Debug.holder 0).setN Obj.Debug.holderSession 0xFFFF
  { s.setN Obj.Debug.grantRemaining 0 with sec := { s.sec with grantEnd := none, signer := 2 } }

/-- The open sessions that the present state does not permit are closed with reason 4 (R495, R505); a grant that one of them held ends. -/
def State.closeUnadmitted (s : State) : State :=
  let s := s.openSessions.foldl (fun s i =>
    if admitsIssuer s.lifecycle (s.issuer i) (s.nat (Obj.Session.role i)) s.ownerGrant then s else s.closeContext i 4) s
  if s.nat Obj.Debug.holder = 2 ∧ s.sessState (s.nat Obj.Debug.holderSession) ≠ 2 then s.dropGrant else s

/-- The grant ends, and a session that only the grant admitted is closed (R503, R505). -/
def State.endGrant (s : State) : State :=
  if s.ownerGrant then s.dropGrant.closeUnadmitted else s.dropGrant

/-- A session ends by any route (R371); a debug grant that it holds ends with it (R503). -/
def State.closeSession (s : State) (i reason : Nat) (tell : Bool := true) : State :=
  let holds := s.nat Obj.Debug.holder == 2 && s.nat Obj.Debug.holderSession == i
  let s := s.closeContext i reason tell
  if holds then s.endGrant else s

end Sys2Proof.Machine
end

