-- ==== Sys2Proof/Machine/TimeOps.lean ====
section
/-! DEFINITION. Steps of the time bases, the slave servo and the time outputs (spec/17). -/

namespace Sys2Proof.Machine

/-! ### Steps (R398, R406, R407) -/

/-- A step as TimeStepped carries it (R398, R539). -/
def stepNs (d : Int) : Int := clamp d (-(2 ^ 31 - 1)) (2 ^ 31 - 1)

/-- The master time is trusted from its first step on (R500). -/
def State.trustTime (s : State) : State := s.setN Obj.Security.timeTrusted 1

/-- Descriptors of immediate rings keep the instant at which they became ready (R375, R399). -/
def State.shiftReady (s : State) (d : Int) : State :=
  (List.range 64).foldl (fun s r =>
    if s.nat (Obj.Ring.launchMode r) = 0 ∧ s.ring r ≠ [] then
      { s with net := { s.net with rings := smSet (fun _ => []) s.net.rings r ((s.ring r).map (fun x => { x with ready := x.ready + d })) } }
    else s) s

/-- The master steps by `d` in 2⁻³² ns (R398). A periodic output goes on with the targets after the present time (R409). -/
def State.stepMaster (s : State) (d : Int) : State :=
  let old := s.tim.master.ns
  let s := { s with tim := { s.tim with master := { s.tim.master with val := s.tim.master.val + d } } }
  let now := s.tim.master.ns
  let back := fun (n : Nat) (l : List (Nat × Int)) =>
    if s.nat (Obj.TimeOutputs.mode n) = 2 ∧ now < old then smSet (fun _ => (-1 : Int)) l n now else l
  let s := { s with tim := { s.tim with evtLast := back 1 (back 0 s.tim.evtLast) } }
  ((s.inc Obj.MasterTime.steps).shiftReady (now - old)).trustTime.hev Ev.timeStepped [stepNs (now - old)]

/-- Instants that the field island holds on its time base move with it (R406): the edge stamps of the speed, camera expectations, the
stamps of frames and generations that are still to be compared, compression start stamps, and the instants from which it counts intervals
(R399). The basis of the predictions, strobe and trigger instants are held in physical time. -/
def State.shiftField (s : State) (d : Int) : State :=
  let o := fun (x : Option Int) => x.map (· + d)
  let gen := fun (g : Gen) => { g with first := o g.first, done := o g.done }
  let frame := fun (f : Frame) => { f with start := f.start + d, ref := o f.ref }
  let cam := fun (c : Cam) => { c with starts := c.starts.map (· + d), expects := c.expects.map (fun e => { e with tp := e.tp + d })
                                       frame := c.frame.map frame, ring := c.ring.map frame, queue := c.queue.map gen, ended := c.ended.map gen }
  let job := fun (j : Job) => { j with start := j.start.map (fun n => stamp32 ((n : Int) + d)) }
  let chan := fun (c : CompChan) => { c with run := c.run.map job, queue := c.queue.map job }
  let defect := fun (e : Defect) => { e with appliedAt := e.appliedAt + d, validAt := e.validAt + d }
  { s with
    web := { s.web with enc := smMap (fun _ => Enc.init) (fun x => { x with hist := x.hist.map (· + d) }) s.web.enc }
    cams := { s.cams with cam := smMap (fun _ => Cam.init) cam s.cams.cam }
    comp := { s.comp with chans := smMap (fun _ => CompChan.init) chan s.comp.chans }
    health := { s.health with table := s.health.table.map defect, queue := s.health.queue.map defect }
    meas := smMap (fun _ => Meas.init) (fun m => { m with doneAt := m.doneAt + d }) s.meas
    cal := { s.cal with due := s.cal.due.map (fun x => { x with since := x.since + d }) } }

/-- The start of the next control cycle after a step (R407): the first multiple of 25,000 ns at least 12,500 ns of ticks after the start of
the present one. -/
def nextCycle (slaveNs : Int) (elapsedNs : Nat) : Int :=
  let from_ : Int := slaveNs + ((12500 - elapsedNs : Nat) : Int)
  (from_ + 24999) / 25000 * 25000

/-- The slave steps by `d` in 2⁻³² ns (R404, R406). -/
def State.stepSlave (s : State) (d : Int) : State :=
  let old := s.tim.slave.ns
  let v := { s.tim.slave with val := s.tim.slave.val + d }
  let s := { s with tim := { s.tim with slave := v, cycleNext := some (nextCycle v.ns ((s.now - s.tim.cycleAt) / 10)) } }
  ((s.shiftField (v.ns - old)).inc Obj.SlaveTime.steps).ev Ev.timeStepped [stepNs (v.ns - old)]

/-! ### The slave servo (R404, R405) -/

/-- Full slave or master value of a TIME body's fields from offset `o`, in 2⁻³² ns. -/
def spanTime (b : Bytes) (o : Nat) : Int :=
  (((fld b o 6 * 1000000000 + fld b (o + 8) 4) * 2 ^ 32 + fld b (o + 12) 4 : Nat) : Int)

/-- A time base value as Seconds, reserved, Nanoseconds and Fraction (R385). -/
def spanTimeBytes (v : Int) : Bytes :=
  let ns := v / 2 ^ 32
  leBytes 6 (ns / 1000000000) ++ leBytes 2 0 ++ leBytes 4 (ns % 1000000000) ++ leBytes 4 (v % 2 ^ 32)

/-- `SlaveTime.State` takes a value; LOCKED and HOLDOVER are reported when entered (R405). -/
def State.slaveState (s : State) (n : Nat) : State :=
  let was := s.nat Obj.SlaveTime.state
  let s := s.setN Obj.SlaveTime.state n
  if n = was then s
  else if n = 2 then s.ev Ev.timeLocked
  else if n = 3 then s.ev Ev.timeHoldover else s

/-- The increment of the slave from the master's and r (R404); r is in 2⁻³⁵ ppm. -/
def slaveInc (masterInc r : Int) : Int := masterInc + freeDiv (masterInc * r) (2 ^ 35 * 1000000)

/-- A TIME with error `e` (2⁻³² ns) trims or steps the slave (R404). -/
def State.servo (s : State) (e masterInc : Int) : State :=
  let st := s.nat Obj.SlaveTime.state
  let step := decide (st = 0 ∨ st = 3 ∨ e.natAbs > s.nat Obj.SlaveTime.stepThreshold * 2 ^ 32)
  let s := if step then (s.stepSlave e).slaveState 1 else s
  let i : Int := if step then s.tim.servoI else if s.tim.first then s.tim.servoI + 8 * e
    else clamp (s.tim.servoI + e) (-500 * 2 ^ 35) (500 * 2 ^ 35)
  let r : Int := if step then s.tim.servoR else if s.tim.first then i else 4 * e + i
  { s with tim := { s.tim with servoI := i, servoR := r, first := step, slave := { s.tim.slave with inc := slaveInc masterInc r } } }

/-- Runs of TIMEs within and beyond 4 ns, and the state that they give (R405). -/
def State.judgeLock (s : State) (e : Int) : State :=
  let good := decide (e.natAbs ≤ 4 * 2 ^ 32)
  let a := if good then s.tim.inBand + 1 else 0
  let b := if good then 0 else s.tim.outBand + 1
  let s := { s with tim := { s.tim with inBand := min a 8, outBand := min b 2 } }
  let st := s.nat Obj.SlaveTime.state
  if st = 1 ∧ 8 ≤ a then s.slaveState 2 else if st = 2 ∧ 2 ≤ b then s.slaveState 1 else s

/-- A TIME takes effect (R404-R406, R386): the slave value is the one at its stamp point, with 1 ns resolution (R382). -/
def State.time (s : State) (b : Bytes) : State :=
  let ts := s.tim.slave.fine s.now
  let seen := match s.span.timeAt with | some v => v | none => ts
  let e := spanTime b 4 + 220 * 2 ^ 32 - seen / 2 ^ 32 * 2 ^ 32
  let s := { s with span := { s.span with timeAt := none }, tim := { s.tim with lastTime := some s.now } }
  let s := ((s.inc Obj.SlaveTime.timesReceived).servo e (fld b 20 8)).judgeLock e
  let s := s.setN Obj.SlaveTime.slaveError (sext 32 (freeDiv e (2 ^ 32)))
  let s := s.setN Obj.SlaveTime.rateOffset (clamp (freeDiv (s.tim.servoR * 1000) (2 ^ 35)) (-500000) 500000)
  s.toHost 0x49 (leBytes 4 (fld b 0 4) ++ spanTimeBytes (seen / 2 ^ 32 * 2 ^ 32))

/-! ### Time outputs (R409) -/

/-- The last target of an output at or before `now`: one-shot (1) or periodic (2); none before `Start`, or in mode 0. -/
def evtTarget (mode : Nat) (start period now : Int) : Option Int :=
  if now < start then none
  else if mode = 1 then some start
  else if mode = 2 then some (start + (now - start) / (max period 1) * (max period 1)) else none

/-- Output `n` (0 or 1) starts afresh: only targets after the present time fire; mode 0 drives it low. -/
def State.armOutput (s : State) (n : Nat) : State :=
  let s := { s with tim := { s.tim with evtLast := smSet (fun _ => (-1 : Int)) s.tim.evtLast n s.tim.master.ns } }
  if s.nat (Obj.TimeOutputs.mode n) = 0 ∧ s.tim.evtHigh.contains n then
    { s with tim := { s.tim with evtHigh := s.tim.evtHigh.filter (· != n) } }.pin (.evtOut n) false
  else s

end Sys2Proof.Machine
end

