-- ==== Sys2Proof/Machine/ClockOps.lean ====
section
/-! DEFINITION. Crystals, clock domains, gates and the power states of the field island (spec/18). -/

namespace Sys2Proof.Machine

/-! ### Domains (R414-R416) -/

/-- Domain `d` (0 HCORE, 1 HTIMER, 2 FCORE, 3 FTIMER) takes a source; `Source` of the master time base follows HTIMER (R396). -/
def State.feedDomain (s : State) (d src : Nat) : State :=
  if s.nat (Obj.DomainSwitch.inUse d) = src then s
  else
    let s := (s.setN (Obj.DomainSwitch.inUse d) src).inc (Obj.DomainSwitch.switches d)
    if d = 1 then s.setN Obj.MasterTime.source src else s

/-- The switchable domains of an island. -/
def domainsOf : Side → List Nat
  | .host => [0, 1]
  | .field => [2, 3]

/-- The island of a domain. -/
def domainSide (d : Nat) : Side := if d < 2 then .host else .field

/-- The crystal record of an island. -/
def State.xtal (s : State) : Side → Xtal
  | .host => s.pow.xtalH
  | .field => s.pow.xtalF

/-- The crystal record of an island replaced. -/
def State.setXtal (s : State) (i : Side) (x : Xtal) : State :=
  match i with
  | .host => s.setPow { s.pow with xtalH := x }
  | .field => s.setPow { s.pow with xtalF := x }

/-- `XtalState` of an island. -/
def xtalState : Side → Nat
  | .host => Obj.Clocks.xtalState 0
  | .field => Obj.Clocks.xtalState 1

/-- An island's reset record. -/
def State.episode (s : State) : Side → Episode
  | .host => s.rst.host
  | .field => s.rst.field

/-- The island that sends on Span channel `i`. -/
def chanSender (i : Nat) : Side := if i < 6 then .host else .field

/-- A Span channel can carry: both islands are out of reset and the sender's crystal is accepted (R381). -/
def State.chanOpen (s : State) (i : Nat) : Bool :=
  !s.rst.host.active && !s.rst.field.active && s.nat (xtalState (chanSender i)) == 1

/-- The Span channels and the Stay lanes that are down and can carry are brought up: their receivers seek block lock (R380, R381, R471). -/
def State.seekLock (s : State) : State :=
  let s := s.each (List.range 12) (fun s i => if s.nat (Obj.SpanChannel.state i) = 0 ∧ s.chanOpen i then s.setN (Obj.SpanChannel.state i) 1 else s)
  if s.hasStay ∧ !s.rst.field.active ∧ s.nat (xtalState .field) = 1 then
    s.each [0, 1] (fun s l => if s.nat (Obj.StayLane.state l) = 0 then s.setN (Obj.StayLane.state l) 1 else s)
  else s

/-- The crystal is accepted (R411, R443 step 3): its ready flag is set and the switchable domains move to source 1, whose PLL is taken as locked at
once (R414, log entry 62). -/
def State.acceptXtal (s : State) (i : Side) : State :=
  let s := (s.setN (xtalState i) 1).raise i Ev.xtalAccepted
  let s := if s.nat Obj.StartControl.startStage = 1 ∨ s.nat Obj.StartControl.startStage = 2 then s.setN Obj.StartControl.startStage 3 else s
  ((domainsOf i).foldl (fun s d => ((s.setN (Obj.DomainSwitch.ready d) 3).setN (Obj.DomainSwitch.source d) 1).feedDomain d 1) s).seekLock

/-- The crystal is lost (R413): its domains move to the internal oscillator, at once while the old source still gives edges, else after the
forced switch of R416; a host island loses its ports, a field island its links and its DRAM and enters HOLD. -/
def State.loseXtal (s : State) (i : Side) (dead : Bool) : State :=
  let key := match i with | .host => Obj.Clocks.xtalLosses 0 | .field => Obj.Clocks.xtalLosses 1
  let s := ((s.setN (xtalState i) 3).inc key).raise i Ev.xtalLost
  let s := (domainsOf i).foldl (fun s d =>
    let s := (s.setN (Obj.DomainSwitch.ready d) 1).setN (Obj.DomainSwitch.source d) 0
    if dead ∧ s.nat (Obj.DomainSwitch.inUse d) = 1 then s.setPow { s.pow with muxWait := s.pow.muxWait ++ [(d, 0)] } else s.feedDomain d 0) s
  match i with
  | .host => (List.range 5).foldl State.portDown s
  | .field =>
    let s := (s.giveUp 5).autoHold 3
    let s := ((List.range 4).filter (fun u => decide (u < s.nSub) && s.subState u != 5)).foldl (fun s u => s.trainingLoss u) s
    (List.range 64).foldl (fun s h => s.linkLoss h none 1) s

/-! ### Gates (R417) -/

/-- The blocks of the field island that the variant has, as gate bits. -/
def State.presentGates (s : State) : Nat :=
  (2 ^ s.nPiers - 1) + (if s.nCams = 0 then 0 else (2 ^ s.nCams - 1) * 2 ^ 16 + 3 * 2 ^ 20) + 255 * 2 ^ 22 + 2 ^ 30

/-- An analysis runs on some plane. -/
def State.analysisRuns (s : State) : Bool := (List.range 4).any (fun k => (s.plane k).ext.isSome)

/-- Some camera port is enabled. -/
def State.anyCamera (s : State) : Bool := (List.range 4).any (fun c => s.flag (Obj.CameraPort.enable c))

/-- Why a field gate may not be closed by a write; 0 where it may. -/
def State.closeAbort (s : State) (b : Nat) : Nat :=
  if b < 16 then (if s.nat (Obj.PierConfig.service b) = 1 then 0 else 0x03010003)
  else if b < 20 then (if s.flag (Obj.CameraPort.enable (b - 16)) then 0x03010005 else 0)
  else if b = 20 then (if s.anyCamera then 0x03010005 else 0)
  else if b = 21 then (if s.analysisRuns then 0x03010006 else 0)
  else if b < 30 then 0
  else if s.anyPlane then 0x03010001 else 0

/-- Gates that a write closes, ascending. -/
def closing (old new_ n : Nat) : List Nat := (List.range n).filter (fun b => bit old b && !bit new_ b)

/-- An access to an object of the block behind a gate is in progress: a DOMAIN transfer to it is open (R418). -/
def State.portBusy (s : State) (host : Bool) (b : Nat) : Bool :=
  s.groups.transfers.any (fun x => gateOf (x.key / 256) == some (host, b))

/-- A close behind a busy bus port waits (R418). -/
def State.deferClose (s : State) (host : Bool) (bs : List Nat) : State :=
  s.setPow { s.pow with gateWait := s.pow.gateWait ++ (bs.filter (s.portBusy host)).map (fun b => ((if host then 0 else 1 : Nat), b)) }

/-- A write of the field gates (R417): a compression channel is reset first. -/
def wrFieldGates (v : Val) (s : State) : State × Nat :=
  let bs := closing (s.nat Obj.FieldGates.enable) v.nat 31
  match bs.find? (fun b => s.closeAbort b != 0) with
  | some b => (s, s.closeAbort b)
  | none =>
    let s := (bs.filter (fun b => decide (22 ≤ b ∧ b < 30))).foldl (fun s b => s.resetChannel (b - 22)) s
    ((s.setN Obj.FieldGates.enable v.int).deferClose false bs, 0)

/-- A write of the host gates (R417): a closed port's link goes down; the flash gate stays while an image is being written. -/
def wrHostGates (v : Val) (s : State) : State × Nat :=
  let bs := closing (s.nat Obj.HostGates.enable) v.nat 6
  if bs.contains 5 && s.flash.saving.isSome then (s, 0x0301000B)
  else
    let s := (bs.filter (fun b => decide (b < 5))).foldl State.portDown s
    ((s.setN Obj.HostGates.enable v.int).deferClose true bs, 0)

/-! ### Self-refresh (R305) -/

/-- Every subchannel in service enters self-refresh: the owed REFab go first, then SRE. -/
def State.selfRefresh (s : State) : State :=
  ((List.range 4).filter (fun u => s.serving u)).foldl (fun s u =>
    let s := (s.issueRefs u s.now (s.nat (Obj.DramStatus.owed u))).setN (Obj.DramStatus.owed u) 0
    (s.setN (Obj.DramStatus.state u) 6).emit (.dram u 4 0)) s

/-- Every subchannel leaves self-refresh: SRX, and one REFab at which the grid starts again; a retrain falls due (R451). -/
def State.wakeDram (s : State) : State :=
  ((List.range 4).filter (fun u => s.subState u == 6)).foldl (fun s u =>
    let s := ((s.setN (Obj.DramStatus.state u) 3).emit (.dram u 5 0)).issueRef u s.now
    let s := (s.setN (Obj.DramStatus.owed u) 0).setSub u { s.subch u with due := s.now + s.trefi u }
    s.calAuto 2 u) s

/-! ### Power states (R425-R428) -/

/-- The level above OBSERVE is closed: the grant falls to OBSERVE, and a halted core resumes (R427, R505). -/
def State.lowerDebug (s : State) : State :=
  let s := if s.nat Obj.Debug.level = 2 then s.setN Obj.Debug.level 1 else s
  { s with sec := { s.sec with halted := false } }

/-- HOLD to STANDBY (R427): channels reset, cameras disabled and remembered, piers idle, gates closed, DRAM in self-refresh, debug above
OBSERVE closed; FCORE moves to OP0 by the steps of R423, and the transition ends with the last of them. -/
def State.toStandby (s : State) : State :=
  let s := (List.range 8).foldl (fun s ch => s.resetChannel ch) s
  let on := (List.range 4).filter (fun c => s.flag (Obj.CameraPort.enable c))
  let s := on.foldl (fun s c => s.stopPort c) s
  let s := (List.range 16).foldl (fun s p => (s.pierPorts p).foldl (fun s h => s.leavePort h 0) s) s
  let s := (s.setN Obj.FieldGates.enable 0).selfRefresh.lowerDebug
  let s := (s.setPow { s.pow with state := 2, held := none, cams := on.foldl (fun m c => m + 2 ^ c) 0, gateWait := [] }).aimDvfs 0
  s.setF Obj.PowerControl.inTransition (s.pow.dvfs.step != .idle)

/-- STANDBY to HOLD (R427): FCORE toward `OpTarget`, DRAM awake, gates of present blocks open, remembered cameras enabled, piers in service
brought up. -/
def State.fromStandby (s : State) : State :=
  let cams := (List.range 4).filter (fun c => bit s.pow.cams c)
  let s := (s.setPow { s.pow with state := 1, cams := 0 }).aimDvfs (s.nat Obj.Dvfs.opTarget)
  let s := s.wakeDram.setN Obj.FieldGates.enable (s.presentGates : Nat)
  let s := (cams.foldl (fun s c => s.startPort c) s).showNeed
  ((List.range 64).filter (fun h => decide (h < s.nHeads) && s.inService h)).foldl (fun s h => s.attemptDue h false 0) s

/-- RUN to HOLD (R426). -/
def State.toHold (s : State) : State :=
  let s := s.holdPlanes
  (s.setPow { s.pow with state := 1 }).showNeed

/-- The pending planes. -/
def State.pendingPlanes (s : State) : List Nat := (List.range 4).filter (fun k => bit (s.nat Obj.PowerControl.pendingPlanes) k)

/-- HOLD to RUN (R426): the pending planes are enabled in ascending order; one that fails its checks stays disabled. -/
def State.toRun (s : State) : State :=
  let ks := s.pendingPlanes
  let s := s.setPow { s.pow with state := 0, spanHold := false }
  (ks.foldl (fun s k =>
    let (a, s) := (s.pendPlane k false).enableAbort k
    if a ≠ 0 then s.evPl Ev.pendingEnableFailed k else s.enablePlane k) s).showNeed.overspeed

/-- The need once the pending planes are enabled. -/
def State.pendingNeed (s : State) : Nat := max (s.planeNeed (s.enabled ++ s.pendingPlanes)) s.needNow.2

/-- The FIELD_STATUS message (R385). -/
def State.fieldStatusBody (s : State) : Bytes :=
  let printing := s.anyPlane
  leBytes 4 s.span.counts ++ leBytes 1 s.pow.state
    ++ leBytes 1 ((if s.rst.fieldStep = 10 then 1 else 0) + (if printing then 2 else 0) + (if s.pow.spanHold then 4 else 0) : Nat)
    ++ leBytes 1 (s.nat Obj.DuplexStatus.role) ++ leBytes 1 0

/-- To OFF (R427): the actions of STANDBY, then the cores stop, and OFF is reported; only a reset that reaches the island ends it (R429). -/
def State.toOff (s : State) : State :=
  let s := if s.pow.state = 2 then s else s.toStandby
  let s := s.setPow { s.pow with state := 4 }
  let s := s.toHost 0x48 s.fieldStatusBody
  { s with rst := { s.rst with field := { s.rst.field with active := true, asserted := 0, seen := 0, run := false } } }

/-- Whether the debug rules bar RUN (R504). -/
def State.debugBarsRun (s : State) : Bool := (s.lifecycle == 2 && s.nat Obj.Debug.level == 2) || decide (3 ≤ s.lifecycle)

/-- Some subchannel is failed (R427). -/
def State.dramFailed (s : State) : Bool := (List.range 4).any (fun u => decide (u < s.nSub) && s.subState u == 5)

/-- The field island carries out a power-state request (R427, R429): through HOLD where the states are not neighbours. RUN waits for the
operating point that the pending planes need (R422). Answers whether the request was refused, or none while it waits. -/
def State.power (s : State) (tag n : Nat) : State :=
  let done := fun (s : State) => s.controlResp tag 2 false
  match n with
  | 0 =>
    if s.pow.state = 0 then done s
    else if s.dramFailed ∨ s.debugBarsRun then s.controlResp tag 2 true
    else
      let s := if s.pow.state = 2 then s.fromStandby else s
      let (s, wait) := s.raiseNeed s.pendingNeed
      if wait then
        (s.setPow { s.pow with later := s.pow.later ++ [(tag, Obj.PowerControl.powerRequest, .num 0)] }).setF Obj.PowerControl.inTransition true
      else done s.toRun
  | 1 => done (if s.pow.state = 0 then s.toHold else if s.pow.state = 2 then s.fromStandby else s)
  | 2 => done (if s.pow.state = 2 then s else (if s.pow.state = 0 then s.toHold else s).toStandby)
  | 3 => done ((if s.pow.state = 0 then s.toHold else s).toOff)
  | _ => s.controlResp tag 2 true

/-- A request that crosses in a CONTROL message: during a transition it is held, in place of one held before it, which is refused (R429). What
is held is the tag and the state. -/
def State.requestPower (s : State) (tag n : Nat) : State :=
  if s.flag Obj.PowerControl.inTransition then
    let s := match s.pow.held with | some h => s.controlResp (h / 8) 2 true | none => s
    s.setPow { s.pow with held := some (8 * tag + n % 8) }
  else s.power tag n

/-- A transition has ended: the request held is carried out (R429). -/
def State.carryHeld (s : State) : State :=
  match s.pow.held with
  | some h => (s.setPow { s.pow with held := none }).power (h / 8) (h % 8)
  | none => s

/-- `PowerState` takes a value; every change is counted and reported (R425, R430). -/
def State.showPower (s : State) (n : Nat) : State :=
  if s.nat Obj.PowerControl.powerState = n then s
  else ((s.setN Obj.PowerControl.powerState n).inc Obj.PowerControl.transitions).hev Ev.powerStateChanged [n]

end Sys2Proof.Machine
end

