-- ==== Sys2Proof/Machine/Network.lean ====
section
/-! DEFINITION. The commands of the host ports, the sessions and the rings (spec/15). -/

namespace Sys2Proof.Machine

/-! ### Units of the physical time (log entry 1) -/

/-- One microsecond in 0.1 ns. -/
def us : Nat := 10000
/-- One millisecond in 0.1 ns. -/
def ms : Nat := 10000000
/-- One second in 0.1 ns. -/
def oneSec : Nat := 10000000000

/-! ### Sequences (R360, R367) -/

/-- N moves beyond every Sequence received in a row. -/
def advanceLow : Nat → Nat → List Nat → Nat × List Nat
  | 0, n, l => (n, l)
  | k + 1, n, l => if l.contains n then advanceLow k (n + 1) (l.filter (· != n)) else (n, l)

/-- A Sequence has been received. -/
def Sess.seen (x : Sess) (q : Nat) : Bool := (decide (q < x.low) && !x.passed.contains q) || x.recvd.contains q

/-- A Sequence is received: a passed one is no longer outstanding, another may move N. -/
def Sess.mark (x : Sess) (q : Nat) : Sess :=
  if x.passed.contains q then { x with passed := x.passed.filter (· != q) }
  else
    let (n, l) := advanceLow (x.recvd.length + 1) x.low (x.recvd ++ [q])
    { x with low := n, recvd := l }

/-- The accesses of R366. -/
def isAccess (typ : Nat) : Bool := typ == 4 || typ == 5 || typ == 6 || typ == 7

/-- An access joins those that wait, in Sequence order. -/
def insWait (m : NetMsg) : List NetMsg → List NetMsg
  | [] => [m]
  | y :: r => if m.seq < y.seq then m :: y :: r else y :: insWait m r

/-! ### New messages (R360, R364, R367, R373) -/

/-- A frame is discarded and counted (R355, R364). -/
def State.dropFrame (s : State) (port : Nat) : State := s.inc (Obj.HostPort.rxDropped port)

/-- The session's messages go to where its last new verified message came from (R372). -/
def State.migrate (s : State) (i port : Nat) (peer : Bytes) : State :=
  if s.nat (Obj.Session.port i) = port ∧ s.byt (Obj.Session.peer i) = peer then s
  else ((s.setN (Obj.Session.port i) port).setB (Obj.Session.peer i) peer).inc (Obj.Session.migrations i)

/-- A message that its queue or ring has no room for is discarded: it counts as not received, and the host's retry recovers it. -/
def State.noRoom (s : State) (i port typ : Nat) : Option State :=
  match s.ringsOf i 0 with
  | r :: _ =>
    if (typ = 7 ∨ typ = 8) ∧ s.nat (Obj.Ring.depth r) ≤ (s.ring r).length then some (s.inc (Obj.Ring.drops r))
    else if ([2, 3, 12, 13].contains typ) && decide (32 ≤ (s.sess i).ctl.length) then some (s.dropFrame port) else none
  | [] => if ([2, 3, 12, 13].contains typ) && decide (32 ≤ (s.sess i).ctl.length) then some (s.dropFrame port) else none

/-- A message enters the first ingress ring of its session as one descriptor; none where it holds no such ring. -/
def State.ingress (s : State) (i q typ : Nat) (body : Bytes) : Option State :=
  match s.ringsOf i 0 with
  | r :: _ => some (s.setRing r (s.ring r ++ [{ typ := typ, body := body, seq := q, ready := s.islandNs .host, stamp := 0 }]))
  | [] => none

/-- An access arrives: passed, busy, or waiting (R363, R367). -/
def State.accessArrives (s : State) (i q typ : Nat) (body : Bytes) (passed : Bool) : State :=
  if s.sessState i ≠ 2 then s.respond i q typ 7 0
  else if passed then (s.inc (Obj.Session.passedRefused i)).respond i q typ 1 0
  else if 64 ≤ (s.sess i).wait.length then s.respond i q typ 2 0
  else
    let x := s.sess i
    let s := s.setSess i { x with wait := insWait { seq := q, typ := typ, body := body, at_ := s.now } x.wait }
    if typ = 7 then (s.ingress i q typ body).getD s else s

/-- Whether a message of the control path fits the session's state (R361, R363). -/
def State.fits (s : State) (i typ : Nat) : Bool :=
  match typ with
  | 2 => s.sessState i == 1 && (s.sess i).cred.isNone
  | 3 => s.sessState i == 1 && (s.sess i).cred.isSome
  | 12 => s.sessState i == 2
  | _ => true

/-- A new verified message is handled on arrival: an access waits for its Sequence, a STRIP enters the ring, the rest joins the control
path; the host's answer to a PING needs none. -/
def State.newMessage (s : State) (i port q typ : Nat) (response passed : Bool) (body : Bytes) : State :=
  if response then s
  else if isAccess typ then s.accessArrives i q typ body passed
  else if typ = 8 then (s.ingress i q typ body).getD (s.dropFrame port)
  else if [2, 3, 12, 13].contains typ then
    if s.fits i typ then
      let x := s.sess i
      s.setSess i { x with ctl := x.ctl ++ [{ seq := q, typ := typ, body := body, at_ := s.now }] }
    else s.respond i q typ 7 0
  else s

/-- A verified message of session `i` (R360). -/
def State.verified (s : State) (i port : Nat) (peer : Bytes) (q typ : Nat) (response : Bool) (body : Bytes) : State :=
  let x := s.sess i
  let s := s.bump (Obj.Session.rxMessages i) 64
  if 2 ^ 48 < q ∨ 2 ^ 48 < x.txSeq then s.closeSession i 3
  else if q + 1024 ≤ x.hi then s.inc (Obj.Session.replayDrops i)
  else if x.seen q then
    let s := s.inc (Obj.Session.duplicates i)
    match x.resp.find? (fun r => r.seq == q) with
    | some r => ((s.setSess i { x with lastTx := s.now }).sendWire i r.typ r.tx 1 r.body).emit (.message i r.typ r.body)
    | none => s
  else
    let s := (s.setSess i { x with hi := max x.hi q, lastRx := s.now }).migrate i port peer
    match s.noRoom i port typ with
    | some s => s
    | none =>
      let x := s.sess i
      (s.setSess i (x.mark q)).newMessage i port q typ response (x.passed.contains q) body

/-! ### Datagrams (R355, R357-R359) -/

/-- The parts of a message that lie end to end from offset `pos` on make up `total` bytes. -/
def assemble (parts : List (Nat × Bytes)) (total : Nat) : Nat → Nat → Option Bytes
  | 0, pos => if pos = total then some [] else none
  | k + 1, pos =>
    if pos = total then some []
    else match parts.find? (fun p => p.1 == pos && !p.2.isEmpty) with
      | none => none
      | some p => (assemble parts total k (pos + p.2.length)).map (p.2 ++ ·)

/-- The nonce of a message from the host: S_hd and the Sequence (R359). -/
def hostNonce (key : Bytes) (q : Nat) : Bytes := sub key 64 4 ++ leBytes 8 q

/-- A whole message is verified by its tag (R359) and handled. -/
def State.wholeMessage (s : State) (i port : Nat) (peer head whole : Bytes) : State :=
  let x := s.sess i
  let q := fld head 8 8
  let text := whole.take (whole.length - 16)
  if Config.gcmOk (x.key.take 32) (hostNonce x.key q) head whole then
    s.verified i port peer q (fld head 3 1) (bit (fld head 16 2) 0) (Config.gcmOpen (x.key.take 32) (hostNonce x.key q) text)
  else
    let s := s.inc (Obj.Session.authFailures i)
    let quiet := match x.authAt with | some t => decide (s.now < t + oneSec) | none => false
    if quiet then s else (s.setSess i { x with authAt := some s.now }).hev Ev.authFailure [] i

/-- A part of a message of session `i` (R358): at most eight messages are under reassembly. -/
def State.part (s : State) (i port : Nat) (peer data : Bytes) : State :=
  let x := s.sess i
  let head := data.take 20
  let q := fld data 8 8
  let total := fld data 18 2 + 16
  let off := fld data 20 2
  let p := data.drop 24
  match x.parts.find? (fun m => m.seq == q) with
  | some m =>
    if m.head ≠ head then s
    else
      let parts := m.parts ++ [(off, p)]
      match assemble parts total parts.length 0 with
      | some whole => (s.setSess i { x with parts := x.parts.filter (fun y => y.seq != q) }).wholeMessage i port peer head whole
      | none => s.setSess i { x with parts := x.parts.map (fun y => if y.seq = q then { y with parts := parts } else y) }
  | none =>
    if off = 0 ∧ p.length = total then s.wholeMessage i port peer head p
    else if 8 ≤ x.parts.length then s
    else s.setSess i { x with parts := x.parts ++ [{ seq := q, head := head, parts := [(off, p)], first := s.now }] }

/-- A refused HELLO (R363): the status and no context. -/
def State.refuseHello (s : State) (port : Nat) (peer : Bytes) (status : Nat) : State :=
  (s.sendFrames port peer (msgHead 1 0 0 1 16) (respPrefix 0 status 0)).emit (.toPeer port peer 1 (respPrefix 0 status 0))

/-- An Ngalis datagram (R357). SessionId is the number of the context (log entry 60). A HELLO travels in one datagram. -/
def State.ngalis (s : State) (port : Nat) (peer : Bytes) (dport : Nat) (data : Bytes) : State :=
  let id := fld data 4 4
  if data.length < 24 ∨ fld data 0 2 ≠ 0x474E ∨ 65519 < fld data 18 2 then s
  else if fld data 3 1 = 1 ∧ id = 0 ∧ bit (fld data 16 2) 0 = false then
    if dport ≠ s.nat Obj.Ngalis.udpPort ∨ fld data 20 2 ≠ 0 ∨ data.length ≠ 24 + fld data 18 2 then s
    else if fld data 2 1 ≠ 1 then s.refuseHello port peer 4
    else { s with net := { s.net with hellos := s.net.hellos ++ [(port, peer, data.drop 24)] } }
  else if fld data 2 1 ≠ 1 ∨ 256 ≤ id ∨ s.sessState id = 0 ∨ dport ≠ (s.sess id).udp then s
  else s.part id port peer data

/-- The frames that a port accepts (R355). -/
def State.frameOk (s : State) (port : Nat) (h : FrameHead) : Bool :=
  !h.extra && !h.frag && (h.tags == 0 || (h.tags == 1 && h.vlan == s.nat (Obj.HostPort.vlanId port)))
    && (h.v6 || s.nat (Obj.HostPort.ipv4Address port) != 0)

/-- UDP ports that the AZ9 listens on: the sessions', a HELLO's, and PTP's (R355). -/
def State.listens (s : State) (p : Nat) : Bool :=
  p == s.nat Obj.Ngalis.udpPort || p == 319 || p == 320 || s.net.sess.any (fun x => x.2.udp == p && s.sessState x.1 != 0)

/-- A port carries frames: enabled, clocked, and outside RECOVERY or MGMT, with the host crystal accepted (R412, R413, R417, R448). -/
def State.portOn (s : State) (port : Nat) : Bool :=
  decide (port < 5) && s.flag (Obj.HostPort.enable port) && s.gateOpen (0x1300 + port) && (!s.rst.recovery || port == 4)
    && s.nat (Obj.Clocks.xtalState 0) == 1

/-- `DATAGRAM` (R358): a frame at a host port. -/
def execDatagram (t port : Nat) (hd : FrameHead) (peer data : Bytes) (s : State) : Host.Outcome State Fault Refusal :=
  access t s (fun s =>
    if !s.portOn port then s
    else
      let s := s.bump (Obj.HostPort.rxFrames port) 64
      if !s.frameOk port hd then s.dropFrame port
      else if hd.proto = 1 ∨ hd.proto = 2 then
        (s.bump (Obj.HostPort.txFrames port) 64).emit (.frame port hd.proto peer data)
      else if !hd.sumOk ∨ !s.listens hd.dport then s.dropFrame port
      else if hd.dport = 319 ∨ hd.dport = 320 then s
      else s.ngalis port peer hd.dport data)

/-- `REASSEMBLY_TIMEOUT` (R358): 10 ms after its first part an incomplete message is discarded. -/
def execReassemblyTimeout (t sess seq : Nat) (s : State) : Host.Outcome State Fault Refusal :=
  access t s (fun s =>
    let x := s.sess sess
    if x.parts.any (fun m => m.seq == seq && decide (m.first + 10 * ms ≤ s.now)) then
      (s.setSess sess { x with parts := x.parts.filter (fun m => m.seq != seq) }).inc Obj.Ngalis.incomplete
    else s)

/-! ### Opening a session (R361-R363, R500) -/

/-- The lowest free context. -/
def State.freeCtx (s : State) : Option Nat := (List.range 256).find? (fun i => s.sessState i == 0)

/-- The counters of a context start again. -/
def State.clearCtx (s : State) (i : Nat) : State :=
  [Obj.Session.role i, Obj.Session.rxMessages i, Obj.Session.txMessages i, Obj.Session.duplicates i, Obj.Session.replayDrops i,
    Obj.Session.authFailures i, Obj.Session.passedRefused i, Obj.Session.migrations i, Obj.Session.openTime i].foldl (fun s k => s.setN k 0) s

/-- A context is reserved for a HELLO and answered (R361 steps 1 and 2): nonce and ephemeral key are free values, the shared secret and
its keys opaque (log entry 8). -/
def State.reserve (s : State) (i port : Nat) (peer body : Bytes) : State :=
  let (n1, s) := s.fresh
  let (n2, s) := s.fresh
  let nonce := leBytes 32 n1
  let key := leBytes 97 n2
  let head := respPrefix 0 0 0 ++ leBytes 4 i ++ nonce ++ key
  let script := body ++ head
  let sig := Config.ecdsaSign 0 (Config.sha384 script)
  let s := (s.clearCtx i).setN (Obj.Session.state i) 1
  let s := (s.setN (Obj.Session.port i) port).setB (Obj.Session.peer i) peer
  let s := s.setN Obj.Ngalis.handshaking (s.nat Obj.Ngalis.handshaking + 1 : Nat)
  let s := s.setSess i { Sess.init with hsAt := s.now, transcript := script, key := Config.sessionKey key (sub body 33 97 ++ sub body 1 32 ++ nonce)
                                        udp := s.nat Obj.Ngalis.udpPort, lastRx := s.now, lastTx := s.now }
  (s.sendFrames port peer (msgHead 1 i 0 1 (head ++ sig).length) (head ++ sig)).emit (.toPeer port peer 1 (head ++ sig))

/-- `HELLO` (R361): Suite, HostNonce and HostKey. -/
def execHello (t port : Nat) (peer body : Bytes) (s : State) : Host.Outcome State Fault Refusal :=
  access t s (fun s =>
    let s := { s with net := { s.net with hellos := s.net.hellos.filter (fun h => h != (port, peer, body)) } }
    if body.length ≠ 130 ∨ fld body 0 1 ≠ 1 then s.refuseHello port peer 4
    else match s.freeCtx with
      | some i => if s.nat Obj.Ngalis.handshaking < 32 then s.reserve i port peer body else noContext s port peer
      | none => noContext s port peer)
where
  noContext (s : State) (port : Nat) (peer : Bytes) : State :=
    let s := (s.inc Obj.Ngalis.noContextRefusals).refuseHello port peer 3
    let quiet := match s.net.noContextAt with | some a => decide (s.now < a + oneSec) | none => false
    if quiet then s else { s with net := { s.net with noContextAt := some s.now } }.hev Ev.noContext

/-- A message of the control path is taken up. -/
def State.takeCtl (s : State) (i q : Nat) : State :=
  let x := s.sess i
  s.setSess i { x with ctl := x.ctl.filter (fun m => m.seq != q) }

/-- Roles up to a highest one, as a mask. -/
def rolesUpTo (r : Nat) : Nat := 2 ^ (r + 1) - 1

/-- The mask of roles and the issuer that a KEYX body proves; none where it is refused (R500). A credential of length 0 opens role X only,
while `ObserverOpen` is true. -/
def State.judgeKeyx (s : State) (i : Nat) (body : Bytes) : Option (Nat × Nat) :=
  let n := fld body 0 2
  let c := sub body 2 n
  let digest := Config.sha384 (s.sess i).transcript
  if n = 0 then (if s.flag Obj.Security.observerOpen then some (1, 2) else none)
  else if s.credentialOk c && Config.ecdsaVerify (sub c 40 97) digest (sub body (2 + n) 96) then some (rolesUpTo (fld c 5 1), fld c 6 1)
  else none

/-- `KEYX` (R361 steps 3 and 4). -/
def execKeyx (t sess seq : Nat) (body : Bytes) (s : State) : Host.Outcome State Fault Refusal :=
  access t s (fun s =>
    let s := s.takeCtl sess seq
    if s.sessState sess = 0 then s
    else if !s.fits sess 2 then s.respond sess seq 2 7 0
    else match s.judgeKeyx sess body with
      | some (m, iss) =>
        let s := s.setSess sess { s.sess sess with cred := some m }
        { s with sec := { s.sec with creds := smSet (fun _ => 2) s.sec.creds sess iss } }.respond sess seq 2 0 0
      | none => (s.respond sess seq 2 5 0).freeContext sess)

/-- A power of two from 16 to 4,096. -/
def depthOk (d : Nat) : Bool := [16, 32, 64, 128, 256, 512, 1024, 2048, 4096].contains d

/-- A ring request is well formed (R362, R375). -/
def ringRequestOk (role dir mask mode depth delay phase rest : Nat) : Bool :=
  depthOk depth && rest == 0
    && (if dir = 0 then mask == 0 && mode == 0 && role != 0
        else dir == 1 && decide (mask < 64 ∧ mode ≤ 2) && (mode != 2 || (decide (0 < delay ∧ phase < delay) && 1000000000 % delay == 0)))

/-- One ring request of an OPEN (R362): the ring granted, or 0xFF. -/
def State.grantRing (s : State) (i role : Nat) (q : Bytes) : State × Nat :=
  let depth := fld q 4 2
  let free := (List.range 64).find? (fun r => s.nat (Obj.Ring.session r) == 0xFFFF)
  match free with
  | none => (s, 0xFF)
  | some r =>
    if q.length = 16 && ringRequestOk role (fld q 0 1) (fld q 1 1) (fld q 2 1) depth (fld q 8 4) (fld q 12 4) (fld q 3 1 + fld q 6 2)
        && decide (depth ≤ s.nat Obj.Ngalis.descriptorsFree) then
      let s := s.setN Obj.Ngalis.descriptorsFree (s.nat Obj.Ngalis.descriptorsFree - depth : Nat)
      let s := ((s.setN (Obj.Ring.session r) i).setN (Obj.Ring.direction r) (fld q 0 1)).setN (Obj.Ring.depth r) depth
      let s := ((s.setN (Obj.Ring.streamMask r) (fld q 1 1)).setN (Obj.Ring.launchMode r) (fld q 2 1)).setN (Obj.Ring.launchDelay r) (fld q 8 4)
      let s := (s.setN (Obj.Ring.launchPhase r) (fld q 12 4)).setN (Obj.Session.rings i) ((setBit (s.nat (Obj.Session.rings i)) r true : Nat) : Int)
      (if fld q 0 1 = 1 then s.sendCredit r else s, r)
    else (s, 0xFF)

/-- The ring requests of an OPEN, in order. -/
def State.grantRings (s : State) (i role : Nat) (reqs : List Bytes) : State × Bytes :=
  reqs.foldl (fun (a : State × Bytes) q =>
    let (s, r) := a.1.grantRing i role q
    (s, a.2 ++ leBytes 1 r)) (s, [])

/-- The session opens: its role, its rings, and the field island is told (R361 step 5, R362). -/
def State.openCtx (s : State) (i seq role : Nat) (body : Bytes) : State :=
  let n := min (fld body 1 1) 4
  let (s, rings) := s.grantRings i role ((List.range n).map (fun j => sub body (4 + 16 * j) 16))
  let s := ((s.setN (Obj.Session.state i) 2).setN (Obj.Session.role i) role).setN (Obj.Session.openTime i) s.masterNs
  let s := (s.setN Obj.Ngalis.handshaking (s.nat Obj.Ngalis.handshaking - 1 : Nat)).setN Obj.Ngalis.openSessions
    (s.nat Obj.Ngalis.openSessions + 1 : Nat)
  let s := s.respond i seq 3 0 0 (leBytes 1 role ++ leBytes 1 n ++ leBytes 2 0 ++ rings)
  (s.noteSession i 0).hev Ev.sessionOpened [] i

/-- `OPEN` (R362). -/
def execOpenSession (t sess seq : Nat) (body : Bytes) (s : State) : Host.Outcome State Fault Refusal :=
  access t s (fun s =>
    let s := s.takeCtl sess seq
    let role := fld body 0 1
    if s.sessState sess = 0 then s
    else if !s.fits sess 3 then s.respond sess seq 3 7 0
    else if bit ((s.sess sess).cred.getD 0) role && admitsIssuer s.lifecycle (s.issuer sess) role s.ownerGrant then s.openCtx sess seq role body
    else (s.respond sess seq 3 6 0).freeContext sess)

/-- `HANDSHAKE_TIMEOUT` (R361). -/
def execHandshakeTimeout (t sess : Nat) (s : State) : Host.Outcome State Fault Refusal :=
  access t s (fun s =>
    if s.sessState sess = 1 ∧ (s.sess sess).hsAt + s.nat Obj.Ngalis.handshakeTimeout * ms ≤ s.now then s.freeContext sess else s)

/-! ### Order of accesses (R367) -/

/-- The Sequences below `q` that have not arrived become passed, and N moves beyond them. Those that R360 would drop are not kept. -/
def Sess.pass (x : Sess) (q : Nat) : Sess :=
  let lo := max x.low (q - 1024)
  let miss := ((List.range (q - lo)).map (lo + ·)).filter (fun n => !x.recvd.contains n)
  let (n, l) := advanceLow (x.recvd.length + 1) (max x.low q) (x.recvd.filter (fun n => decide (q ≤ n)))
  { x with passed := x.passed ++ miss, low := n, recvd := l }

/-- `ACCESS_PASSED` (R367): accesses that have waited `ReorderHold` no longer wait for the Sequences below them. -/
def execAccessPassed (t sess : Nat) (s : State) : Host.Outcome State Fault Refusal :=
  access t s (fun s =>
    let x := s.sess sess
    let hold := s.nat Obj.Ngalis.reorderHold * us
    match (x.wait.filter (fun m => decide (x.low < m.seq) && decide (m.at_ + hold ≤ s.now))).getLast? with
    | some m => s.setSess sess (x.pass m.seq)
    | none => s)

/-! ### Strips (R368, R373) -/

/-- The STRIPACK of a STRIP (R368), kept as its response (R360). -/
def State.stripAck (s : State) (i : Nat) (w : StripWait) (status : Nat) : State :=
  let credit := match s.ringsOf i 0 with | r :: _ => s.nat (Obj.Ring.depth r) - (s.ring r).length | [] => 0
  let b := leBytes 8 w.seq ++ leBytes 1 status ++ leBytes 1 w.plane ++ leBytes 2 credit ++ leBytes 4 w.job ++ leBytes 4 w.page
    ++ leBytes 6 w.firstLine ++ leBytes 2 0 ++ leBytes 4 w.firstCol
  let x := s.sess i
  let l := x.resp ++ [{ seq := w.seq, tx := x.txSeq, typ := 9, body := b }]
  (s.setSess i { x with resp := l.drop (l.length - 64) }).sendMsg i 9 b 1

/-- `STRIP` (R368): a container leaves the ingress ring as a deposit; while the Span is lost it is answered at once (R393). -/
def execStrip (t sess seq : Nat) (body : Bytes) (s : State) : Host.Outcome State Fault Refusal :=
  access t s (fun s =>
    match s.ringsOf sess 0 with
    | [] => s.dropFrame (s.nat (Obj.Session.port sess))
    | r :: _ =>
      let s := s.setRing r ((s.ring r).filter (fun d => d.seq != seq))
      let w : StripWait := { deposit := s.net.nextDeposit, seq := seq, plane := fld body 5 1, job := fld body 8 4, page := fld body 12 4
                             firstLine := fld body 16 6, firstCol := fld body 28 4 }
      if s.span.lostH then s.stripAck sess w 7
      else
        let x := s.sess sess
        let s := s.setSess sess { x with strips := x.strips ++ [w] }
        let s := { s with net := { s.net with nextDeposit := (s.net.nextDeposit + 1) % 2 ^ 32 } }
        s.toField 0x02 (leBytes 2 sess ++ leBytes 2 0 ++ leBytes 4 w.deposit ++ body))

/-! ### Keeping a session (R370, R371) -/

/-- `PING` (R370): answered with the Token and the time. -/
def execPing (t sess seq : Nat) (body : Bytes) (s : State) : Host.Outcome State Fault Refusal :=
  access t s (fun s =>
    let s := s.takeCtl sess seq
    if s.sessState sess = 0 then s
    else if s.sessState sess = 1 then s.respond sess seq 12 7 0
    else s.respond sess seq 12 0 0 (leBytes 8 (fld body 0 8) ++ time80Bytes s.masterNs))

/-- `HEARTBEAT` (R370): a PING with a Token of the AZ9's own. -/
def execHeartbeat (t sess : Nat) (s : State) : Host.Outcome State Fault Refusal :=
  access t s (fun s =>
    if s.sessState sess = 2 ∧ (s.sess sess).lastTx + s.nat Obj.Ngalis.heartbeatPeriod * ms ≤ s.now then
      if 2 ^ 48 < (s.sess sess).txSeq then s.closeSession sess 3
      else
      let (n, s) := s.fresh
      s.sendMsg sess 12 (leBytes 8 n ++ leBytes 8 0)
    else s)

/-- `SESSION_TIMEOUT` (R370). -/
def execSessionTimeout (t sess : Nat) (s : State) : Host.Outcome State Fault Refusal :=
  access t s (fun s =>
    if s.sessState sess = 2 ∧ (s.sess sess).lastRx + s.nat Obj.Ngalis.sessionTimeout * ms ≤ s.now then
      (s.hev Ev.sessionTimeout [] sess).closeSession sess 1
    else s)

/-- `CLOSE` (R371): the host ends its session. -/
def execClose (t sess : Nat) (body : Bytes) (s : State) : Host.Outcome State Fault Refusal :=
  access t s (fun s => if s.sessState sess = 0 then s else s.closeSession sess (fld body 0 1) false)

/-- A write of a session's `Close` (R371). -/
def wrSessionClose (i : Nat) (s : State) : State × Nat := if s.sessState i = 0 then (s, 0) else (s.closeSession i 2, 0)

/-- `SESSION_CLOSE` (R378). -/
def execSessionClose (t : Nat) (a : Caller) (sess : Nat) (v : Bytes) (s : State) : Host.Outcome State Fault Refusal :=
  access t s (fun s => s.write a (Obj.Session.close sess) v (fun _ s => wrSessionClose sess s))

/-! ### Rings (R374-R376) -/

/-- A ring's descriptors are discarded; a DOMAIN message among them is not executed (R374). -/
def State.resetRing (s : State) (r : Nat) : State :=
  let i := s.nat (Obj.Ring.session r)
  let gone := s.ring r
  let s := if i < 256 ∧ s.nat (Obj.Ring.direction r) = 0 then
      s.setSess i { s.sess i with wait := (s.sess i).wait.filter (fun m => !(m.typ == 7 && gone.any (fun d => d.seq == m.seq))) }
    else s
  let s := if i < 256 ∧ s.nat (Obj.Ring.direction r) = 0 then (s.sess i).strips.foldl (fun s w => s.abortDeposit w 1) s else s
  let s := (s.setRing r []).endWait .ring r
  if i < 256 ∧ s.nat (Obj.Ring.direction r) = 1 then s.sendCredit r else s

/-- A write of a ring's `Reset` (R374, R378). -/
def wrRingReset (sess r : Nat) (s : State) : State × Nat :=
  if s.nat (Obj.Ring.session r) ≠ sess then (s, 0x01010003) else (s.resetRing r, 0)

/-- `RING_RESET` (R374). -/
def execRingReset (t : Nat) (a : Caller) (r : Nat) (v : Bytes) (s : State) : Host.Outcome State Fault Refusal :=
  access t s (fun s => s.write a (Obj.Ring.reset r) v (fun _ => wrRingReset a.sess r))

/-- The launch time of a descriptor in ns of the master time base, and whether it had passed when the descriptor became ready (R375). -/
def State.launchTime (s : State) (r : Nat) (d : Descr) : Int × Bool :=
  match s.nat (Obj.Ring.launchMode r) with
  | 1 =>
    let ahead := (((d.stamp + s.nat (Obj.Ring.launchDelay r) : Nat) : Int) - d.ready) % 4000000000
    if ahead ≤ 2000000000 then (d.ready + ahead, false) else (d.ready, true)
  | 2 => (d.ready + (s.num (Obj.Ring.launchPhase r) - d.ready) % (max (s.num (Obj.Ring.launchDelay r)) 1), false)
  | _ => (d.ready, false)

/-- The port that a bound ring's session uses. -/
def State.ringPort (s : State) (r : Nat) : Nat := s.nat (Obj.Session.port (s.nat (Obj.Ring.session r)))

/-- A lower ring of the same port holds a descriptor due at the same instant (R376). -/
def State.lowerDue (s : State) (r port : Nat) (at_ : Int) : Bool :=
  (List.range r).any (fun q => s.nat (Obj.Ring.direction q) == 1 && s.nat (Obj.Ring.session q) != 0xFFFF && s.ringPort q == port
    && (match s.ring q with | d :: _ => decide ((s.launchTime q d).1 = at_) | [] => false))

/-- `DESCRIPTOR_LAUNCH` (R375): the oldest descriptor of an egress ring leaves once its launch time has come, under the session's next
Sequence; more than 16 ns late it carries Late. -/
def execDescriptorLaunch (t r port : Nat) (s : State) : Host.Outcome State Fault Refusal :=
  access t s (fun s =>
    let i := s.nat (Obj.Ring.session r)
    match s.ring r with
    | [] => s
    | d :: rest =>
      let (at_, past) := s.launchTime r d
      let now := s.islandNs .host
      if s.nat (Obj.Ring.direction r) ≠ 1 ∨ 256 ≤ i ∨ now < at_ ∨ s.ringPort r ≠ port ∨ s.lowerDue r port at_ then s
      else if 2 ^ 48 < (s.sess i).txSeq then s.closeSession i 3
      else
        let late := past || decide (at_ + 16 < now)
        let s := if late then s.inc (Obj.Ring.lateLaunches r) else s
        let x := s.sess i
        let s := (s.setRing r rest).setSess i { x with txSeq := x.txSeq + 1, lastTx := s.now }
        let s := (s.bump (Obj.Session.txMessages i) 64).sendWire i d.typ x.txSeq (if late then 2 else 0) d.body
        (s.sendCredit r).emit (.launch r i late d.typ d.body))

/-! ### Links (R353) -/

/-- `HOST_LINK_CHANGE` (R353): a port's link goes up with a speed and a FEC, or down. -/
def execHostLinkChange (t port : Nat) (up : Bool) (speed fec : Nat) (s : State) : Host.Outcome State Fault Refusal :=
  hostCmd t s (fun s =>
    let was := s.flag (Obj.HostPort.linkState port)
    if 5 ≤ port ∨ was = up ∨ (up && !s.portOn port) then s
    else if up then
      (((s.setN (Obj.HostPort.linkState port) 1).setN (Obj.HostPort.linkSpeed port) speed).setN (Obj.HostPort.fecInUse port) fec).hev
        Ev.hostLinkUp [] port
    else s.portDown port)

end Sys2Proof.Machine
end

