-- ==== Sys2Proof/Machine/Clocks.lean ====
section
/-! DEFINITION. The commands of the crystals, clock domains, gates, meters and operating points (spec/18), and the completion of writes that
wait for a transition (R422). -/

namespace Sys2Proof.Machine

/-! ### Crystals (R411-R413) -/

/-- The counts of a series lie within 200 ppm of one another (R411). -/
def consistent (l : List Nat) (n : Nat) : Bool := l.all (fun m => decide (m ≤ n + 5 ∧ n ≤ m + 5))

/-- A command of an island's clock unit. -/
def islandCmd (t : Nat) (i : Side) (s : State) (f : State → State) : Host.Outcome State Fault Refusal :=
  match i with | .host => hostCmd t s f | .field => fieldCmd t s f

/-- The index of an island's record among the two clock and meter records. -/
def sideIx : Side → Nat
  | .host => 0
  | .field => 1

/-- `XTAL_WINDOW` (R411, R413): a window of 100,000 oscillator cycles ends with `count` crystal cycles. -/
def execXtalWindow (t : Nat) (isl : Side) (count : Nat) (s : State) : Host.Outcome State Fault Refusal :=
  islandCmd t isl s (fun s =>
    let st := s.nat (xtalState isl)
    let good := decide (24250 ≤ count ∧ count ≤ 25750)
    if st = 0 then
      let s := s.setN (Obj.Clocks.lastCount (sideIx isl)) count
      let l := (s.xtal isl).series
      let l' := if good && consistent l count then l ++ [count] else []
      let s := (s.setXtal isl ⟨l'⟩).setN (Obj.Clocks.goodWindows (sideIx isl)) l'.length
      if l'.length = 16 then s.acceptXtal isl else s
    else if st = 1 then
      let s := s.setN (Obj.Clocks.lastCount (sideIx isl)) count
      if good then s else s.loseXtal isl false
    else s)

/-- `XTAL_FAILED` (R412): no acceptance within 500 ms of the island's release. -/
def execXtalFailed (t : Nat) (isl : Side) (s : State) : Host.Outcome State Fault Refusal :=
  islandCmd t isl s (fun s =>
    if s.nat (xtalState isl) = 0 ∧ (s.episode isl).released + s.nat (Obj.Clocks.xtalTimeout (sideIx isl)) * ms ≤ s.now then
      (s.setN (xtalState isl) 2).raise isl Ev.xtalFailed
    else s)

/-- `XTAL_LOST` (R413): no crystal edge for 100 oscillator cycles after acceptance. -/
def execXtalLost (t : Nat) (isl : Side) (s : State) : Host.Outcome State Fault Refusal :=
  islandCmd t isl s (fun s => if s.nat (xtalState isl) = 1 then s.loseXtal isl true else s)

/-! ### Domains (R415, R416) -/

/-- A write of a domain's `Source`. -/
def wrSource (d : Nat) (v : Val) (s : State) : State × Nat :=
  if !bit (s.nat (Obj.DomainSwitch.ready d)) v.nat then (s, 0x04020001)
  else if 2 ≤ d ∧ s.anyPlane then (s, 0x03010001)
  else if 2 ≤ d ∧ s.anyCamera then (s, 0x03010005)
  else ((s.setN (Obj.DomainSwitch.source d) v.int).feedDomain d v.nat, 0)

/-- `DOMAIN_SOURCE_SWITCH` (R415). -/
def execDomainSourceSwitch (t : Nat) (a : Caller) (d : Nat) (v : Bytes) (s : State) : Host.Outcome State Fault Refusal :=
  access t s (fun s => s.write a (Obj.DomainSwitch.source d) v (wrSource d))

/-- `CLOCK_SWITCH_FORCED` (R416): 64 cycles of the target have passed without an edge of the old source. -/
def execClockSwitchForced (t d : Nat) (s : State) : Host.Outcome State Fault Refusal :=
  islandCmd t (domainSide d) s (fun s =>
    match s.pow.muxWait.find? (fun w => w.1 == d) with
    | some w =>
      let s := s.setPow { s.pow with muxWait := s.pow.muxWait.filter (fun w => w.1 != d) }
      ((s.feedDomain d w.2).setF (Obj.DomainSwitch.forced d) true).raise (domainSide d) Ev.clockSwitchForced d
    | none => s)

/-! ### Gates (R417, R418) -/

/-- `GATE_WRITE` (R417). -/
def execGateWrite (t : Nat) (a : Caller) (isl : Side) (v : Bytes) (s : State) : Host.Outcome State Fault Refusal :=
  access t s (fun s => match isl with
    | .host => s.write a Obj.HostGates.enable v wrHostGates
    | .field => s.write a Obj.FieldGates.enable v wrFieldGates)

/-- `GATE_FORCED` (R418): the close of a gate behind a busy bus port is forced; the access of session `sess` that it interrupts is answered
with the abort, and its transfer ends. -/
def execGateForced (t : Nat) (isl : Side) (bit sess : Nat) (s : State) : Host.Outcome State Fault Refusal :=
  islandCmd t isl s (fun s =>
    let w := (sideIx isl, bit)
    let host := isl == .host
    let due := s.portBusy host bit
    if !s.pow.gateWait.contains w then s
    else
      let s := s.setPow { s.pow with gateWait := s.pow.gateWait.filter (· != w) }
      if !due then s
      else
      let cut := fun (x : Transfer) => x.sess == sess && gateOf (x.key / 256) == some (host, bit)
      let hit := s.groups.transfers.any cut
      let s := { s with groups := { s.groups with transfers := s.groups.transfers.filter (fun x => !cut x) } }
      let s := if hit then s.answer sess 0x04010002 else s
      (s.inc (if host then Obj.HostGates.gatesForced else Obj.FieldGates.gatesForced)).raise isl Ev.gateForced bit)

/-! ### Meters (R419) -/

/-- Nominal frequency of a meter code in kHz. -/
def State.meterKhz (s : State) (isl : Side) (code : Nat) : Nat :=
  match code, isl with
  | 0, _ => 100000
  | 1, _ => 25000
  | 2, .host => 600000
  | 2, .field => 1000 * s.opFreq (s.nat Obj.Dvfs.opInForce)
  | 3, _ => 250000
  | 4, .host => 156250
  | 4, .field => 500 * s.nat Obj.DramConfig.dataRate
  | 5, .host => 125000
  | 5, .field => 156250
  | n, _ => 125 * s.nat (Obj.CameraPort.maxLaneRate (n - 6))

/-- `METER_START` (R419). -/
def execMeterStart (t : Nat) (a : Caller) (isl : Side) (v : Bytes) (s : State) : Host.Outcome State Fault Refusal :=
  access t s (fun s => s.write a (Obj.Meter.start (sideIx isl)) v (fun _ s => (s.setF (Obj.Meter.busy (sideIx isl)) true, 0)))

/-- A clock of an island that has stopped: a domain that the crystal alone feeds, while it is not accepted (R412, R413). -/
def State.clockStopped (s : State) (isl : Side) (code : Nat) : Bool :=
  (code == 4 || (code == 5 && isl == .field)) && s.nat (xtalState isl) != 1

/-- `METER_DONE` (R419): a target that has stopped counts 0. -/
def execMeterDone (t : Nat) (isl : Side) (count : Nat) (s : State) : Host.Outcome State Fault Refusal :=
  islandCmd t isl s (fun s =>
    let m := sideIx isl
    if s.flag (Obj.Meter.busy m) then
      let f := s.meterKhz isl (s.nat (Obj.Meter.reference m))
      let count := if s.clockStopped isl (s.nat (Obj.Meter.target m)) then 0 else count
      ((s.setF (Obj.Meter.busy m) false).setN (Obj.Meter.count m) count).setN (Obj.Meter.frequency m)
        ((count * f / max (s.nat (Obj.Meter.window m)) 1 : Nat) : Int)
    else s)

/-! ### Writes that wait for a transition (R422, R424) -/

/-- A write that has waited is made again, now that its operating point is in force. -/
def State.redo (s : State) (x : Nat × Nat × Val) : State × Nat :=
  let ix := x.2.1 / 256
  if x.2.1 = Obj.PowerControl.powerRequest then (((s.setF Obj.PowerControl.inTransition false).power x.1 0).carryHeld, answerLater)
  else if x.2.1 = Obj.CameraSelect.inLineCamera then wrInLine x.1 x.2.2 s
  else if 0x4000 ≤ ix ∧ ix < 0x4004 then wrEnable x.1 (ix - 0x4000) x.2.2 s
  else if 0x6000 ≤ ix ∧ ix < 0x6004 then wrCameraEnable x.1 (ix - 0x6000) x.2.2 s
  else if 0x1200 ≤ ix ∧ ix < 0x1300 then
    let g := ix - 0x1200
    let (s, _, c) := s.commit g (s.commitLine g)
    (s, c)
  else wrPageAppend x.1 (ix % 8) x.2.2 s

/-- The waiting writes complete (R422). -/
def State.finishLater (s : State) : State :=
  let l := s.pow.later
  let s := s.setPow { s.pow with later := [] }
  l.foldl (fun s x =>
    let (s', c) := s.redo x
    if c = answerLater then s'
    else if x.1 = nobody then s'.showNeed
    else if c = 0 then
      ((match descOf x.2.1 with | some d => s'.journal x.2.1 0xFF (encodeVal d.ty x.2.2) | none => s').showNeed).answer x.1 0
    else s'.answer x.1 c) s

/-- The waiting writes are refused (R422). -/
def State.refuseLater (s : State) : State :=
  let l := s.pow.later
  let s := s.setPow { s.pow with later := [] }
  l.foldl (fun s x =>
    if x.2.1 = Obj.PowerControl.powerRequest then ((s.setF Obj.PowerControl.inTransition false).controlResp x.1 2 true).carryHeld
    else s.answer x.1 0x04020001) s

/-! ### Operating points (R421-R424) -/

/-- A write of `OpTarget`. -/
def wrOpTarget (v : Val) (s : State) : State × Nat :=
  let f := s.opFreq v.nat
  let need := s.needNow
  if f < max need.1 need.2 then (s, if need.2 ≤ need.1 then 0x03010001 else 0x03010005)
  else
    let s := s.setN Obj.Dvfs.opTarget v.int
    (if s.pow.state = 2 then s else s.aimDvfs v.nat, 0)

/-- `OP_TARGET` (R421). -/
def execOpTarget (t : Nat) (a : Caller) (v : Bytes) (s : State) : Host.Outcome State Fault Refusal :=
  access t s (fun s => s.write a Obj.Dvfs.opTarget v wrOpTarget)

/-- In STANDBY the sequencer has come to rest: the step to STANDBY ends, and a request held since is carried out (R427, R429). -/
def State.standbyReached (s : State) : State :=
  if s.pow.state = 2 ∧ s.flag Obj.PowerControl.inTransition then (s.setF Obj.PowerControl.inTransition false).carryHeld else s

/-- A transition has completed: the next one starts, or the writes that waited complete. -/
def State.dvfsDone (s : State) : State :=
  let s := ((s.inc Obj.Dvfs.dvfsTransitions).setF Obj.Dvfs.voltageError false).startDvfs
  if s.pow.dvfs.step = .idle then s.standbyReached.finishLater else s

/-- Raise step 4: FCORE switches to the new PLL once the settle time has passed and the PLL is locked. -/
def State.tryRaise (s : State) : State :=
  let v := s.pow.dvfs
  match v.step, v.settle with
  | .raiseSettle, some e =>
    if e ≤ s.now ∧ v.locked then (s.setN Obj.Dvfs.opInForce v.next).dvfsDone else s
  | _, _ => s

/-- A transition fails (R424): a raise writes the previous voltage back and keeps the point in force; a lower keeps the lower frequency and
sets `VoltageError`. A value held since then is carried out next when it lies below the point that failed. -/
def State.dvfsFail (s : State) : State :=
  let v := s.pow.dvfs
  let cur := s.nat Obj.Dvfs.opInForce
  let raise_ := v.step = .raiseStatus ∨ v.step = .raisePoll ∨ v.step = .raiseSettle
  let s := if raise_ then s.emit (.avs (s.opVolt cur)) else if v.step = .lowerStatus then s.setF Obj.Dvfs.voltageError true else s
  let s := (s.inc Obj.Dvfs.dvfsFailures).ev Ev.dvfsFailed
  let again := if raise_ then decide (v.target < cur) else decide (cur < v.target)
  let s := s.setPow { s.pow with dvfs := { v with step := .idle, target := if again then v.target else cur } }
  (if again then s.startDvfs else s.standbyReached).refuseLater

/-- `AVS_STATUS` (R423): the regulator answers a voltage write. -/
def execAvsStatus (t : Nat) (good : Bool) (s : State) : Host.Outcome State Fault Refusal :=
  fieldCmd t s (fun s =>
    let v := s.pow.dvfs
    match v.step with
    | .raiseStatus => if good then s.setPow { s.pow with dvfs := { v with step := .raisePoll } } else s.dvfsFail
    | .lowerStatus => if good then s.dvfsDone else s.dvfsFail
    | _ => s)

/-- `AVS_VOLTAGE_POLL` (R423): within 10 mV of the target, `SettleTime` starts. -/
def execAvsVoltagePoll (t mv : Nat) (s : State) : Host.Outcome State Fault Refusal :=
  fieldCmd t s (fun s =>
    let v := s.pow.dvfs
    let target := s.opVolt v.next
    if v.step = .raisePoll ∧ mv ≤ target + 10 ∧ target ≤ mv + 10 then
      s.setPow { s.pow with dvfs := { v with step := .raiseSettle, settle := some (s.now + s.nat Obj.Dvfs.settleTime * us) } }
    else s)

/-- `DVFS_PLL_LOCK` (R423): the idle PLL locks; a lowering switches FCORE to it and then writes the voltage. -/
def execDvfsPllLock (t : Nat) (s : State) : Host.Outcome State Fault Refusal :=
  fieldCmd t s (fun s =>
    let v := s.pow.dvfs
    match v.step with
    | .idle => s
    | .lowerLock =>
      let s := s.setPow { s.pow with dvfs := { v with step := .lowerStatus, locked := true, start := s.now } }
      (s.setN Obj.Dvfs.opInForce v.next).emit (.avs (s.opVolt v.next))
    | .lowerStatus => s
    | _ => (s.setPow { s.pow with dvfs := { v with locked := true } }).tryRaise)

/-- `SETTLE_TIME_END` (R423). -/
def execSettleTimeEnd (t : Nat) (s : State) : Host.Outcome State Fault Refusal := fieldCmd t s (fun s => s.tryRaise)

/-- Bound of the step in progress, from the start of the transition (R423). -/
def DvfsStep.bound : DvfsStep → Nat
  | .idle => 0
  | .raiseStatus => 10 * us
  | .raisePoll => 120 * us
  | .raiseSettle => 150 * us
  | .lowerLock => 45 * us
  | .lowerStatus => 10 * us

/-- `DVFS_STEP_TIMEOUT` (R424). -/
def execDvfsStepTimeout (t : Nat) (s : State) : Host.Outcome State Fault Refusal :=
  fieldCmd t s (fun s =>
    let v := s.pow.dvfs
    if v.step = .idle ∨ s.now < v.start + v.step.bound then s else s.dvfsFail)

/-! ### Power requests (R427-R429) -/

/-- A write of `PowerRequest`: refused where the state cannot be reached, else carried across in a CONTROL message. The field island, which
knows the state in force, gives a request equal to it no effect (R429). -/
def wrPower (v : Val) (s : State) : State × Nat :=
  let st := s.nat Obj.PowerControl.powerState
  if 3 ≤ st ∧ v.int ≠ 3 then (s, 0x03030002)
  else if v.int = 0 ∧ s.flag Obj.FaultControl.overrunLatched then (s, 0x03010002)
  else if v.int = 0 ∧ st ≠ 0 ∧ s.dramFailed then (s, 0x03030001)
  else if v.int = 0 ∧ st ≠ 0 ∧ s.debugBarsRun then (s, 0x05010001)
  else
    let s := (s.setN Obj.PowerControl.powerRequest v.int).setN Obj.PowerControl.holdCause (if v.int = 1 then 0 else s.num Obj.PowerControl.holdCause)
    (s.toField 0x0A (leBytes 1 2 ++ leBytes 1 v.int ++ leBytes 2 0 ++ leBytes 4 s.span.counts ++ leBytes 4 0), 0)

/-- `POWER_REQUEST_RUN` (R427). -/
def execPowerRequestRun (t : Nat) (a : Caller) (v : Bytes) (s : State) : Host.Outcome State Fault Refusal :=
  access t s (fun s => s.write a Obj.PowerControl.powerRequest v wrPower)

/-- `POWER_REQUEST_HOLD` (R427). -/
def execPowerRequestHold (t : Nat) (a : Caller) (v : Bytes) (s : State) : Host.Outcome State Fault Refusal :=
  access t s (fun s => s.write a Obj.PowerControl.powerRequest v wrPower)

/-- `POWER_REQUEST_STANDBY` (R427). -/
def execPowerRequestStandby (t : Nat) (a : Caller) (v : Bytes) (s : State) : Host.Outcome State Fault Refusal :=
  access t s (fun s => s.write a Obj.PowerControl.powerRequest v wrPower)

/-- `POWER_REQUEST_OFF` (R427). -/
def execPowerRequestOff (t : Nat) (a : Caller) (v : Bytes) (s : State) : Host.Outcome State Fault Refusal :=
  access t s (fun s => s.write a Obj.PowerControl.powerRequest v wrPower)

end Sys2Proof.Machine
end

