-- ==== Sys2Proof/Machine/DuxCtl.lean ====
section
/-! DEFINITION. Duplex control writes (R469, R470, R492). -/

namespace Sys2Proof.Machine

/-- A STATUS of the last 75 µs shows the peer ACTIVE (R469, R470). -/
def State.peerActive (s : State) : Bool :=
  s.nat Obj.DuplexStatus.peerRole == 1 && (match s.dux.statusAt with | some a => decide (s.now ≤ a + 75 * us) | none => false)

/-- Synced clears; SyncLost is raised where it was set. -/
def State.loseSync (s : State) : State :=
  let s := s.setDux { s.dux with snapDone := false }
  if s.flag Obj.DuplexStatus.synced then (s.setF Obj.DuplexStatus.synced false).ev Ev.syncLost else s

/-- The part is SOLO and claims the carriers that have completed step 7 and are not its own (R191, R470). -/
def State.becomeSolo (s : State) : State :=
  let s := ((s.setN Obj.DuplexStatus.role 0).setF Obj.DuplexStatus.synced false).setDux { s.dux with
    since := none, journal := [], health := [], tail := [], snapshot := false, got := none, applied := none, part := []
    dAdopted := none, dRun := 0, snapDone := false, snapIn := false, relinquished := false }
  (s.claimable.filter (fun h => s.portState h != 2)).foldl (fun s h => s.claim h (s.nat (Obj.PortStatus.carrierEpoch h))) s

/-- A write of `DuplexMode` (R470). -/
def wrDuplexMode (v : Val) (s : State) : State × Nat :=
  if s.anyPlane then (s, 0x03010001)
  else if s.role = 3 then (s, 0x03010002)
  else if s.num Obj.DuplexControl.duplexMode = v.int then (s, 0)
  else if v.int = 1 then
    let s := ((s.setN Obj.DuplexControl.duplexMode 1).setN Obj.DuplexStatus.role 2).setDux { s.dux with since := some s.now }
    if (List.range 64).any (fun h => s.portUp h) then (s.becomeActive false, 0) else (s, 0)
  else if s.role = 2 ∧ s.peerActive then (s, 0x03010002)
  else
    let s := s.setN Obj.DuplexControl.duplexMode 0
    if s.role = 1 then ((s.stay 0x03 (s.statusBody 0)).becomeSolo, 0) else (s.becomeSolo, 0)

/-- A write of `SwitchOver` (R492): on an ACTIVE with a Synced peer. -/
def wrSwitchOver (s : State) : State × Nat :=
  if s.role = 1 ∧ s.flag Obj.DuplexStatus.peerSynced then (s.relinquish 7, 0) else (s, 0x03010002)

/-- A write of `ForceActive` (R469): it makes a STANDBY ACTIVE; a FAILED part keeps its role. -/
def wrForceActive (s : State) : State × Nat :=
  if s.peerActive ∨ s.role = 3 then (s, 0x03010002)
  else if s.role = 2 then (s.becomeActive false, 0) else (s, 0)

end Sys2Proof.Machine
end

