-- ==== Sys2Proof/Machine/Dram.lean ====
section
/-! DEFINITION. The commands of the DRAM controller (spec/12). -/

namespace Sys2Proof.Machine

/-- `REFAB_DUE` (R297): a REFab falls due on the grid of subchannel `u` with line staging `fill` percent full. -/
def execRefabDue (t u fill : Nat) (s : State) : Host.Outcome State Fault Refusal :=
  fieldCmd t s (fun s =>
    let x := s.subch u
    if !s.serving u ∨ s.now < x.due then s
    else
      let s := s.setSub u { x with due := x.due + s.trefi u, fill := fill }
      let owed := s.nat (Obj.DramStatus.owed u)
      if !s.flag (Obj.DramStatus.hot u) && s.subState u == 3 && decide (fill < s.nat Obj.DramPolicy.postponeBelow ∧ owed < 4) then
        (s.setN (Obj.DramStatus.owed u) ((owed + 1 : Nat) : Int)).inc (Obj.DramStatus.postponed u)
      else s.issueRef u s.now)

/-- `OWED_REFRESH` (R297): one owed REFab, while staging is at `PostponeBelow` or above. -/
def execOwedRefresh (t u fill : Nat) (s : State) : Host.Outcome State Fault Refusal :=
  fieldCmd t s (fun s =>
    let owed := s.nat (Obj.DramStatus.owed u)
    if !s.serving u ∨ owed = 0 ∨ fill < s.nat Obj.DramPolicy.postponeBelow then s
    else ((s.setSub u { s.subch u with fill := fill }).setN (Obj.DramStatus.owed u) ((owed - 1 : Nat) : Int)).issueRef u s.now)

/-- `TEMP_POLL` (R296, R298, R299), once per `TempPoll`: MR4 of the ranks of subchannel `u`, true above 85 °C; the next command opportunity
comes `rep.wait` × 0.1 ns later. -/
def execTempPoll (t u : Nat) (rep : PollReport) (s : State) : Host.Outcome State Fault Refusal :=
  fieldCmd t s (fun s =>
    if !s.serving u ∨ s.now < (s.subch u).polled + 10000 * s.nat Obj.DramPolicy.tempPoll then s
    else
      let x := s.subch u
      let hot := rep.hots.any id
      let was := s.flag (Obj.DramStatus.hot u)
      let s := s.setSub u { x with polled := s.now, cool := if hot ∨ !was then 0 else x.cool + 1 }
      if hot ∧ !was then
        let s := ((s.setF (Obj.DramStatus.hot u) true).setN (Obj.DramStatus.refreshInterval u) 1950).ev Ev.dramHot [] u
        let owed := s.nat (Obj.DramStatus.owed u)
        if owed = 0 then s
        else
          let at_ := s.now + rep.wait
          let s := (s.emit (.dram u 6 0)).issueRefs u at_ owed
          let s := (s.setN (Obj.DramStatus.owed u) 0).setSub u { s.subch u with due := at_ + 19500 }
          (s.inc (Obj.DramStatus.catchUps u)).ev Ev.dramCatchUp [] u
      else if !hot ∧ was ∧ x.cool + 1 = 2 then
        let s := ((s.setF (Obj.DramStatus.hot u) false).setN (Obj.DramStatus.refreshInterval u) 3900).ev Ev.dramHot [] u
        s.setSub u { s.subch u with cool := 0, due := (s.subch u).last + 39000 }
      else s)

/-- `ROW_ACTIVATE` (R302). -/
def execRowActivate (t u rank bank row : Nat) (s : State) : Host.Outcome State Fault Refusal :=
  fieldCmd t s (fun s => if s.serving u ∧ bank < 32 then s.actRows u rank bank 256 [row] else s)

/-- `CORRECTED_READ` (R290): delivered, counted, and rewritten unless a write to that burst is queued already. -/
def execCorrectedRead (t u : Nat) (rd : BurstRead) (s : State) : Host.Outcome State Fault Refusal :=
  fieldCmd t s (fun s =>
    if s.serving u then
      let s := (s.inc (Obj.DramStatus.correctable u)).setN (Obj.DramStatus.lastErrorAddress u) rd.addr
      if rd.queued then s else s.emit (.dram u 3 rd.addr)
    else s)

/-- `UNCORRECTABLE_READ` (R291). -/
def execUncorrectableRead (t u addr : Nat) (hit : EccHit) (s : State) : Host.Outcome State Fault Refusal :=
  fieldCmd t s (fun s => if s.serving u then s.uncorrectable u addr hit else s)

/-- `FULL_TRAINING` (R286, R293-R295): step 7 of the start (R443), with the ms that step 1 has taken on each channel. The configuration is taken,
and every subchannel is judged; when all are ready, refresh starts, the region map is laid out, and the piers in service are due for
bring-up. A failed training stands until the next reset. -/
def execFullTraining (t : Nat) (ok : List TrainResult) (inits : List Nat) (s : State) : Host.Outcome State Fault Refusal :=
  fieldCmd t s (fun s =>
    if s.rst.fieldStep ≠ 6 ∨ !s.rst.field.run then s
    else
      let least := s.nat Obj.DramPolicy.minEyeWidth
      let us := (List.range 4).filter (fun u => decide (u < s.nSub))
      let ranks := s.nat Obj.DramConfig.ranks; let density := s.nat Obj.DramConfig.density; let rate := s.nat Obj.DramConfig.dataRate
      let good : Nat → Bool := fun u => match ok[u]? with
        | some r => dramSupported ranks density rate && trainGood r (inits.getD (u / 2) 0) least
        | none => false
      let s := s.setN Obj.DramConfig.trainTime (trainTime ok inits)
      let s := us.foldl (fun s u => s.setB (Obj.DramStatus.eyeMap u)
        (match ok[u]? with | some r => ((r.lanes.take 5).map trainedEye).flatten | none => [])) s
      if us.all good then
        let s := s.setN Obj.DramConfig.channelBytes s.channelCapacity
        let s := us.foldl (fun s u => (s.setSub u { Sub.init with due := s.now + 39000, polled := s.now, ranks := ranks, density := density, rate := rate }).setN (Obj.DramStatus.state u) 3) s
        let s : State := State.layoutRegions { s with rst := { s.rst with fieldStep := 8 } }
        let s := (s.setFlt { s.flt with mirror := s.flt.fieldLog.entries.map some, mirrored := s.flt.fieldLog.entries.length }).setN Obj.StartControl.startStage 8
        ((List.range 64).filter (fun h => decide (h < s.nHeads) && s.nat (Obj.PierConfig.service (h / 4)) == 0)).foldl
          (fun s h => s.attemptDue h false 0) s
      else
        let s : State := { s with rst := { s.rst with fieldStep := 7 } }
        us.foldl (fun s u => if good u then s.setN (Obj.DramStatus.state u) 2
          else (s.setN (Obj.DramStatus.state u) 5).ev Ev.dramTrainingFailed [] u) s)

/-- `DRAM_RETRAIN` (R301, R451, R455): a due retrain of subchannel `u` starts in its window, none other running and 1 ms after the last. -/
def execDramRetrain (t u fill : Nat) (s : State) : Host.Outcome State Fault Refusal :=
  fieldCmd t s (fun s =>
    let busy := (List.range 4).any (fun v => s.subState v == 4)
    let spaced := match s.cal.retrained with | some e => decide (e + 10 ^ 7 ≤ s.now) | none => true
    if !s.isDue 2 u ∨ !s.calFirst 2 u ∨ s.subState u ≠ 3 ∨ busy ∨ !spaced ∨ (fill < 75 ∧ s.anyPlane) then s
    else (s.setSub u { s.subch u with retrain := s.now, fill := fill }).setN (Obj.DramStatus.state u) 4)

/-- `DRAM_RETRAIN_DONE` (R301, R455): the lanes' new windows are judged; all are taken, or none, as where the 48 µs of R301 are past. -/
def execDramRetrainDone (t u : Nat) (lanes : List LaneSweep) (s : State) : Host.Outcome State Fault Refusal :=
  fieldCmd t s (fun s =>
    if s.subState u ≠ 4 ∨ lanes.length ≠ 5 then s
    else
      let old := eyeMapOf (s.byt (Obj.DramStatus.eyeMap u))
      let shift := s.nat Obj.CalLimits.dramMaxShift
      let least := s.nat Obj.DramPolicy.minEyeWidth
      let edges := lanes.zipIdx.all (fun p => windowOk (fld old (4 * p.2) 1) p.1.readLo p.1.readHi 255
        && windowOk (fld old (4 * p.2 + 2) 1) p.1.writeLo p.1.writeHi 255)
      let near_ := lanes.zipIdx.all (fun p => windowOk (fld old (4 * p.2) 1) p.1.readLo p.1.readHi shift
        && windowOk (fld old (4 * p.2 + 2) 1) p.1.writeLo p.1.writeHi shift)
      let wide := lanes.all (fun x => laneWide x least)
      let late := decide ((s.subch u).retrain + 480000 < s.now)
      let s := (s.setN (Obj.DramStatus.state u) 3).setCal { s.cal with retrained := some s.now }
      let s := (s.inc (Obj.DramStatus.retrains u)).setN (Obj.DramStatus.retrainStamp u) (s.stamp .field)
      if !wide then (s.calEnd 2 u (some 2)).trainingLoss u
      else if late ∨ !edges then s.calEnd 2 u (some 1)
      else if !near_ then s.calEnd 2 u (some 1)
      else (s.setB (Obj.DramStatus.eyeMap u) (lanes.map laneEye).flatten).calEnd 2 u none)

end Sys2Proof.Machine
end

