-- ==== Sys2Proof/Machine/ResetOps.lean ====
section
/-! DEFINITION. Reset episodes: what each reach clears, the joining of sources, the release point, RECOVERY, and the verification of firmware
slots (R431-R449, R496-R498). -/

namespace Sys2Proof.Machine

/-! ### Firmware slots (R442, R496-R498) -/

/-- The bytes of firmware slot `k`. -/
def State.slotBytes (s : State) (k : Nat) : Bytes := smGet (fun _ => []) s.flash.slots k

/-- The anti-rollback counter of a Kind (0 host, 1 field). -/
def State.rollback (s : State) (kind : Nat) : Nat := s.nat (if kind = 0 then Obj.Security.rollbackHost else Obj.Security.rollbackField)

/-- Every bank of the host array loaded: the keys bank can verify an image (R441). -/
def State.keysOk (s : State) : Bool := !bit (s.nat (Obj.FuseStatus.bankState 0)) 2

/-- Magic, Kind, length, key and Signature of an image are right (R496, R497). -/
def State.signedImage (s : State) (kind : Nat) (b : Bytes) : Bool :=
  let n := fld b 12 4
  let most := if kind = 0 then 2 * 2 ^ 20 - 224 else 24 * 2 ^ 20 - 224
  s.keysOk && fld b 0 4 == 0x57465A41 && fld b 4 1 == kind && decide (n ≤ most) && decide (128 + n + 96 ≤ b.length)
    && Config.sha384 (sub b 16 97) == Config.partBytes Obj.Security.rootKeyHash
    && Config.ecdsaVerify (sub b 16 97) (Config.sha384 (b.take (128 + n))) (sub b (128 + n) 96)

/-- `State` of slot `k` (R497, R498). -/
def State.slotState (s : State) (k : Nat) : Nat :=
  let b := s.slotBytes k
  if b.isEmpty then 0
  else if !s.signedImage (k / 2) b then 2
  else if fld b 5 1 < s.rollback (k / 2) then 3
  else if bit s.flash.marked k then 4 else 1

/-- The slot's objects follow its image. -/
def State.showSlot (s : State) (k : Nat) : State :=
  let b := s.slotBytes k
  ((s.setN (Obj.FirmwareSlot.state k) (s.slotState k)).setN (Obj.FirmwareSlot.securityVersion k) (fld b 5 1)).setN
    (Obj.FirmwareSlot.buildNumber k) (fld b 8 4)

/-- The objects of the four slots. -/
def State.showSlots (s : State) : State := s.each [0, 1, 2, 3] State.showSlot

/-- The slot of a Kind that the AZ9 takes (R497): of those that verify and are not marked, the higher SecurityVersion, then the higher
BuildNumber, then slot A. -/
def State.chooseSlot (s : State) (kind : Nat) : Option Nat :=
  let a := 2 * kind; let b := 2 * kind + 1
  let rank := fun (k : Nat) => fld (s.slotBytes k) 5 1 * 2 ^ 32 + fld (s.slotBytes k) 8 4
  match s.slotState a == 1, s.slotState b == 1 with
  | true, true => some (if rank b ≤ rank a then a else b)
  | true, false => some a
  | false, true => some b
  | false, false => none

/-! ### FAULT_N (R436, R519) -/

/-- FAULT_N is held by a latch or by RECOVERY. -/
def State.faultHeld (s : State) : Bool := s.flt.latched || s.rst.recovery

/-- FAULT_N is driven: active low. -/
def State.driveFaultN (s : State) (asserted : Bool) : State :=
  if s.flag Obj.FaultControl.faultNState = asserted then s else (s.setF Obj.FaultControl.faultNState asserted).pin .faultN (!asserted)

/-! ### What a reset clears (R431, R435, R436) -/

/-- Field-island objects in the always-on domain (R431): fuse status, time base, reset cause, fault log, FAULT_N and the latches of the fault
machinery. -/
def keptField (key : Nat) : Bool :=
  [0x1002, 0x1601, 0x2202, 0xA009].contains (key / 256)
    || [Obj.FaultControl.faultNState, Obj.FaultControl.overrunLatched, Obj.FaultControl.overruns].contains key

/-- Objects that the boot header holds; they come back at a host boot (R501). -/
def inHeader (key : Nat) : Bool :=
  [Obj.Security.credentialFloorVendor, Obj.Security.credentialFloorOwner, Obj.Security.observerOpen].contains key

/-- Host-island objects that a WARM or ISLAND reset keeps: fuses and what is held in flash, time base, reset cause, boot attempts, fault log;
and the record of the field island's pending planes. -/
def keptHost (key : Nat) : Bool :=
  ([0x1000, 0x1001, 0x1600, 0x2201, 0x9000, 0xA008].contains (key / 256) && !inHeader key) || decide (0x9010 ≤ key / 256 ∧ key / 256 ≤ 0x9013)
    || [Obj.StartControl.bootAttempts, Obj.PowerControl.pendingPlanes].contains key

/-- Every object of an island that is not kept reads its default. -/
def State.clearDict (s : State) (i : Side) : State :=
  let stays := fun (key : Nat) => match i with
    | .field => !isField (key / 256) || keptField key
    | .host => isField (key / 256) || keptHost key
  { s with dict := s.dict.filter (fun p => stays p.1), chg := s.chg.filter (fun p => stays p.1) }

/-- Encoder channels after a reset: the levels at the balls are the only thing left. -/
def Enc.reset (e : Enc) : Enc := { Enc.init with a := e.ballA, b := e.ballB, ballA := e.ballA, ballB := e.ballB, z := e.z }

/-- The field island's outputs go to the levels of R436; a trigger output that is high goes to the inactive level of the default `TrigPolarity`
(R241). -/
def State.quietField (s : State) : State :=
  let s := ((List.range 64).filter (fun h => (s.head h).hstb)).foldl (fun s h => s.pin (.hstb h) false) s
  let s := if s.flag Obj.Overspeed.webSlowState then s.pin .webSlow false else s
  let high := (List.range 4).filter (fun c => (s.cam c).pulse.isSome != s.flag (Obj.TriggerConfig.trigPolarity c))
  let s := high.foldl (fun s c => s.pin (.trig c) false) s
  s.driveFaultN true

/-- Handlings and steps of an island end (R517). -/
def State.endHandlings (s : State) (i : Side) : State :=
  let s := s.setHandling (s.flt.handling.filter (fun h => h.side != i))
  s.setFlt { s.flt with todo := s.flt.todo.filter (fun e => e.side != i) }

/-- Every channel of the Span is down: one end of it is in reset (log entry 70). -/
def State.spanDown (s : State) : State :=
  let s := s.each (List.range 12) (fun s i => s.setN (Obj.SpanChannel.state i) 0)
  let s := ((s.setN Obj.SpanControl.channelsInUse 0).setN Obj.SpanControl.capacityH2F 0).setN Obj.SpanControl.capacityF2H 0
  { s with span := { s.span with rx := [], chans := [], goodH2F := 0, goodF2H := 0, useH2F := 0, useF2H := 0, inH := [], inF := [] }, pack := .init }

/-- The field island outside its always-on domain is cleared (R431, R435). The time base, the fault log
and the highest SecurityVersion run stay. -/
def State.clearField (s : State) : State :=
  let s := s.quietField.spanDown
  let s := ((s.clearDict .field).endHandlings .field).setN Obj.PowerControl.pendingPlanes 0
  let s := s.setF Obj.PowerControl.inTransition false
  { s with
    web := { Web.init with enc := smMap (fun _ => Enc.init) Enc.reset s.web.enc }
    sched := .init, planes := [], strips := .init, screen := .init, heads := [], ports := [], health := .init, meas := []
    cal := .init
    cams := .init, ana := [], dram := [], comp := .init
    groups := { staged := [], transfers := s.groups.transfers.filter (fun x => !isField (x.key / 256)) }
    dux := .init
    flt := { s.flt with mirror := [], mirrored := 0 }
    tim := { s.tim with caps := s.tim.caps.filter (fun p => decide (p.1 < 4)) }
    span := { Span.init with lostH := s.span.lostH, validH := s.span.validH, linkH := s.span.linkH, counts := s.span.counts, fwHost := s.span.fwHost }
    pow := { Pow.init with xtalH := s.pow.xtalH, muxWait := s.pow.muxWait.filter (fun w => decide (w.1 < 2))
                           gateWait := s.pow.gateWait.filter (fun w => decide (w.1 = 0)) }
    sec := { s.sec with armed := false, activateAt := none, halted := false }
    rst := { s.rst with fieldStep := 0, confirmed := false, waiting := s.rst.waiting.filter (fun w => w.1 == .ring) } }

/-- The outputs of the host island go low (R436). -/
def State.quietHost (s : State) : State :=
  let s := if s.tim.ppsHigh then s.pin .ppsOut false else s
  s.tim.evtHigh.foldl (fun s n => s.pin (.evtOut n) false) s

/-- The host island outside its always-on domain is cleared (R431, R435): every session ends without a CLOSE, the rings empty, and a debug
grant ends (R503). An image save is cut short, and an `OwnerKeyHash` that no transition has fused is lost. -/
def State.clearHost (s : State) : State :=
  let s := (s.quietHost.endHandlings .host).spanDown
  let s := s.clearDict .host
  let s := if s.lifecycle = 0 then s.setB Obj.Security.ownerKeyHash [] else s
  let fl := match s.flash.saving with
    | none => s.flash
    | some (c, _) => { s.flash with saving := none, copyA := if c = 1 then [] else s.flash.copyA, copyB := if c = 2 then [] else s.flash.copyB }
  let s : State := { s with
    net := { Net.init with nextDeposit := s.net.nextDeposit }
    groups := { s.groups with transfers := [] }
    tim := { s.tim with caps := s.tim.caps.filter (fun p => decide (4 ≤ p.1)), ppsHigh := false, evtHigh := [], ppsLast := none, evtLast := [], ptp := [] }
    span := { s.span with inH := [], lostH := false, linkH := false, validH := s.now, fwHost := none }
    pow := { s.pow with xtalH := ⟨[]⟩, muxWait := s.pow.muxWait.filter (fun w => decide (2 ≤ w.1))
                        gateWait := s.pow.gateWait.filter (fun w => decide (w.1 = 1)) }
    sec := { s.sec with challenge := none, grantEnd := none, signer := 2, creds := [] }
    flash := fl
    rst := { s.rst with recovery := false, served := false, confirmed := false, waiting := s.rst.waiting.filter (fun w => w.1 != .ring) } }
  s.setN Obj.MasterTime.source 0

/-- The island cleared. -/
def State.clearIsland (s : State) : Side → State
  | .host => s.clearHost
  | .field => s.clearField

/-! ### Episodes (R433, R434) -/

/-- An island's reset record replaced. -/
def State.setEpisode (s : State) (i : Side) (e : Episode) : State :=
  match i with
  | .host => { s with rst := { s.rst with host := e } }
  | .field => { s with rst := { s.rst with field := e } }

/-- A source asserts on an island (R433): it opens an episode or joins the one that runs; a fuse load is aborted (R440). A level source
(`dur` none) stays until it is released; another lasts until `dur`. -/
def State.assertReset (s : State) (i : Side) (src reach : Nat) (dur : Option Nat) : State :=
  let e := s.episode i
  let k := sideIx i
  let mark := fun (e : Episode) => { e with
    seen := setBit e.seen src true
    asserted := if dur.isNone then setBit e.asserted src true else e.asserted
    pulseEnd := max e.pulseEnd (dur.getD 0) }
  if e.active && e.seen != 0 then
    let s := s.setEpisode i (mark { e with reach := min e.reach reach, loading := false, failed := 0 })
    if e.loading then
      (s.setF (Obj.ResetCause.fuseRestart k) true).setN (Obj.FuseStatus.fuseRestarts k) (min 255 (s.nat (Obj.FuseStatus.fuseRestarts k) + 1) : Nat)
    else s
  else
    let s := s.clearIsland i
    let s := ((s.inc (Obj.ResetCause.episodes k)).setF (Obj.ResetCause.fuseRestart k) false).setN (Obj.FuseStatus.fuseRestarts k) 0
    let s := s.setF Obj.StartControl.startComplete false
    s.setEpisode i (mark { Episode.init with seen := 0, reach := reach, loading := false, released := e.released, pulseEnd := 0 })

/-- A source asserts on both islands. -/
def State.assertBoth (s : State) (src reach : Nat) (dur : Option Nat) : State :=
  (s.assertReset .host src reach dur).assertReset .field src reach dur

/-- A level source releases. -/
def State.releaseSource (s : State) (i : Side) (src hold : Nat) : State :=
  let e := s.episode i
  if bit e.asserted src then s.setEpisode i { e with asserted := setBit e.asserted src false, pulseEnd := max e.pulseEnd hold } else s

/-- Software sources assert 1 ms after the response and last 100 µs (R432). -/
def State.softUntil (s : State) : Option Nat := some (s.now + 11000000)

/-- The always-on domain of an island is cleared (R431 COLD). -/
def State.clearAlways (s : State) (i : Side) : State :=
  let k := sideIx i
  let again := s.flag (Obj.ResetCause.fuseRestart k)
  let n := s.nat (Obj.FuseStatus.fuseRestarts k)
  let gone := fun (key : Nat) => match i with
    | .host => [0x1000, 0x1001, 0x1600, 0x2201, 0xA008].contains (key / 256) || [Obj.StartControl.bootAttempts, Obj.Security.timeTrusted].contains key
    | .field => keptField key
  let s : State := { s with dict := s.dict.filter (fun p => !gone p.1) }
  let s : State := match i with
    | .host => State.showSlots { s with
        tim := { s.tim with master := Tim.init.master }
        flt := { s.flt with hostLog := .init, hostSeq := 0, hostOverrun := false }
        flash := { s.flash with marked := 0 } }
    | .field => { s with
        tim := { s.tim with slave := Tim.init.slave, servoI := 0, servoR := 0, first := false, inBand := 0, outBand := 0, lastTime := none, cycleNext := none }
        flt := { s.flt with fieldLog := .init, fieldSeq := 0, fieldOverrun := false, latched := false, powerCycle := false }
        sec := { s.sec with fieldRun := 0 } }
  (s.setF (Obj.ResetCause.fuseRestart k) again).setN (Obj.FuseStatus.fuseRestarts k) n

/-! ### RECOVERY (R447, R448) -/

/-- The field island is held in reset (R448): only an episode of its own ends that. -/
def State.holdField (s : State) : State :=
  let e := s.rst.field
  if e.active ∧ e.seen ≠ 0 then s
  else (if e.active then s else s.clearField).setEpisode .field { e with active := true, seen := 0, asserted := 0, loading := false, run := false }

/-- RECOVERY is entered with a cause: 1 failed starts, 2 fuse fault. H0-H3 go link-down. -/
def State.enterRecovery (s : State) (cause : Nat) : State :=
  if s.rst.recovery then s.setN Obj.StartControl.recoveryCause cause
  else
    let s := (({ s with rst := { s.rst with recovery := true } }).setN Obj.StartControl.recoveryCause cause).hev Ev.recoveryEntered [cause]
    (([0, 1, 2, 3].foldl State.portDown s.holdField).showPower 3).driveFaultN true

/-! ### The release point (R433, R434, R446, R447) -/

/-- A fuse fault stands: some bank failed its last COLD sequence, or the identity copies differ (R441). -/
def State.fuseFault (s : State) : Bool :=
  s.nat (Obj.FuseStatus.bankState 0) != 0 || s.nat (Obj.FuseStatus.bankState 1) != 0 || s.flag (Obj.FuseStatus.copiesDiffer 0)

/-- From the first reset in SCRAPPED on, the keys bank reads as disabled (R495): no image can be verified. -/
def State.scrapKeys (s : State) : State :=
  let m := s.nat (Obj.FuseStatus.bankState 0)
  if s.lifecycle = 4 ∧ !bit m 2 then (s.setN (Obj.FuseStatus.bankState 0) (m + 4 : Nat)).showSlots else s

/-- The release point of an island's episode: its cause is recorded, its cores leave reset and the boot watchdog starts; with a fuse fault that
stands, or with three failed starts, the AZ9 enters RECOVERY. -/
def State.releasePoint (s : State) (i : Side) : State :=
  let e := s.episode i
  let k := sideIx i
  let s := match i with | .host => s.scrapKeys | .field => s
  let s := ((s.setN (Obj.ResetCause.sources k) e.seen).setN (Obj.ResetCause.reach k) e.reach).setN (Obj.ResetCause.releaseStamp k) (s.stamp i)
  let s := s.setEpisode i { e with active := false, seen := 0, asserted := 0, loading := false, released := s.now }
  let s : State := { s with rst := { s.rst with watchdog := some s.now, confirmed := false } }
  let s := s.setN Obj.StartControl.startStage (if e.reach = 0 then 2 else 1)
  let s := if i = .host ∧ s.fuseFault then s.enterRecovery 2
    else if i = .host ∧ 3 ≤ s.nat Obj.StartControl.bootAttempts then s.enterRecovery 1 else s
  (if s.rst.recovery then s.holdField else s).seekLock

/-! ### Fuse loads (R8-R10, R439-R441) -/

/-- The resources of variant `v` in the order of R3: head ports, camera ports, DRAM channels, nozzle channels. -/
def variantRow (v : Nat) : Nat × Nat × Nat × Nat :=
  let cam := v % 2 == 0
  match v / 4 with
  | 0 => (64, if cam then 4 else 0, 2, 135168)
  | 1 => (40, if cam then 3 else 0, 2, 84480)
  | _ => (24, if cam then 2 else 0, 1, 50688)

/-- `VariantCode` of variant `v` (R9). -/
def variantCode (v : Nat) : Nat :=
  (if v < 4 then 0x10 else 0x20) + (if v % 2 = 0 then 8 else 0) + (if v / 2 % 2 = 0 then 4 else 0) + v / 4

/-- The ASCII of a text. -/
def ascii (t : List Nat) : Bytes := t.map (BitVec.ofNat 8)

/-- `PartNumber` of variant `v`: "AZ9-", the ports, D or S, V or N. -/
def partNumber (v : Nat) : Bytes :=
  ascii ([0x41, 0x5A, 0x39, 0x2D] ++ (match v / 4 with | 0 => [0x36, 0x34] | 1 => [0x34, 0x30] | _ => [0x32, 0x34])
    ++ [if v / 2 % 2 = 0 then 0x44 else 0x53, if v % 2 = 0 then 0x56 else 0x4E])

/-- The identity bank is in force (R8). -/
def State.showIdentity (s : State) : State :=
  let (h, c, d, n) := variantRow s.ident.variant
  let s := (s.setB Obj.Identity.partNumber (partNumber s.ident.variant)).setN Obj.Identity.variantCode (variantCode s.ident.variant)
  let s := (((s.setN Obj.Identity.headPorts h).setN Obj.Identity.cameraPorts c).setN Obj.Identity.dramChannels d).setN Obj.Identity.nozzleChannels n
  ((s.setN Obj.Identity.stepping s.ident.stepping).setN Obj.Identity.uniqueId s.ident.uniqueId).setN Obj.Identity.variantStatus 0

/-- The most restricted variant is in force (R10). -/
def State.restrict (s : State) : State :=
  let s := (s.setB Obj.Identity.partNumber (ascii [0x41, 0x5A, 0x39, 0x2D, 0x30, 0x30, 0x53, 0x4E])).setN Obj.Identity.variantCode 3
  let s := (((s.setN Obj.Identity.headPorts 0).setN Obj.Identity.cameraPorts 0).setN Obj.Identity.dramChannels 1).setN Obj.Identity.nozzleChannels 0
  s.setN Obj.Identity.variantStatus 1

/-- The failed banks as bits. -/
def bankBits (l : List Bool) : Nat := (l.zipIdx).foldl (fun m p => if p.1 then m + 2 ^ p.2 else m) 0

/-- A fuse load ends (R439, R441). The banks of the island that failed are given in order; `differ`: the two identity copies differ. -/
def State.loadEnd (s : State) (i : Side) (fails : List Bool) (differ : Bool) : State :=
  let k := sideIx i
  let e := s.episode i
  let bad := bankBits (fails.take (match i with | .host => 3 | .field => 2))
  let s := s.setN (Obj.FuseStatus.loadAttempts k) (e.failed + 1 : Nat)
  if bad ≠ 0 ∧ e.failed < 2 then s.setEpisode i { e with failed := e.failed + 1 }
  else
    let s := (s.setN (Obj.FuseStatus.bankState k) bad).setF (Obj.FuseStatus.copiesDiffer 0) differ
    let faulty := bit bad 0 || differ
    let whole := !faulty && !bit (s.nat (Obj.FuseStatus.bankState 0)) 0 && !bit (s.nat (Obj.FuseStatus.bankState 1)) 0
    let s := if faulty then s.restrict else if whole then s.showIdentity else s
    let s := s.showSlots
    if bad ≠ 0 ∨ differ then ((s.raise i Ev.fuseFault 0 none [bad]).enterRecovery 2).releasePoint i else s.releasePoint i

/-! ### Start-up (R443, R446) -/

/-- `StartComplete` is set (R446): the boot watchdog stops, the boot attempts return to 0, and the marks of the slots in use clear (R498). -/
def State.completeStart (s : State) : State :=
  let used := (List.range 4).filter (fun k => s.flag (Obj.FirmwareSlot.inUse k))
  let s := (s.setF Obj.StartControl.startComplete true).setN Obj.StartControl.bootAttempts 0
  let s : State := { s with rst := { s.rst with watchdog := none }
                            flash := { s.flash with marked := used.foldl (fun m k => setBit m k false) s.flash.marked } }
  s.showSlots.hev Ev.startComplete

/-- A write of `ConfirmStart` (R446): it completes a start that has reached step 10 and is remembered before that. -/
def wrConfirmStart (s : State) : State × Nat :=
  let s : State := { s with rst := { s.rst with confirmed := true } }
  (if s.nat Obj.StartControl.startStage = 10 ∧ !s.flag Obj.StartControl.startComplete then s.completeStart else s, 0)

/-- A software reset (R432, bits 4 and 5): 1 WARM, 2 ISLAND host, 3 ISLAND field. -/
def State.softReset (s : State) (n : Nat) : State :=
  match n with
  | 1 => s.assertBoth 4 1 s.softUntil
  | 2 => s.assertReset .host 5 2 s.softUntil
  | _ => s.assertReset .field 5 2 s.softUntil

/-- A write whose answer leaves before its effect (R432): `f` answers the abort, `g` acts afterwards. -/
def State.writeThen (s : State) (a : Caller) (key : Nat) (v : Bytes) (f : Val → Nat) (g : Val → State → State) : State :=
  match s.checkWrite a.role key v with
  | .error c => s.answer a.sess c
  | .ok x => if f x = 0 then g x (s.answer a.sess 0) else s.answer a.sess (f x)

/-- A write of `WarmReset`. -/
def State.writeWarm (s : State) (a : Caller) (v : Bytes) : State :=
  s.writeThen a Obj.StartControl.warmReset v (fun _ => 0) (fun x s => s.softReset x.nat)

/-- A write of `RecoveryExit` (R449): refused where a fuse fault caused the RECOVERY. -/
def State.writeExit (s : State) (a : Caller) (v : Bytes) : State :=
  s.writeThen a Obj.StartControl.recoveryExit v
    (fun _ => if s.rst.recovery ∧ s.nat Obj.StartControl.recoveryCause = 2 then 0x03010002 else 0)
    (fun _ s => (s.setN Obj.StartControl.bootAttempts 0).softReset 1)

end Sys2Proof.Machine
end

