-- ==== Sys2Proof/Machine/FaultOps.lean ====
section
/-! DEFINITION. The fault log and its mirror, FAULT_N, the failure of the fault machinery, and the steps of the recovery ladder
(R510-R520). -/

namespace Sys2Proof.Machine

/-! ### The log (R510-R513) -/

/-- Entries that a part holds (R510). -/
def partSize : Side → Nat
  | .host => 128
  | .field => 384

/-- A full part loses its oldest INFO or WARN entry, or its oldest entry where it holds none (R511). -/
def overwrite (l : List EventRec) : List EventRec :=
  match dropMinor l with
  | some r => r
  | none => l.drop 1

/-- The objects of an island's part follow it: the number of entries, and the log, which the model computes at each read. -/
def State.showLog (s : State) (i : Side) : State :=
  match i with
  | .host => (s.setN Obj.HostLogStatus.hostEntries (s.log i).entries.length).touch Obj.hostLog
  | .field => (s.setN Obj.FieldLogStatus.fieldEntries (s.log i).entries.length).touch Obj.fieldLog

/-- DRAM is trained, so that the mirror takes entries (R512). -/
def State.mirrorOpen (s : State) : Bool := decide (8 ≤ s.rst.fieldStep)

/-- Entries join the mirror; the newest overwrite the oldest. -/
def State.mirrorEntries (s : State) (l : List EventRec) : State :=
  if s.mirrorOpen ∧ !l.isEmpty then
    let m := s.flt.mirror ++ l.map some
    (s.setFlt { s.flt with mirror := m.drop (m.length - mirrorSize), mirrored := s.flt.mirrored + l.length }).touch Obj.fieldMirror
  else s

/-- FAULT_N is asserted and latched (R519). -/
def State.latchFault (s : State) : State := (s.setFlt { s.flt with latched := true }).driveFaultN true

/-- The oldest queued entry has been in the writing for 256 ns, so that its part holds it now (R513). -/
def State.entryDue (s : State) (i : Side) : Bool := decide ((s.log i).begun + 2560 ≤ s.now)

/-- One queued entry is written to its part (R511, R513): after a loss it carries Gap; a field entry is mirrored; by its class, or as
EscalationHeld, HandlerOverrun or PowerCycleRequested, it asserts FAULT_N (R519). -/
def State.writeEntry (s : State) (i : Side) : State :=
  let p := s.log i
  match p.queue with
  | [] => s
  | e :: q =>
    let e := if p.gap then { e with flags := setBit e.flags 0 true } else e
    let full := decide (partSize i ≤ p.entries.length)
    let l := (if full then overwrite p.entries else p.entries) ++ [e]
    let s := s.setLog i { p with entries := l, queue := q, gap := false, begun := p.begun + 2560 }
    let s := if full then s.inc (match i with | .host => Obj.HostLogStatus.hostOverwritten | .field => Obj.FieldLogStatus.fieldOverwritten) else s
    let s := s.showLog i
    let s := if i = .field then s.mirrorEntries [e] else s
    let m := s.nat Obj.FaultControl.faultNMask
    if bit m e.cls ∨ (e.code = Ev.escalationHeld.1 ∧ bit m 4) ∨ e.code = Ev.handlerOverrun.1 ∨ e.code = Ev.powerCycleRequested.1
    then s.latchFault else s

/-- A part is emptied; the entry that follows carries Gap (R511). -/
def State.clearLog (s : State) (i : Side) : State := (s.setLog i { s.log i with entries := [], gap := true }).showLog i

/-- A write of `LogClear`. -/
def wrLogClear (v : Val) (s : State) : State × Nat :=
  let s := if v.nat ≠ 2 then s.clearLog .host else s
  (if v.nat ≠ 1 then s.clearLog .field else s, 0)

/-- A record as the log holds it (R344, R510). -/
def EventRec.entry (e : EventRec) : Bytes :=
  let b := e.bytes false
  b.take 15 ++ leBytes 1 e.flags ++ b.drop 16

/-! ### Failure of the fault machinery (R518) -/

/-- The last entry queued goes ahead of every other. -/
def lastFirst (l : List EventRec) : List EventRec :=
  match l.getLast? with
  | some e => e :: l.dropLast
  | none => []

/-- The fault machinery of an island fails (R518). -/
def State.machineryFails (s : State) (i : Side) : State :=
  if s.flag Obj.FaultControl.overrunLatched then
    (s.setLog i { s.log i with overflow := false }).inc Obj.FaultControl.overruns
  else
    let e := { s.mkEvent i Ev.handlerOverrun 0 none [] with seq := s.nextSeq i }
    let s := s.raise i Ev.handlerOverrun
    let q := (s.log i).queue
    let q := if (q.getLast?.map (fun x => (x.code, x.seq))) = some (e.code, e.seq) then lastFirst q else e :: q
    let s := s.setLog i { s.log i with queue := q, overflow := false }
    let s := s.setF Obj.FaultControl.overrunLatched true
    let s := (s.setFlt (match i with | .host => { s.flt with hostOverrun := true } | .field => { s.flt with fieldOverrun := true })).latchFault
    match i with
    | .field => s.autoHold 5
    | .host =>
      let s := (s.setN Obj.PowerControl.powerRequest 1).setN Obj.PowerControl.holdCause 5
      s.toField 0x0A (leBytes 1 2 ++ leBytes 1 1 ++ leBytes 2 0 ++ leBytes 4 s.span.counts ++ leBytes 4 0)

/-- A write of `FaultAck` (R519): refused while a power-cycle request stands. FAULT_N stays while R436 holds it. -/
def wrFaultAck (s : State) : State × Nat :=
  if s.flt.powerCycle then (s, 0x03010002)
  else
    let s := (s.setFlt { s.flt with latched := false, hostOverrun := false, fieldOverrun := false }).setF Obj.FaultControl.overrunLatched false
    ((s.driveFaultN (s.rst.recovery || s.rst.fieldStep != 10)).ev Ev.faultAcknowledged, 0)

/-- A power-cycle request (R520). -/
def State.askPowerCycle (s : State) : State :=
  let s := s.ev Ev.powerCycleRequested
  let s := s.mirrorEntries (s.flt.fieldLog.entries.filter (fun e => !s.flt.mirror.contains (some e)))
  ((s.setFlt { s.flt with powerCycle := true }).autoHold 6).latchFault

/-- A write of `PowerCycleRequest`. -/
def wrPowerCycle (s : State) : State × Nat := (s.askPowerCycle, 0)

/-! ### The ladder (R514-R517) -/

/-- The function reset of an instance (R515 step 2); none for a subsystem without one. -/
def State.functionReset (s : State) (subsys inst : Nat) : State :=
  match subsys with
  | 0x42 => (wrPierReset inst s).1
  | 0x51 => (wrEngineReset inst s).1
  | 0x60 => (wrCameraReset inst s).1
  | 0x71 => (wrChannelReset inst s).1
  | 0x13 => (wrSessionClose inst s).1
  | _ => s

/-- The queued entries of an island's other instances carry Absorbed (R516). -/
def State.absorb (s : State) (i : Side) (subsys inst : Nat) : State :=
  let p := s.log i
  s.setLog i { p with queue := p.queue.map (fun e =>
    if 2 ≤ e.cls ∧ ¬(e.code / 256 = subsys ∧ e.inst = inst) then { e with flags := setBit e.flags 3 true } else e) }

/-- Step 4 of an instance parks its island: the handling of the other instances there ends, and their entries carry Absorbed (R516). -/
def State.parkOthers (s : State) (e : EventRec) : State :=
  let s := s.absorb e.side (e.code / 256) e.inst
  s.setHandling (s.flt.handling.filter (fun h => !(h.side == e.side && !(h.subsys == e.code / 256 && h.inst == e.inst))))

/-- One ERROR or FATAL event's step is carried out (R515): an escalated event takes the step that it moved its instance to. -/
def State.takeStep (s : State) (e : EventRec) : State :=
  if !bit e.flags 2 then s
  else match e.flags / 256 with
    | 2 => s.functionReset (e.code / 256) e.inst
    | 3 => (s.absorb e.side (e.code / 256) e.inst).assertReset e.side 5 2 (some (s.now + 1000000))
    | 4 => (s.parkOthers e).askPowerCycle
    | _ => s

/-- The place of an event among those of one control cycle (R516): by priority, then by instance. -/
def stepRank (e : EventRec) : Nat := (subsysRow (e.code / 256)).1 * 65536 + e.inst

/-- An event put before the first of a greater rank. -/
def rankIns (e : EventRec) : List EventRec → List EventRec
  | [] => [e]
  | x :: r => if stepRank e < stepRank x then e :: x :: r else x :: rankIns e r

/-- The steps of the events raised since the last control cycle (R516): priority by priority, within one subsystem by instance. -/
def State.runSteps (s : State) : State :=
  let l := s.flt.todo.foldl (fun l e => rankIns e l) []
  l.foldl (fun s e => if s.flt.handling.any (fun h => h.side == e.side && h.subsys == e.code / 256 && h.inst == e.inst) then s.takeStep e else s)
    (s.setFlt { s.flt with todo := [] })

/-- The block reset of an instance is still under way. -/
def State.stepPending (s : State) (subsys inst : Nat) : Bool :=
  match subsys with
  | 0x42 => s.waits .pier inst
  | 0x51 => s.waits .engine inst
  | 0x60 => s.waits .camera inst
  | 0x71 => s.waits .channel inst
  | 0x13 => s.waits .ring inst
  | _ => false

/-- The handling of an instance ends once `QuietTime` has passed since its last error and its step has completed (R514). -/
def State.quietDown (s : State) (subsys inst : Nat) : State :=
  let quiet := s.nat Obj.FaultControl.quietTime * ms
  s.setHandling (s.flt.handling.filter (fun h =>
    !(h.subsys == subsys && h.inst == inst && decide (h.last + quiet ≤ s.now) && !s.stepPending subsys inst)))

end Sys2Proof.Machine
end

