-- ==== Sys2Proof/Machine/Security.lean ====
section
/-! DEFINITION. Lifecycle, debug unlock, anti-rollback and firmware slots (R494-R506). -/

namespace Sys2Proof.Machine

/-! ### Lifecycle (R495) -/

/-- Whether a caller may advance the lifecycle to a target. -/
def State.mayAdvance (s : State) (a : Caller) (target : Nat) : Bool :=
  let vendor := a.role == .v && s.issuer a.sess == 0
  let owner := (a.role == .s || a.role == .v) && s.issuer a.sess == 1
  match target with
  | 1 => s.lifecycle == 0 && (s.byt Obj.Security.ownerKeyHash).length == 48 && vendor
  | 2 => s.lifecycle == 1 && owner
  | 3 => s.lifecycle == 2 && vendor && s.ownerGrant
  | 4 => decide (s.lifecycle < 4) && (vendor || (a.role == .s && s.issuer a.sess == 1))
  | _ => false

/-- A write of `LifecycleAdvance`: the fuses of the target state are blown. One transition runs at a time (log entry 80). -/
def wrAdvance (a : Caller) (v : Val) (s : State) : State × Nat :=
  if s.sec.advance.isSome ∨ !s.mayAdvance a v.nat then (s, 0x05010001)
  else ({ s with sec := { s.sec with advance := some v.nat } }, 0)

/-- An access to `LifecycleAdvance`. -/
def advance (t : Nat) (a : Caller) (v : Bytes) (s : State) : Host.Outcome State Fault Refusal :=
  access t s (fun s => s.write a Obj.Security.lifecycleAdvance v (wrAdvance a))

/-- `LIFECYCLE_PROVISIONED` (R495). -/
def execLifecycleProvisioned (t : Nat) (a : Caller) (v : Bytes) (s : State) : Host.Outcome State Fault Refusal := advance t a v s
/-- `LIFECYCLE_FIELD` (R495). -/
def execLifecycleField (t : Nat) (a : Caller) (v : Bytes) (s : State) : Host.Outcome State Fault Refusal := advance t a v s
/-- `LIFECYCLE_RETURN` (R495). -/
def execLifecycleReturn (t : Nat) (a : Caller) (v : Bytes) (s : State) : Host.Outcome State Fault Refusal := advance t a v s
/-- `LIFECYCLE_SCRAPPED` (R495). -/
def execLifecycleScrapped (t : Nat) (a : Caller) (v : Bytes) (s : State) : Host.Outcome State Fault Refusal := advance t a v s

/-- The header of a Renvos copy erased: erased flash reads 0xFF. -/
def eraseHeader (b : Bytes) : Bytes := if b.isEmpty then [] else List.replicate (min 64 b.length) 0xFF#8 ++ b.drop 64

/-- `LIFECYCLE_FUSES_BLOWN` (R495): the state takes effect; the debug level falls to NONE, sessions it does not permit close, RETURN erases both
image headers and enters HOLD, SCRAPPED enters HOLD and closes every session. -/
def execLifecycleFusesBlown (t : Nat) (s : State) : Host.Outcome State Fault Refusal :=
  hostCmd t s (fun s =>
    match s.sec.advance with
    | none => s
    | some n =>
      let s := State.setN { s with sec := { s.sec with advance := none, halted := false } } Obj.Security.lifecycle n
      let s := s.endGrant.closeUnadmitted
      let s : State := if n = 3 then { s with flash := { s.flash with copyA := eraseHeader s.flash.copyA, copyB := eraseHeader s.flash.copyB } } else s
      let s := if n = 4 then s.openSessions.foldl (fun s i => s.closeContext i 4) s else s
      if 3 ≤ n then s.autoHold 4 else s)

/-! ### Debug (R503, R505) -/

/-- Free bytes (log entry 6). -/
def State.freshBytes (s : State) (n : Nat) : Bytes × State :=
  ((List.range n).map (fun i => BitVec.ofNat 8 (Config.freeNat (s.free + i))), { s with free := s.free + n })

/-- A challenge is issued; it voids the one before. -/
def State.challenge (s : State) : Bytes × State :=
  let (nonce, s) := s.freshBytes 32
  let b : Bytes := nonce ++ leBytes 8 s.ident.uniqueId ++ leBytes 1 s.lifecycle ++ leBytes 3 0 ++ leBytes 4 s.sec.seq
  (b, { s with sec := { s.sec with challenge := some (b, s.now), seq := s.sec.seq + 1 } })

/-- In SCRAPPED, once a reset has stopped the host island in its boot ROM, only boundary scan answers (R504). -/
def State.scrapped (s : State) : Bool := s.lifecycle == 4 && !s.rst.host.run

/-- The path of JTAG, as the session number of its answers (log entry 3). -/
def jtagPath : Nat := 256

/-- `DEBUG_CHALLENGE` (R503): a read of `DebugChallenge`, by a session or through JTAG. -/
def execDebugChallenge (t : Nat) (a : Caller) (jtag : Bool) (s : State) : Host.Outcome State Fault Refusal :=
  if jtag then hostCmd t s (fun s => if s.scrapped then s else let (b, s) := s.challenge; s.emit (.reply jtagPath 0 b))
  else access t s (fun s =>
    let c := s.permit a.role Obj.Debug.debugChallenge false
    if c ≠ 0 then s.answer a.sess c
    else let (b, s) := s.challenge; s.answer a.sess 0 (readBody 17 b))

/-- Whether a signer may unlock a level in a lifecycle state (R503). -/
def signerOk (lc level signer : Nat) : Bool :=
  match lc, level with
  | 0, 2 => signer == 0
  | 1, 2 | 2, 1 | 2, 2 => decide (signer ≤ 1)
  | 3, 1 | 3, 2 => signer == 0
  | _, _ => false

/-- OBSERVE opens without an unlock in this lifecycle state (R503). -/
def openObserve (lc level : Nat) : Bool := decide (lc ≤ 1) && level == 1

/-- A response answers the challenge in force with a valid signature (R503). -/
def State.responseOk (s : State) (v : Bytes) : Bool :=
  let level := fld v 0 1; let signer := fld v 1 1
  v.length == 112 && (openObserve s.lifecycle level ||
    (signerOk s.lifecycle level signer && fld v 2 2 == 0 && fld v 12 4 == 0
      && (match s.sec.challenge, s.issuerKey signer with
          | some (c, at_), some k => decide (s.now ≤ at_ + 60 * oneSec) && fld v 8 4 == fld c 44 4
              && Config.ecdsaVerify k (Config.sha384 (c ++ v.take 16)) (sub v 16 96)
          | _, _ => false)))

/-- FULL is refused in STANDBY and on the way to STANDBY or OFF (R504, R505). -/
def State.fullBarred (s : State) : Bool :=
  let st := s.nat Obj.PowerControl.powerState; let rq := s.nat Obj.PowerControl.powerRequest
  st == 2 || (decide (st ≤ 1) && (rq == 2 || rq == 3))

/-- The grant is made to a path: holder 1 JTAG, 2 session (R503). FULL in FIELD while in RUN enters HOLD first (R505). -/
def State.grant (s : State) (level signer dur holder sess : Nat) : State :=
  let was := s.ownerGrant
  let s := if level = 2 ∧ s.lifecycle = 2 then s.autoHold 4 else s
  let s := ((s.setN Obj.Debug.level level).setN Obj.Debug.holder holder).setN Obj.Debug.holderSession sess
  let s := s.setN Obj.Debug.grantRemaining (if dur = 0 then 0xFFFFFFFF else dur : Nat)
  let s : State := { s with sec := { s.sec with signer := signer, grantEnd := if dur = 0 then none else some (s.now + dur * oneSec) } }
  if was && !s.ownerGrant then s.closeUnadmitted else s

/-- A response is judged: the next state and the abort. A grant that opens without unlock lasts until locked. -/
def State.unlock (s : State) (holder sess : Nat) (v : Bytes) : State × Nat :=
  let level := fld v 0 1
  if 8 ≤ s.nat Obj.Debug.failedUnlocks then (s, 0x05010001)
  else if !s.responseOk v then (s.setN Obj.Debug.failedUnlocks (s.nat Obj.Debug.failedUnlocks + 1 : Nat), 0x05010001)
  else if level = 2 ∧ s.fullBarred then (s, 0x05010001)
  else if openObserve s.lifecycle level then (s.grant level 2 0 holder sess, 0)
  else (s.grant level (fld v 1 1) (fld v 4 4) holder sess, 0)

/-- `DEBUG_RESPONSE` (R503). A failed response counts although it is refused. -/
def execDebugResponse (t : Nat) (a : Caller) (v : Bytes) (jtag : Bool) (s : State) : Host.Outcome State Fault Refusal :=
  if jtag then hostCmd t s (fun s => if s.scrapped then s else let (s, c) := s.unlock 1 0xFFFF v; s.emit (.reply jtagPath c []))
  else access t s (fun s => s.writeKeep a Obj.Debug.debugResponse v (fun x s => s.unlock 2 a.sess x.byt))

/-- `DEBUG_LOCK` (R503). -/
def execDebugLock (t : Nat) (a : Caller) (v : Bytes) (s : State) : Host.Outcome State Fault Refusal :=
  access t s (fun s => s.write a Obj.Debug.debugLock v (fun _ s => (s.endGrant, 0)))

/-- `GRANT_EXPIRY` (R503): the grant's Duration has passed. -/
def execGrantExpiry (t : Nat) (s : State) : Host.Outcome State Fault Refusal :=
  hostCmd t s (fun s => match s.sec.grantEnd with
    | some e => if e ≤ s.now then s.endGrant else s
    | none => s)

/-! ### Firmware (R496-R499) -/

/-- The SecurityVersion of the image now running of a Kind. -/
def State.runningVersion (s : State) (kind : Nat) : Option Nat :=
  ([2 * kind, 2 * kind + 1].find? (fun k => s.flag (Obj.FirmwareSlot.inUse k))).map (fun k => s.nat (Obj.FirmwareSlot.securityVersion k))

/-- A write of `RollbackCommit` (R499). -/
def wrRollback (v : Val) (s : State) : State × Nat :=
  let kind := v.nat - 1
  match s.runningVersion kind with
  | some n => ((if s.rollback kind < n then
      (s.setN (if kind = 0 then Obj.Security.rollbackHost else Obj.Security.rollbackField) (min n 64 : Nat)).showSlots else s), 0)
  | none => (s, 0)

/-- `ROLLBACK_COMMIT` (R499). -/
def execRollbackCommit (t : Nat) (a : Caller) (v : Bytes) (s : State) : Host.Outcome State Fault Refusal :=
  access t s (fun s => s.write a Obj.Security.rollbackCommit v wrRollback)

/-- A write of a slot's `Image` (R499): refused while the slot is in use. -/
def wrSlot (k : Nat) (v : Val) (s : State) : State × Nat :=
  if s.flag (Obj.FirmwareSlot.inUse k) then (s, 0x0301000B)
  else (State.showSlot { s with flash := { s.flash with slots := smSet (fun _ => []) s.flash.slots k v.byt } } k, 0)

/-- `FIRMWARE_IMAGE_WRITE` (R499). -/
def execFirmwareImageWrite (t : Nat) (a : Caller) (slot : Nat) (v : Bytes) (s : State) : Host.Outcome State Fault Refusal :=
  access t s (fun s => s.write a (Obj.FirmwareSlot.image slot) v (wrSlot slot))

/-- The newest copy of the boot header: the one of the higher Sequence (R501, R350). -/
def Flash.header (f : Flash) : BootHeader := if f.headA.seq < f.headB.seq then f.headB else f.headA

/-- What the boot header holds is written to its other copy, under the next Sequence (R501). -/
def State.putHeader (s : State) : State :=
  let f := s.flash
  let c : BootHeader := { seq := f.header.seq + 1, vendor := s.nat Obj.Security.credentialFloorVendor, owner := s.nat Obj.Security.credentialFloorOwner
                          opened := s.flag Obj.Security.observerOpen }
  { s with flash := if f.headA.seq < f.headB.seq then { f with headA := c } else { f with headB := c } }

/-- A host boot takes them from the newest copy (R501). -/
def State.applyHeader (s : State) : State :=
  let c := s.flash.header
  ((s.setN Obj.Security.credentialFloorVendor c.vendor).setN Obj.Security.credentialFloorOwner c.owner).setF Obj.Security.observerOpen c.opened

/-- A write of a credential floor (R501): it only rises. -/
def wrFloor (key : Nat) (v : Val) (s : State) : State × Nat :=
  if v.nat < s.nat key then (s, 0x02010001) else ((s.setN key v.int).putHeader, 0)

/-- A write of `ObserverOpen` (R501). -/
def wrObserver (v : Val) (s : State) : State × Nat := ((s.setN Obj.Security.observerOpen v.int).putHeader, 0)

/-- A write of `OwnerKeyHash` (R506): in BLANK only. -/
def wrOwnerKey (v : Val) (s : State) : State × Nat := if s.lifecycle ≠ 0 then (s, 0x05010001) else (s.setB Obj.Security.ownerKeyHash v.byt, 0)

end Sys2Proof.Machine
end

