-- ==== Sys2Proof/Machine/WriteRules.lean ====
section
/-! DEFINITION. The rules of a write that its object's table gives: ranges that depend on the instance or the part, rules that relate objects
to one another, the states that bar a write, what a write takes with it, and the values of tables at their defaults (spec/02-23, object
tables). -/

namespace Sys2Proof.Machine

/-! ### Ranges of an instance -/

/-- The abort of a value outside the range that its instance or the part gives; 0 where it lies within (R14, R115, R165, R309, R378,
R410, R419, R467). -/
def State.instanceRange (s : State) (key : Nat) (x : Val) : Nat :=
  let ix := key / 256; let sub := key % 256; let v := x.int
  let bad : Bool := match within 0x1620 8 ix with
    | some u => (sub == 1 && decide (u < 4) && decide (1 < v)) || (sub == 3 && decide (4 ≤ u) && decide (v ≠ 0))
    | none =>
      (ix == 0x2300 && sub == 1 && decide (v ≠ 0))
        || (ix == 0x1304 && sub == 3 && decide (v ≠ 0))
        || (inRec 0x1300 4 ix && sub == 0x14 && decide (v ≠ 0))
        || (key == Obj.RegionMap.cameraRingSize && s.vision && decide (v = 0))
        || (inRec 0x4100 64 ix && sub == 3 && decide (v > (s.pool : Int) - 64))
        || (inRec 0x5210 4 ix && sub == 1 && decide (v % 8 ≠ 0))
        || (ix == 0x2008 && (sub == 1 || sub == 2) && decide (5 < v)) || (ix == 0x2009 && (sub == 1 || sub == 2) && decide (9 < v))
  if s.ringAbsent key x then 0x07010001 else if bad then 0x02010001 else 0

/-! ### Rules between objects -/

/-- Entries of a list of defective pixels ascend by (y, x), lie in the frame and have no reserved bit set (R255). -/
def pixelsOk (w h : Nat) : Option Nat → List Nat → Bool
  | _, [] => true
  | prev, e :: r =>
    let x := bits e 12 0; let y := bits e 25 13
    let at_ := y * 8192 + x
    decide (e < 2 ^ 26) && decide (x < w) && decide (y < h) && (match prev with | none => true | some p => decide (p < at_))
      && pixelsOk w h (some at_) r

/-- 32-bit words of a table. -/
def words32 (b : Bytes) : List Nat := (List.range (b.length / 4)).map (fun i => fld b (4 * i) 4)

/-- The rules that relate the subindexes of index `ix`, over a dictionary (R45, R54, R55, R75, R218, R237, R267, R284, R378, R410). -/
def relatedOk (d : Dict) (ix : Nat) : Bool :=
  if ix = 0x3000 then dnat d Obj.WebSource.checkSource != dnat d Obj.WebSource.primarySource + 1
  else if inRec 0x3010 2 ix then
    dnat d (Obj.EncoderConfig.decodeMode (ix - 0x3010)) != 3 || dnat d (Obj.EncoderConfig.validationMode (ix - 0x3010)) != 1
  else if ix = 0x3020 then
    let c := 2 ^ dnat d Obj.SpsConfig.crcBits
    decide (dnat d Obj.SpsConfig.positionBits ≤ dnat d Obj.SpsConfig.wordBits) && decide (dnat d Obj.SpsConfig.crcPoly < c)
      && decide (dnat d Obj.SpsConfig.crcInit < c)
  else if ix = 0x4320 then decide (dnat d Obj.FiringTiming.strobeSetup < dnat d Obj.FiringTiming.commitLead)
  else if ix = 0x1340 then decide (2 * dnat d Obj.Ngalis.heartbeatPeriod ≤ dnat d Obj.Ngalis.sessionTimeout)
  else if ix = 0x1630 then [0, 1].all (fun i => decide (2 * dnat d (Obj.TimeOutputs.width i) ≤ dnat d (Obj.TimeOutputs.period i)))
  else match within 0x4380 64 ix, within 0x4440 64 ix, within 0x6018 4 ix, within 0x6220 4 ix with
  | some h, _, _, _ =>
    decide (dnat d (Obj.HeadThermal.tset h) + 64 ≤ dnat d (Obj.HeadThermal.tsoft h))
      && decide (dnat d (Obj.HeadThermal.tsoft h) + 128 ≤ dnat d (Obj.HeadThermal.thard h))
  | _, some h, _, _ => decide (dnat d (Obj.HeadHealth.shortLimit h) < dnat d (Obj.HeadHealth.openLimit h))
  | _, _, some c, _ => decide (dnat d (Obj.TriggerConfig.windowMin c) < dnat d (Obj.TriggerConfig.windowMax c))
  | _, _, _, some k =>
    decide (dnat d (Obj.RegistrationLoop.refPlane k) ≠ k) && decide (dnum d (Obj.RegistrationLoop.alongMin k) ≤ dnum d (Obj.RegistrationLoop.alongMax k))
      && decide (dnum d (Obj.RegistrationLoop.acrossMin k) ≤ dnum d (Obj.RegistrationLoop.acrossMax k))
  | _, _, _, _ => true

/-- The rules of a write that look at objects of other indices: the heads of a closure (R100) and the temperature offset (R459, R467). -/
def otherOk (d : Dict) (key : Nat) : Bool :=
  match if key % 256 = 1 ∨ key % 256 = 2 then within 0x3110 16 (key / 256) else none with
  | some x => (List.range 64).all (fun h => !bit (dnat d (Obj.ClosureConfig.headMask x)) h || inPlane d (dnat d (Obj.ClosureConfig.plane x)) h)
  | none => match (List.range 64).find? (fun h => key == Obj.HeadCal.tempOffset h) with
    | some h => decide ((dnum d (Obj.HeadCal.tempOffset h)).natAbs ≤ dnat d Obj.CalLimits.tempOffsetLimit)
    | none => true

/-! ### States that bar a write -/

/-- Plane `k` is enabled. -/
def State.planeOn (s : State) (k : Nat) : Bool := decide (k < 4) && s.flag (Obj.PlaneConfig.enable k)

/-- The abort of a write that the present state bars; 0 where it may be made (R75, R100, R119, R196, R218, R265, R284, R493). -/
def State.barred (s : State) (key : Nat) (x : Val) : Nat :=
  let ix := key / 256; let sub := key % 256
  let all := (inRec 0x3010 2 ix && (sub == 1 || sub == 2)) || (inRec 0x3108 4 ix && sub == 1)
    || [Obj.FiringTiming.strobeSetup, Obj.FiringTiming.strobeWidth, Obj.FiringTiming.recordDepth, Obj.DuplexControl.pairSide].contains key
  let one := match within 0x3040 4 ix, within 0x4000 4 ix, within 0x4100 64 ix with
    | some k, _, _ => s.planeOn k
    | _, some k, _ => decide (2 ≤ sub ∧ sub ≤ 6) && s.planeOn k
    | _, _, some h => (s.planeOn (s.nat (Obj.HeadRecord.plane h)) || (sub == 1 && s.planeOn x.nat))
    | _, _, _ => false
  let closure := match within 0x3110 16 ix with | some c => s.sched.closures.any (fun p => p.1 == c) | none => false
  let pier := match within 0x4200 16 ix with | some p => sub == 1 && s.nat (Obj.PierConfig.service p) == 0 | none => false
  let port := match within 0x6000 4 ix, within 0x6018 4 ix with
    | some c, _ => ((decide (2 ≤ sub ∧ sub ≤ 7) || sub == 9)) && s.flag (Obj.CameraPort.enable c)
    | _, some c => sub == 1 && s.flag (Obj.CameraPort.enable c)
    | _, _ => false
  let runs := fun (k : Nat) => bit (s.nat Obj.AnalysisControl.renderActive) k
  let analysis := (key == Obj.AnalysisControl.renderSlack && [0, 1, 2, 3].any runs)
    || (inRec 0x6208 4 ix && decide (1 ≤ sub) && runs (sub - 1))
  if (all && s.anyPlane) || one || closure then 0x03010001
  else if pier then 0x03010003
  else if port then 0x03010005
  else if analysis then 0x03010006
  else 0

/-! ### Tables at their defaults -/

/-- Words of 16 bits. -/
def le16s (l : List Int) : Bytes := (l.map (leBytes 2)).flatten

/-- The value of a DOMAIN object that the dictionary does not list: the table that its default gives, zeros, or nothing (R120, R152, R160,
R218, R237, R256-R258, R262, R272, R275, R467). -/
def State.defaultTable (s : State) (key : Nat) : Bytes :=
  let ix := key / 256; let sub := key % 256
  let zeros := fun (n : Nat) => List.replicate n 0#8
  if inRec 0x4008 4 ix then le16s ((List.range 128).map (fun (t : Nat) => 128 * (128 - (t : Int))))
  else if inRec 0x5208 4 ix then le16s ((List.range 1024).map (fun (i : Nat) => ((16383 * i + 511 : Nat) : Int) / 1023))
  else if inRec 0x5220 4 ix then
    ((List.range 128).map (fun ty => le16s ((List.range 128).map (fun tx => ((defaultCell tx ty : Nat) : Int))))).flatten
  else if inRec 0x6110 4 ix then (List.replicate 8192 (leBytes 4 0x4000)).flatten
  else if inRec 0x6118 4 ix then
    let one := le16s ((List.range 1024).map (fun t => ((densityDefault t : Nat) : Int)))
    one ++ one ++ one
  else if inRec 0x6120 4 ix then le16s matrixDefault
  else if inRec 0x6130 4 ix then ((List.range 1024).map (fun t => leBytes 1 ((t / 4 : Nat) : Int))).flatten
  else match within 0x6210 4 ix with
  | some k =>
    if sub = 3 then le16s ((List.range 8).map (fun l => ((densityOf [] k l : Nat) : Int)))
    else if sub = 4 then le16s (kernelCells.map (fun c => ((kernelAt [] k c.1 c.2 : Nat) : Int)))
    else if sub = 6 then zeros (8 * s.pool) else []
  | none => match within 0x4480 64 ix with
    | some h => zeros (2 * s.nat (Obj.HeadRecord.nozzleCount h))
    | none =>
      if inRec 0x4340 64 ix ∧ sub = 5 then zeros 104
      else if inRec 0x7008 4 ix ∧ sub = 11 then zeros 20
      else if key = Obj.Ageing.roShift then zeros 32
      else if key = Obj.Ageing.pathMargin then zeros 8
      else []

/-- A value as the dictionary holds it: a table that equals its default is not listed. -/
def State.normal (s : State) (key : Nat) (v : Val) : Val :=
  match v with
  | .num n => .num n
  | .bytes b => if b = s.defaultTable key then .bytes [] else .bytes b

/-! ### What a write takes with it -/

/-- The levels that the GPIO outputs drive: an open-drain output drives only low. -/
def State.driveGpio (s : State) (was : State) : State :=
  (List.range 16).foldl (fun s n =>
    let level := fun (s : State) =>
      if bit (s.nat Obj.Gpio.direction) n then
        if bit (s.nat Obj.Gpio.output) n then (if bit (s.nat Obj.Gpio.openDrain) n then none else some true) else some false
      else none
    match level s with
    | some l => if level was = some l then s else s.pin (.gpio n) l
    | none => s) s

/-- The effects that go with the new value of an object, beyond the value (R51, R52, R63, R65, R73, R75, R120, R195, R209, R217, R241, R269, R378, R395, R409, R533, R540). -/
def State.afterWrite (s : State) (key : Nat) (was : State) : State :=
  let ix := key / 256; let sub := key % 256
  if key = Obj.WebSource.checkSource then s.checkReference
  else if inRec 0x3010 2 ix ∧ sub = 5 then s.modeArms (ix - 0x3010)
  else if inRec 0x3010 2 ix ∧ sub = 6 then s.endPulse (ix - 0x3010)
  else if key = Obj.SpsConfig.enable then s.spsOff
  else if key = Obj.PositionCertainty.uncertainPolicy then s.dropPredictions
  else if ix = 0x3050 then s.overspeed
  else if inRec 0x3040 4 ix then s.refreshGeometry.headStates
  else if (inRec 0x3108 4 ix ∨ inRec 0x4200 16 ix) ∧ sub = 1 then s.refreshGeometry.headStates
  else if inRec 0x4000 4 ix then
    let s := if sub = 5 then s.setN (Obj.PlaneRender.columnsPerInsp (ix - 0x4000)) (colsPerInsp s.dict (ix - 0x4000)) else s
    s.refreshGeometry.headStates
  else if inRec 0x4100 64 ix then s.refreshGeometry.headStates
  else if ix = 0x4320 then
    let s := if sub = 5 then
      { s with heads := smMap (fun _ => Head.init) (fun h => { h with record := h.record.drop (h.record.length - s.nat Obj.FiringTiming.recordDepth), fresh := min h.fresh (s.nat Obj.FiringTiming.recordDepth) }) s.heads }
      else s
    s.refreshGeometry.headStates
  else if inRec 0x4380 64 ix ∧ sub = 1 then
    let h := ix - 0x4380
    if was.nat key ≠ 0 ∧ s.nat key = 0 ∧ s.portUp h then
      (s.setN (Obj.HeadThermal.lastPulseCount h) 0).sendCtrl h (warmBlock 0 (s.nat (Obj.HeadThermal.warmEnergy h)))
    else s
  else if inRec 0x6018 4 ix ∧ sub = 1 then
    if was.val key = s.val key then s else s.driveTrig (ix - 0x6018) false
  else if inRec 0x1300 5 ix then s.portDown (ix - 0x1300)
  else if key = Obj.SpanControl.lossTimeout then
    s.toField 0x0A (leBytes 1 4 ++ leBytes 3 0 ++ leBytes 4 s.span.counts ++ leBytes 4 (s.num key))
  else if key = Obj.TimeOutputs.ppsEnable then { s with tim := { s.tim with ppsLast := some (s.tim.master.ns / 1000000000 * 1000000000) } }
  else if key = Obj.PtpServo.servoMode then s.setN Obj.PtpServo.portState (s.num key)
  else if ix = 0x1630 ∧ 3 ≤ sub then s.armOutput (if sub ≤ 6 then 0 else 1)
  else if ix = 0x2210 then s.driveGpio was
  else s

/-! ### The shared effect of a plain write -/

/-- A write of an RW object with no effect of its own: its ranges, rules and states, then the value and what goes with it. While an image
loads, the rules between subindexes wait for the index's last entry (R351). -/
def wrPlain (loading : Bool) (key : Nat) (x : Val) (s : State) : State × Nat :=
  let r := s.instanceRange key x
  let d := smSet objDefault s.dict key x
  if r ≠ 0 then (s, r)
  else if !loading && !relatedOk d (key / 256) then (s, 0x02010001)
  else if !otherOk d key then (s, 0x02010001)
  else if s.barred key x ≠ 0 then (s, s.barred key x)
  else ((s.setVal key (s.normal key x)).afterWrite key s, 0)

end Sys2Proof.Machine
end

