-- ==== Sys2Proof/Machine/ImageOps.lean ====
section
/-! DEFINITION. The Renvos configuration image: its bytes, the selection of a copy, and a save (R346-R350). -/

namespace Sys2Proof.Machine

/-! ### What an image holds (R347, R348) -/

/-- A run-state object (R348). -/
def runState (key : Nat) : Bool :=
  let ix := key / 256; let sub := key % 256
  (inRec 0x4000 4 ix && sub == 1) || (inRec 0x4100 64 ix && sub == 0x0A) || (inRec 0x4200 16 ix && sub == 5) || (inRec 0x6000 4 ix && sub == 1)
    || key == Obj.AnalysisControl.planeMask || key == Obj.Overspeed.webSlowForce

/-- An index whose objects no image holds (R348, R417). -/
def unsavedIndex (ix : Nat) : Bool :=
  inRec 0x1100 0x200 ix || inRec 0x1600 0x100 ix || inRec 0x9000 0x100 ix || decide (0xF000 ≤ ix) || ix == 0x2010 || ix == 0x2011

/-- The value is the default that the object takes after start-up (R309, R430). -/
def State.startDefault (s : State) (key : Nat) (v : Val) : Bool :=
  (inRec 0x2002 4 (key / 256) && v == .num 1)
    || ((key == Obj.RegionMap.cameraRingSize || key == Obj.RegionMap.previewRingSize) && !s.vision && v == .num 0)

/-- A value that a save records: of a writable object that keeps its value, and other than its default. -/
def State.saves (s : State) (p : Nat × Val) : Bool :=
  (match descOf p.1 with
    | some d => decide (d.acc = .rw ∨ d.acc = .rws ∨ d.acc = .rwl)
    | none => false)
  && !unsavedIndex (p.1 / 256) && !runState p.1 && !s.absent p.1 && !s.startDefault p.1 p.2

/-- The nozzle table as `NozzleWrite` entries of 64 blocks of 64 channels: those that hold an entry other than the default. -/
def State.nozzleEntries (s : State) : Bytes :=
  ((List.range (cdiv s.pool 4096)).map (fun g =>
    let first := 4096 * g
    if s.screen.ntab.any (fun e => decide (first ≤ e.1 ∧ e.1 < first + 4096)) then
      let n := min 4096 (s.pool - first)
      entryBytes Obj.NozzleTable.nozzleWrite (.bytes (leBytes 4 first ++ leBytes 4 0
        ++ ((List.range n).map (fun i => leBytes 8 ((nzEntry s.screen.ntab (first + i) : Nat) : Int))).flatten))
    else [])).flatten

/-- A manual defect entry as `DefectWrite` takes it (R233). -/
def Defect.written (e : Defect) : Bytes :=
  leBytes 4 e.chan ++ leBytes 1 6 ++ leBytes 1 2 ++ leBytes 1 (if e.forced then (e.method : Int) else 0)
    ++ leBytes 1 ((16 * e.manual + (if e.forced then 64 else 0) : Nat) : Int) ++ leBytes 8 0

/-- The manual defect entries as `DefectWrite` entries. -/
def State.defectEntries (s : State) : Bytes :=
  let l := (s.health.table.filter (fun e => e.source == 2)).map Defect.written
  ((chunks 256 l.length l).map (fun c => entryBytes Obj.DefectEdit.defectWrite (.bytes c.flatten))).flatten

/-- The entry area and the number of its entries. -/
def State.entryArea (s : State) : Bytes × Nat :=
  let l := (s.dict.filter s.saves).map (fun p => entryBytes p.1 p.2)
  let nz := s.nozzleEntries; let df := s.defectEntries
  let parts := l ++ [nz, df]
  let nzN := ((List.range (cdiv s.pool 4096)).filter (fun g =>
    s.screen.ntab.any (fun e => decide (4096 * g ≤ e.1 ∧ e.1 < 4096 * g + 4096)))).length
  (parts.flatten, l.length + nzN + cdiv (s.health.table.filter (fun e => e.source == 2)).length 256)

/-! ### Copies (R346, R350) -/

/-- The bytes of copy 1 (A) or 2 (B). -/
def Flash.copy (f : Flash) (c : Nat) : Bytes := if c = 1 then f.copyA else f.copyB

/-- A copy's bytes replaced. -/
def Flash.setCopy (f : Flash) (c : Nat) (b : Bytes) : Flash := if c = 1 then { f with copyA := b } else { f with copyB := b }

/-- A copy is valid (R350); its Signer's key verifies the signature. -/
def State.copyOk (s : State) (b : Bytes) : Bool :=
  let n := fld b 12 4
  fld b 0 4 == 0x56525A41 && fld b 4 2 == 1 && fld b 6 2 == 64 && fld b 60 4 == crc32 (b.take 60) && decide (160 + n ≤ b.length)
    && fld b 56 4 == crc32 (sub b 64 n) && decide (fld b 8 4 ≤ 0xFFFFFFFE)
    && (match fld b 22 1 with
        | 0 => Config.ecdsaVerify (Config.partBytes Obj.Security.deviceKey) (Config.sha384 (b.take (64 + n))) (sub b (64 + n) 96)
        | 1 => (match s.issuerKey 1 with
                | some k => Config.ecdsaVerify k (Config.sha384 (b.take (64 + n))) (sub b (64 + n) 96)
                | none => false)
        | _ => false)

/-- The selected copy (R350): 1 A, 2 B, 0 none. -/
def State.selectCopy (s : State) : Nat :=
  let a := s.flash.copyA; let b := s.flash.copyB
  match s.copyOk a, s.copyOk b with
  | true, true => if fld b 8 4 ≤ fld a 8 4 then 1 else 2
  | true, false => 1
  | false, true => 2
  | false, false => 0

/-- `CopyAValid` and its siblings follow the flash, at a start or a save (R352). -/
def State.showCopies (s : State) : State :=
  let one := fun (s : State) (c kv ks : Nat) =>
    let ok := s.copyOk (s.flash.copy c)
    (s.setF kv ok).setN ks (if ok then (fld (s.flash.copy c) 8 4 : Nat) else (0 : Nat))
  one (one s 1 Obj.ImageStatus.copyAValid Obj.ImageStatus.copyASequence) 2 Obj.ImageStatus.copyBValid Obj.ImageStatus.copyBSequence

/-- An image with a Sequence (R346), signed by the device key. -/
def State.image (s : State) (seq : Nat) : Bytes :=
  let (area, count) := s.entryArea
  let h := leBytes 4 0x56525A41 ++ leBytes 2 1 ++ leBytes 2 64 ++ leBytes 4 seq ++ leBytes 4 area.length ++ leBytes 4 count
    ++ leBytes 2 (s.num Obj.Identity.variantCode) ++ leBytes 1 0 ++ leBytes 1 0 ++ leBytes 8 s.ident.uniqueId ++ time80Bytes s.tim.master.ns
    ++ List.replicate 14 0#8 ++ leBytes 4 (crc32 area)
  let h := h ++ leBytes 4 (crc32 h)
  h ++ area ++ (Config.ecdsaSign 0 (Config.sha384 (h ++ area)) ++ List.replicate 96 0#8).take 96

/-- A write of `ImageSave` (R349, R448): the copy that is not selected is erased and the image is on its way to it. -/
def wrImageSave (s : State) : State × Nat :=
  let sel := s.selectCopy
  let seq := fld (s.flash.copy sel) 8 4
  if sel ≠ 0 ∧ seq = 0xFFFFFFFE then (s, 0x02010001)
  else if s.rst.recovery then (s, 0x03030002)
  else if s.flash.saving.isSome then (s, 0x0301000B)
  else
    let b := s.image (if sel = 0 then 0 else seq + 1)
    if 2 ^ 22 < b.length then (s, 0x06010008)
    else
      let c := if sel = 1 then 2 else 1
      (({ s with flash := { s.flash.setCopy c [] with saving := some (c, b) } }).setN Obj.ImageControl.saveState 1, 0)

/-- A write of `ImageInvalidate` (R352). -/
def wrInvalidate (x : Val) (s : State) : State × Nat :=
  if s.flash.saving.isSome then (s, 0x0301000B)
  else ({ s with flash := s.flash.setCopy x.nat (eraseHeader (s.flash.copy x.nat)) }, 0)

end Sys2Proof.Machine
end

