-- ==== Sys2Proof/Machine/Time.lean ====
section
/-! DEFINITION. The commands of the time bases, the captures and the time outputs (spec/17). -/

namespace Sys2Proof.Machine

/-! ### The master (R397, R398, R403) -/

/-- A write of the master's time base, refused under servo control (R403). -/
def servoFree (f : State → State) (s : State) : State × Nat := guard (s.nat Obj.PtpServo.servoMode != 1) 0x0301000D f s

/-- A write of `Increment` (R397). -/
def wrIncrement (v : Val) (s : State) : State × Nat :=
  servoFree (fun s => { s.setN Obj.MasterTime.increment v.int with tim := { s.tim with master := { s.tim.master with inc := v.int } } }) s

/-- A write of `OffsetAdjust` (R398). -/
def wrOffset (v : Val) (s : State) : State × Nat := servoFree (fun s => s.stepMaster (v.int * 2 ^ 32)) s

/-- A write of `TimeSet` (R398): Seconds and Nanoseconds are loaded and Fraction is cleared. -/
def wrTimeSet (v : Val) (s : State) : State × Nat := servoFree (fun s => s.stepMaster (v.int * 2 ^ 32 - s.tim.master.val)) s

/-- `INCREMENT_WRITE` (R397). -/
def execIncrementWrite (t : Nat) (a : Caller) (v : Bytes) (s : State) : Host.Outcome State Fault Refusal :=
  access t s (fun s => s.write a Obj.MasterTime.increment v wrIncrement)

/-- `OFFSET_ADJUST` (R398). -/
def execOffsetAdjust (t : Nat) (a : Caller) (v : Bytes) (s : State) : Host.Outcome State Fault Refusal :=
  access t s (fun s => s.write a Obj.MasterTime.offsetAdjust v wrOffset)

/-- `TIME_SET` (R398). -/
def execTimeSet (t : Nat) (a : Caller) (v : Bytes) (s : State) : Host.Outcome State Fault Refusal :=
  access t s (fun s => s.write a Obj.MasterTime.timeSet v wrTimeSet)

/-! ### The slave (R404, R405) -/

/-- `TIME` (R404). -/
def execTime (t : Nat) (body : Bytes) (s : State) : Host.Outcome State Fault Refusal :=
  fieldCmd t s (fun s => s.takeF 0x04 body (fun s => s.time body))

/-- `TIME_HOLDOVER` (R405): no TIME for 3 ms while the slave is being aligned. -/
def execTimeHoldover (t : Nat) (s : State) : Host.Outcome State Fault Refusal :=
  fieldCmd t s (fun s =>
    let st := s.nat Obj.SlaveTime.state
    match s.tim.lastTime with
    | some a => if (st = 1 ∨ st = 2) ∧ a + 3 * ms ≤ s.now then
        { s with tim := { s.tim with inBand := 0, outBand := 0 } }.slaveState 3 else s
    | none => s)

/-! ### IEEE 1588 (R401-R403) -/

/-- The servo's sample of the offset from its master (R403): beyond 100 µs the master time base steps, otherwise `Increment` is adjusted to
a value that the spec does not give (log entry 6). -/
def State.ptpSample (s : State) (off : Int) : State :=
  let s := (s.setN Obj.PtpServo.offsetFromMaster off)
  if off.natAbs > 100000 then (s.stepMaster (-off * 2 ^ 32)).setN Obj.PtpServo.portState 2
  else
    let (n, s) := s.fresh
    let inc : Int := 17162689315 + ((n % 34359739 : Nat) : Int)
    let s := { s.setN Obj.MasterTime.increment inc with tim := { s.tim with master := { s.tim.master with inc := inc } } }
    (s.setN Obj.PtpServo.portState 3).trustTime

/-- The firmware clock takes an event message of its port (IEEE 1588-2019; log entry 61): kind 0 Sync, 1 Delay_Req, 2 Pdelay_Req, 3
Pdelay_Resp; `origin` is the sender's time for a Sync, the receiver's time that answers a Delay_Req, and the turnaround for a
Pdelay_Resp. -/
def State.ptpClock (s : State) (m : PtpMessage) (st : Int) : State :=
  let x := s.tim.ptp
  match m.kind, m.transmit with
  | 0, false =>
    let s := { s with tim := { s.tim with ptp := [m.origin + m.correction, st, x.getD 2 0] } }
    s.ptpSample (st - m.origin - m.correction - s.num Obj.PtpServo.meanPathDelay)
  | 1, true =>
    if s.nat Obj.PtpServo.profile = 0 ∧ 2 ≤ x.length then
      s.setN Obj.PtpServo.meanPathDelay (freeDiv ((x.getD 1 0 - x.getD 0 0) + (m.origin - m.correction - st)) 2)
    else s
  | 2, true => { s with tim := { s.tim with ptp := [x.getD 0 0, x.getD 1 0, st] } }
  | 3, false =>
    if s.nat Obj.PtpServo.profile = 1 ∧ 3 ≤ x.length then
      s.setN Obj.PtpServo.meanPathDelay (freeDiv (st - x.getD 2 0 - m.origin - m.correction) 2)
    else s
  | _, _ => s

/-- `PTP_EVENT_MESSAGE` (R401): the stamp at the port's balls, of 1 ns, corrected for the external path; in one-step mode Sync takes the stamp and
Pdelay_Resp its turnaround as it leaves; otherwise the stamp goes to host firmware (R402). -/
def execPtpEventMessage (t port : Nat) (msg : PtpMessage) (s : State) : Host.Outcome State Fault Refusal :=
  access t s (fun s =>
    if !s.portOn port then s
    else
      let ball : Int := s.tim.master.fine s.now / 2 ^ 32
      let st : Int := if msg.transmit then ball + s.num (Obj.PtpPort.egressLatency port)
        else ball - s.num (Obj.PtpPort.ingressLatency port)
      let one := msg.transmit && s.nat (Obj.PtpPort.stepMode port) == 0
      let origin : Int := if one && msg.kind == 0 then st else msg.origin
      let corr : Int := if one && msg.kind == 3 then msg.correction + (st - msg.origin) else msg.correction
      let s := s.emit (.ptp port (leBytes 1 msg.kind ++ leBytes 1 (if msg.transmit then 1 else 0) ++ leBytes 2 msg.seq ++ time80Bytes origin
        ++ leBytes 8 corr ++ time80Bytes st))
      if s.nat Obj.PtpServo.servoMode = 1 ∧ s.nat Obj.PtpServo.ptpPort = port ∧ msg.domain = s.nat Obj.PtpServo.ptpDomain then s.ptpClock msg st else s)

/-! ### Captures (R408) -/

/-- `CAPTURE_EVENT` (R408): an edge on EVT_INu at a host unit. The events of units 4 to 7 are captured where they occur. -/
def execCaptureEvent (t u : Nat) (falling : Bool) (s : State) : Host.Outcome State Fault Refusal :=
  hostCmd t s (fun s =>
    let e := s.nat (Obj.Capture.edge u)
    if u < 4 ∧ s.nat (Obj.Capture.source u) = 1 ∧ (e = 2 ∨ (e = 1) = falling) then s.capture u falling (s.stamp .host) else s)

/-- A read of `Records` of a unit returns and removes every record held. -/
def State.takeRecords (s : State) (u : Nat) : State :=
  (s.setCap u { s.cap u with recs := [] }).setB (Obj.Capture.records u) []

/-- `CAPTURE_RECORDS_READ` (R408). -/
def execCaptureRecordsRead (t : Nat) (a : Caller) (u : Nat) (s : State) : Host.Outcome State Fault Refusal :=
  access t s (fun s =>
    let key := Obj.Capture.records u
    let c := s.permit a.role key false
    if c ≠ 0 then s.answer a.sess c
    else
      let b := s.byt key
      (s.takeRecords u).answer a.sess 0 (readBody 17 b))

/-! ### Time outputs (R409) -/

/-- `PPS_OUT` (R409): the master's Nanoseconds has passed 0. -/
def execPpsOut (t : Nat) (s : State) : Host.Outcome State Fault Refusal :=
  hostCmd t s (fun s =>
    let target := s.tim.master.ns / 1000000000 * 1000000000
    let new_ := match s.tim.ppsLast with | some p => decide (p < target) | none => true
    if s.flag Obj.TimeOutputs.ppsEnable && new_ then
      { s with tim := { s.tim with ppsHigh := true, ppsLast := some target } }.pin .ppsOut true
    else s)

/-- `EVT_OUT` (R409): output `n` reaches a target that has not fired. -/
def execEvtOut (t n : Nat) (s : State) : Host.Outcome State Fault Refusal :=
  hostCmd t s (fun s =>
    match evtTarget (s.nat (Obj.TimeOutputs.mode n)) (s.num (Obj.TimeOutputs.start n)) (s.num (Obj.TimeOutputs.period n)) s.tim.master.ns with
    | some target =>
      if n < 2 ∧ smGet (fun _ => (-1 : Int)) s.tim.evtLast n < target then
        { s with tim := { s.tim with evtHigh := s.tim.evtHigh.filter (· != n) ++ [n]
                                     evtLast := smSet (fun _ => (-1 : Int)) s.tim.evtLast n target } }.pin (.evtOut n) true
      else s
    | none => s)

/-- `TIME_OUTPUT_END` (R409): an output falls when the master reaches the end of its width: `n` 0 and 1 are EVT_OUT0 and EVT_OUT1, 2 is
PPS_OUT. -/
def execTimeOutputEnd (t n : Nat) (s : State) : Host.Outcome State Fault Refusal :=
  hostCmd t s (fun s =>
    if n = 2 then
      let end_ : Int := (s.tim.ppsLast.getD 0) + s.num Obj.TimeOutputs.ppsWidth
      if s.tim.ppsHigh ∧ end_ ≤ s.tim.master.ns then { s with tim := { s.tim with ppsHigh := false } }.pin .ppsOut false else s
    else
      let end_ : Int := smGet (fun _ => (-1 : Int)) s.tim.evtLast n + s.num (Obj.TimeOutputs.width n)
      if s.tim.evtHigh.contains n ∧ end_ ≤ s.tim.master.ns then
        { s with tim := { s.tim with evtHigh := s.tim.evtHigh.filter (· != n) } }.pin (.evtOut n) false
      else s)

end Sys2Proof.Machine
end

