-- ==== Sys2Proof/Machine/Writes.lean ====
section
/-! DEFINITION. The effect of a write to any object of the dictionary: the objects with an effect of their own, staging, and every other
object (R328, R335-R338). -/

namespace Sys2Proof.Machine

/-! ### Objects with an effect of their own -/

/-- Effects of the host island's objects. -/
def hostEffect (a : Caller) (key : Nat) (x : Val) (s : State) : Option (State × Nat) :=
  let ix := key / 256; let sub := key % 256
  if key = Obj.ImageControl.imageSave then some (wrImageSave s)
  else if key = Obj.ImageControl.imageInvalidate then some (wrInvalidate x s)
  else if inRec 0x1380 64 ix ∧ sub = 0x0C then some (wrRingReset a.sess (ix - 0x1380) s)
  else if inRec 0x1400 256 ix ∧ sub = 0x0E then some (wrSessionClose (ix - 0x1400) s)
  else if key = Obj.MasterTime.increment then some (wrIncrement x s)
  else if key = Obj.MasterTime.offsetAdjust then some (wrOffset x s)
  else if key = Obj.MasterTime.timeSet then some (wrTimeSet x s)
  else if inRec 0x2002 4 ix ∧ sub = 1 then some (wrSource (ix - 0x2002) x s)
  else if inRec 0x2008 2 ix ∧ sub = 4 then some (s.setF (Obj.Meter.busy (ix - 0x2008)) true, 0)
  else if key = Obj.HostGates.enable then some (wrHostGates x s)
  else if key = Obj.FieldGates.enable then some (wrFieldGates x s)
  else if key = Obj.PowerControl.powerRequest then some (wrPower x s)
  else if key = Obj.StartControl.confirmStart then some (wrConfirmStart s)
  else if key = Obj.Security.lifecycleAdvance then some (wrAdvance a x s)
  else if key = Obj.Security.ownerKeyHash then some (wrOwnerKey x s)
  else if key = Obj.Security.rollbackCommit then some (wrRollback x s)
  else if key = Obj.Security.credentialFloorVendor ∨ key = Obj.Security.credentialFloorOwner then some (wrFloor key x s)
  else if key = Obj.Security.observerOpen then some (wrObserver x s)
  else if key = Obj.Debug.debugResponse then some (s.unlock 2 a.sess x.byt)
  else if key = Obj.Debug.debugLock then some (s.endGrant, 0)
  else if inRec 0x9010 4 ix then some (wrSlot (ix - 0x9010) x s)
  else none

/-- Effects of the web, the schedule, the planes, the strips and screening. -/
def printEffect (a : Caller) (key : Nat) (x : Val) (s : State) : Option (State × Nat) :=
  let ix := key / 256; let sub := key % 256
  if key = Obj.WebSource.primarySource then some (wrPrimarySource x s)
  else if key = Obj.WebSource.checkReset then some (s.checkReference, 0)
  else if inRec 0x3010 2 ix ∧ sub = 0x0B then some (wrIndexArm (ix - 0x3010) s)
  else if inRec 0x3010 2 ix ∧ sub = 0x0C then some (wrCounterPreset (ix - 0x3010) x s)
  else if key = Obj.SpsConfig.loadFromSps then some (wrLoadFromSps s)
  else if key = Obj.PositionCertainty.uncertainClear then some (wrUncertainClear s)
  else if inRec 0x3040 4 ix ∧ sub = 2 then some (wrLineLoad (ix - 0x3040) x s)
  else if key = Obj.scheduleInsert then some (wrScheduleInsert x s)
  else if key = Obj.ScheduleCancel.cancelTag then some (s.cancel (fun e => e.tag == x.nat), 0)
  else if key = Obj.ScheduleCancel.cancelAll then some (s.cancel (fun _ => true), 0)
  else if inRec 0x4000 4 ix ∧ sub = 1 then some (wrEnable a.sess (ix - 0x4000) x s)
  else if key = Obj.PlaneCheck.checkPlane then some (wrCheckPlane x s)
  else if key = Obj.StripStore.flushJob then some (wrFlushJob x s)
  else if key = Obj.StripStore.flushOrphans then some (wrFlushOrphans s)
  else if inRec 0x5008 4 ix ∧ sub = 1 then some (wrPageAppend a.sess (ix - 0x5008) x s)
  else if inRec 0x5008 4 ix ∧ sub = 6 then some (wrPageAbort (ix - 0x5008) x s)
  else if inRec 0x5008 4 ix ∧ sub = 9 then some (wrResume (ix - 0x5008) s)
  else if inRec 0x5110 16 ix ∧ sub = 7 then some (wrEngineReset (ix - 0x5110) s)
  else if key = Obj.NozzleTable.nozzleWrite then some (wrNozzles x s)
  else none

/-- Effects of the piers, nozzle health, the cameras, compression, calibration, duplex and the faults. -/
def barEffect (a : Caller) (key : Nat) (x : Val) (s : State) : Option (State × Nat) :=
  let ix := key / 256; let sub := key % 256
  if inRec 0x4200 16 ix ∧ sub = 5 then some (wrService (ix - 0x4200) x s)
  else if inRec 0x4200 16 ix ∧ sub = 6 then some (wrPierReset (ix - 0x4200) s)
  else if key = Obj.DefectEdit.defectWrite then some (wrDefectWrite x s)
  else if key = Obj.DefectEdit.defectRemove then some (wrDefectRemove x s)
  else if key = Obj.DefectEdit.confirm then some (wrConfirm x s)
  else if inRec 0x4440 64 ix ∧ sub = 8 then some (wrSweepNow (ix - 0x4440) s)
  else if inRec 0x6000 4 ix ∧ sub = 1 then some (wrCameraEnable a.sess (ix - 0x6000) x s)
  else if inRec 0x6000 4 ix ∧ sub = 0x0A then some (wrCameraReset (ix - 0x6000) s)
  else if inRec 0x6010 4 ix ∧ sub = 1 then some (wrGeneration (ix - 0x6010) x s)
  else if key = Obj.CameraSelect.inLineCamera then some (wrInLine a.sess x s)
  else if key = Obj.AnalysisControl.planeMask then some (wrPlaneMask x s)
  else if key = Obj.CompressionControl.resume then some (wrResumeJob a.sess x s)
  else if key = Obj.CompressionControl.cancel then some (wrCancel a.sess x s)
  else if inRec 0x7110 8 ix ∧ sub = 1 then some (wrSubmit a.sess (ix - 0x7110) x s)
  else if inRec 0x7110 8 ix ∧ sub = 2 then some (wrChannelReset (ix - 0x7110) s)
  else if inRec 0x2300 6 ix ∧ sub = 2 then some (wrRunNow (ix - 0x2300) x s)
  else if key = Obj.Ageing.replanNow then some (wrReplanNow [] s)
  else if key = Obj.Dvfs.opTarget then some (wrOpTarget x s)
  else if key = Obj.DuplexControl.duplexMode then some (wrDuplexMode x s)
  else if key = Obj.DuplexControl.switchOver then some (wrSwitchOver s)
  else if key = Obj.DuplexControl.forceActive then some (wrForceActive s)
  else if key = Obj.FaultControl.faultAck then some (wrFaultAck s)
  else if key = Obj.FaultControl.powerCycleRequest then some (wrPowerCycle s)
  else if key = Obj.FaultControl.logClear then some (wrLogClear x s)
  else none

/-! ### Commit groups (R335-R339) -/

/-- A write of `Binding` (R335). -/
def wrBinding (g : Nat) (x : Val) (s : State) : State × Nat :=
  if (s.staged g).isEmpty then (s.setN (Obj.CommitGroup.binding g) x.int, 0) else (s, 0x0301000A)

/-- A write of `Discard` (R336). -/
def wrDiscard (g : Nat) (s : State) : State × Nat := (if (s.staged g).isEmpty then s else s.setStaged g [], 0)

/-- A write of `Commit` (R337): the check's abort refuses it. -/
def wrCommit (g : Nat) (s : State) : State × Nat :=
  let (s, _, c) := s.commit g (s.commitLine g)
  (s.headStates, c)

/-- The group that takes a staging write of an object (R336). -/
def State.groupFor (s : State) (staging key : Nat) : Nat :=
  if staging ≠ 0xFF then staging else (boundPlane s.dict key).getD 4

/-- `PlanePhase` in force and, where one is pending, pending. -/
def State.planePhases (s : State) (k : Nat) : List Int :=
  let key := Obj.PlaneConfig.planePhase k
  s.num key :: (s.sched.rwl.filter (fun w => w.key == key)).map (·.val)

/-- The checks at staging: `OffsetPhase` (R112), the list of defective pixels (R255) and `CompositeTarget` (R231). -/
def State.stageOk (s : State) (key : Nat) (x : Val) : Bool :=
  match within 0x4100 64 (key / 256), within 0x6108 4 (key / 256), (if key % 256 = 5 then within 0x4408 4 (key / 256) else none) with
  | some h, _, _ =>
    let k := s.nat (Obj.HeadRecord.plane h)
    decide (4 ≤ k) || !inUse s.dict h || (s.planePhases k).all (fun p =>
      let o := 1024 * s.num (Obj.HeadRecord.offsetLines h) + x.int + p
      decide (0 ≤ o ∧ o ≤ 16384 * 1024))
  | _, _, some k => decide (4 ≤ x.nat) || (x.nat != k && s.val (Obj.PlaneConfig.nozzlePitch x.nat) == s.val (Obj.PlaneConfig.nozzlePitch k))
  | _, some c, _ => pixelsOk (s.nat (Obj.CameraPort.width c)) (s.nat (Obj.CameraPort.height c)) none (words32 x.byt)
  | _, _, _ => true

/-- A checked value is staged in group `g` (R336): the next state and the abort. -/
def State.stage (s : State) (g key : Nat) (x : Val) : State × Nat :=
  let b := s.nat (Obj.CommitGroup.binding g)
  let r := s.instanceRange key x
  if r ≠ 0 then (s, r)
  else if !s.stageOk key x then (s, 0x02010001)
  else if decide (b < 4) && ((boundPlane s.dict key).map (· != b)).getD false then (s, 0x03010009)
  else if ((s.stagedIn key).map (· != g)).getD false then (s, 0x03010008)
  else (s.setStaged g (smIns (smErase (s.staged g) key) key (s.normal key x)), 0)

/-! ### Every object -/

/-- The session-relative objects (R330): each session writes its own copy; the field island hears of `Streams` (R385). -/
def wrOwnCopy (a : Caller) (sub : Nat) (x : Val) (s : State) : State × Nat :=
  let y := s.sess a.sess
  match sub with
  | 2 => (s.setSess a.sess { y with staging := x.nat }, 0)
  | 3 => ((s.setSess a.sess { y with streams := x.nat }).noteSession a.sess 2, 0)
  | 4 => (s.setSess a.sess { y with classMin := x.nat }, 0)
  | _ => (s, 0)

/-- A write of `Arm` (R466): the image in the slot that is not in use is armed. -/
def wrArm (s : State) : State × Nat :=
  (({ s with sec := { s.sec with armed := true } }).setN Obj.Ageing.activationState 1, 0)

/-- The effect of a write to an object that is neither staged nor line-bound. -/
def effect (loading : Bool) (a : Caller) (key : Nat) (x : Val) (s : State) : State × Nat :=
  let ix := key / 256; let sub := key % 256
  if ix = 0x1180 then wrOwnCopy a sub x s
  else if inRec 0x1200 256 ix then
    match sub with
    | 1 => wrBinding (ix - 0x1200) x s
    | 2 => wrCommit (ix - 0x1200) s
    | _ => wrDiscard (ix - 0x1200) s
  else if key = Obj.Ageing.arm then wrArm s
  else match hostEffect a key x s with
  | some r => r
  | none => match printEffect a key x s with
    | some r => r
    | none => match barEffect a key x s with
      | some r => r
      | none => wrPlain loading key x s

/-- Objects whose refused write may still report (R118, R337, R503). -/
def reports (key : Nat) : Bool :=
  (inRec 0x4000 4 (key / 256) && key % 256 == 1) || (inRec 0x1200 256 (key / 256) && key % 256 == 2) || key == Obj.Debug.debugResponse

/-- A staging write of a caller (R336), journaled with its group (R477). -/
def State.writeStaged (s : State) (a : Caller) (key : Nat) (v : Bytes) : State :=
  match s.checkWrite a.role key v with
  | .error c => s.answer a.sess c
  | .ok x =>
    let g := s.groupFor (s.sess a.sess).staging key
    let (s', c) := s.stage g key x
    if c = 0 then (s'.journal key g v).answer a.sess 0 else s.answer a.sess c

/-- A write of a caller to any object: staged, line-bound or at once by its access mode (R328). `reset` starts the resets of R432 and R449,
whose answers leave first. -/
def State.put (s : State) (a : Caller) (key : Nat) (v : Bytes) : State :=
  match ((descOf key).map (·.acc) : Option Acc) with
  | some Acc.rws => s.writeStaged a key v
  | some Acc.rwl => s.write a key v (wrRwl key)
  | _ =>
    if key = Obj.StartControl.warmReset then s.writeWarm a v
    else if key = Obj.StartControl.recoveryExit then s.writeExit a v
    else if reports key then s.writeKeep a key v (effect false a key)
    else s.write a key v (effect false a key)

end Sys2Proof.Machine
end

