-- ==== Sys2Proof/Machine/Mirror.lean ====
section
/-! DEFINITION. The mirror of a pair: the snapshot that an ACTIVE part sends (R478, R482) and what a STANDBY does with each record
(R475-R482). -/

namespace Sys2Proof.Machine

/-! ### The snapshot (R482) -/

/-- An object whose value a snapshot carries as it stands. -/
def inSnapshot (key : Nat) : Bool :=
  mirrored (key / 256) && !(inRec 0x4000 4 (key / 256) && key % 256 == 1)
    && (match descOf key with | some d => decide (d.acc = .rw ∨ d.acc = .rws ∨ d.acc = .rwl) | none => false)

/-- A value as it travels. -/
def wireVal (key : Nat) (v : Val) : Bytes := match descOf key with | some d => encodeVal d.ty v | none => []

/-- One change of a snapshot, with the lines that are unopened now. -/
def State.snap (s : State) (key group : Nat) (v : Bytes) : State := s.pushJournal key group v s.effectLines

/-- The nozzle table in parts of 4,096 channels, each as a `NozzleWrite`. -/
def State.snapNozzles (s : State) : State :=
  (List.range (cdiv s.pool 4096)).foldl (fun (s : State) g =>
    let first := 4096 * g
    let n := min 4096 (s.pool - first)
    s.snap Obj.NozzleTable.nozzleWrite 0xFF (leBytes 4 first ++ leBytes 4 0
      ++ ((List.range n).map (fun i => leBytes 8 ((nzEntry s.screen.ntab (first + i) : Nat) : Int))).flatten)) s

/-- An entry of the schedule as `ScheduleInsert` takes it. -/
def SchedEntry.written (e : SchedEntry) : Bytes := e.bytes.take 11 ++ [0#8] ++ e.bytes.drop 12

/-- A page as `PageAppend` takes it (R130). -/
def Page.written (p : Page) : Bytes :=
  leBytes 4 p.job ++ leBytes 4 p.page ++ leBytes 6 p.length ++ leBytes 1 p.startMode ++ leBytes 1 p.bands.length ++ leBytes 6 p.startLine
    ++ leBytes 1 p.format ++ leBytes 1 p.res ++ leBytes 4 p.stripLines ++ leBytes 4 0
    ++ (p.bands.map (fun b => leBytes 4 b.first ++ leBytes 3 b.cols ++ leBytes 1 (if b.blank then 1 else 0))).flatten

/-- A snapshot starts (R478, R482): the values in force, the nozzle table, the pending writes, the staged contents, the enables, the
queued pages and the schedule as journal items; the defect table as Health items. What was not acknowledged before gives way to it. -/
def State.startSnapshot (s : State) : State :=
  let s := s.setDux { s.dux with snapshot := true, journal := [], health := [] }
  let s := (s.dict.filter (fun p => inSnapshot p.1)).foldl (fun (s : State) p => s.snap p.1 0xFF (wireVal p.1 p.2)) s
  let s := s.snapNozzles
  let s := s.sched.rwl.foldl (fun (s : State) w => s.snap w.key 0xFF (wireVal w.key (.num w.val))) s
  let s := s.groups.staged.foldl (fun (s : State) g => g.2.foldl (fun (s : State) p => s.snap p.1 g.1 (wireVal p.1 p.2)) s) s
  let s := s.enabled.foldl (fun (s : State) k => s.snap (Obj.PlaneConfig.enable k) 0xFF [1#8]) s
  let s := s.each [0, 1, 2, 3] (fun s k => ((s.plane k).pages.filter (fun p => p.start.isNone)).foldl
    (fun (s : State) p => s.snap (Obj.PageQueue.pageAppend k) 0xFF p.written) s)
  let s := s.sched.table.foldl (fun (s : State) e => s.snap Obj.scheduleInsert 0xFF e.written) s
  let items : List MirrorItem := s.health.table.map (fun e =>
    { seq := 0, group := 0xFF, flags := 0, off := 0, effect := s.effectLines, head := [], val := e.bytes, sent := none })
  s.setDux { s.dux with health := items }

/-- More than 1 MiB of journal stands unacknowledged (R478). -/
def State.checkBacklog (s : State) : State :=
  if s.dux.snapshot ∨ s.backlog ≤ 1048576 then s else (s.ev Ev.syncLost).startSnapshot

/-! ### A record as received (R475, R476) -/

/-- The sections of a record: their kinds and contents. -/
def mirrorSections : Nat → Bytes → Option (List (Nat × Bytes))
  | 0, b => if b.isEmpty then some [] else none
  | n + 1, b =>
    let len := fld b 2 2
    if b.length < 4 + len then none
    else (mirrorSections n (b.drop (4 + len))).map (fun r => (fld b 0 1, (b.drop 4).take len) :: r)

/-- The sections of a valid record; none where its magic, its length, its CRC or its sections are wrong. -/
def mirrorRecord (b : Bytes) : Option (List (Nat × Bytes)) :=
  let n := b.length - 4
  if b.length < 36 ∨ 8192 < b.length ∨ fld b 0 4 ≠ 0x524D5A41 ∨ fld b 14 2 ≠ b.length ∨ fld b n 4 ≠ crc32 (b.take n) then none
  else mirrorSections (fld b 13 1) ((b.take n).drop 32)

/-- The section of a kind; empty where the record has none. -/
def sectionOf (l : List (Nat × Bytes)) (kind : Nat) : Bytes := match l.find? (fun p => p.1 == kind) with | some p => p.2 | none => []

/-- Four 48-bit lines. -/
def lines4 (b : Bytes) : List Int := (List.range 4).map (fun k => sfld b (6 * k) 6)

/-- The items of a Journal section (R477). -/
def parseJournal : Nat → Bytes → List MirrorItem
  | 0, _ => []
  | n + 1, b =>
    let len := fld b 6 2
    if b.length < 44 + len then []
    else { seq := fld b 0 4, group := fld b 4 1, flags := fld b 5 1, off := fld b 8 4, effect := lines4 (b.drop 12)
           head := (b.drop 36).take 8, val := (b.drop 44).take len, sent := none }
      :: parseJournal n (b.drop (44 + len + (4 - len % 4) % 4))

/-- The items of a Health section (R476); they have no head. -/
def parseHealth : Nat → Bytes → List MirrorItem
  | 0, _ => []
  | n + 1, b =>
    if b.length < 40 then []
    else { seq := 0, group := 0xFF, flags := 0, off := 0, effect := lines4 (b.drop 16), head := [], val := b.take 16, sent := none }
      :: parseHealth n (b.drop 40)

/-- One order of the items of both sections: by their lines, each section in its own order. -/
def mergeItems : Nat → List MirrorItem → List MirrorItem → List MirrorItem
  | 0, _, _ => []
  | _ + 1, [], b => b
  | _ + 1, a, [] => a
  | n + 1, x :: a, y :: b =>
    if (x.effect.zip y.effect).all (fun p => decide (p.1 ≤ p.2)) then x :: mergeItems n a (y :: b) else y :: mergeItems n (x :: a) b

/-! ### Position (R479) -/

/-- The count offset of a record, as a signed 48-bit difference. -/
def State.countOffset (s : State) (count : Int) : Int :=
  let e := s.source
  let v : Int := if s.num (Obj.EncoderStatus.direction e) = 0 then s.num (Obj.EncoderStatus.speed e) else -(s.num (Obj.EncoderStatus.speed e))
  sext 48 (s.num (Obj.EncoderStatus.count e) - count - near (v * s.num Obj.DuplexStatus.stayLatency) 1000000000)

/-- A record's offset is seen: the fourth alike in a row is adopted; a change of the adopted one is reported. -/
def State.seeOffset (s : State) (D : Int) : State :=
  let d := s.dux
  let run := if d.dRun ≠ 0 ∧ d.dLast = D then d.dRun + 1 else 1
  let s := s.setDux { d with dLast := D, dRun := run }
  if run < 4 ∨ d.dAdopted = some D then s
  else
    let s := (s.setDux { s.dux with dAdopted := some D }).setN Obj.DuplexStatus.countOffset D
    if d.dAdopted.isSome then s.ev Ev.pairCountShift else s

/-- The accumulator of plane `k` and its mark take the record's values, advanced by `n` counts; after a switch of source, by Q_k (R64). -/
def State.mirrorPlane (s : State) (k : Nat) (b : Bytes) (n : Int) : State :=
  let add := n * (if s.web.scaled.isSome then (s.plane k).q else s.num (Obj.LineGenerator.linesPerCount k))
  let acc := sfld b 4 12 + add
  let hwm := max acc (sfld b 16 12 + add)
  let s := s.setPlane k { s.plane k with acc := acc, hwm := hwm }
  let s := (s.setN (Obj.LineGenerator.planeLine k) (sext 48 (acc / 2 ^ 48))).setN (Obj.LineGenerator.phase k) (acc % 2 ^ 48 / 2 ^ 38)
  s.setN (Obj.LineGenerator.highWaterMark k) (sext 48 (hwm / 2 ^ 48))

/-- The part of a Position section that belongs to plane `k`. -/
def planePart (b : Bytes) (k : Nat) : Bytes := (b.drop (16 + 40 * k)).take 40

/-- With an adopted offset, every position follows the record's, in counts and in lines; entries of the schedule that the position's
mark passes execute. -/
def State.mirrorPosition (s : State) (b : Bytes) (count : Int) : State :=
  match s.dux.dAdopted with
  | none => s
  | some D =>
    let n := sext 48 (s.num (Obj.EncoderStatus.count s.source) - D - count)
    let old := s.web.posHwm
    let step := n * (match s.web.scaled with | some c => c.ratio | none => 2 ^ 48)
    let pos := sfld b 0 6 * 2 ^ 48 + step
    let hwm := max pos (sfld b 6 6 * 2 ^ 48 + step)
    let s := s.setWeb { s.web with pos := pos, posHwm := hwm }
    let s := (s.setN Obj.ScheduleControl.schedulePosition (sext 48 (pos / 2 ^ 48))).setN Obj.ScheduleControl.positionHighWater
      (sext 48 (hwm / 2 ^ 48))
    ((s.each [0, 1, 2, 3] (fun s k => s.mirrorPlane k (planePart b k) n)).crossPositions old).openPlanes []

/-! ### Journal and Health items (R477, R480) -/

/-- The caller of a mirrored change: nobody is answered. -/
def mirrorCaller : Caller := { sess := nobody, role := .v }

/-- What a snapshot brings is already held: the same armed entry, the same page. -/
def State.holds (s : State) (key : Nat) (x : Val) : Bool :=
  (key == Obj.scheduleInsert && s.sched.table.any (fun e => e.written == x.byt))
    || [0, 1, 2, 3].any (fun k => key == Obj.PageQueue.pageAppend k
        && (s.plane k).pages.any (fun p => p.job == fld x.byt 0 4 && p.page == fld x.byt 4 4))

/-- A mirrored enable of plane `k`: its lines begin with the ACTIVE's (R480). -/
def State.mirrorEnable (s : State) (k : Nat) (line : Int) : State :=
  if s.flag (Obj.PlaneConfig.enable k) then s
  else
    let (a, s) := s.enableAbort k
    if a ≠ 0 then s
    else if s.pow.state ≠ 0 then s.pendPlane k true
    else ((s.enablePlane k (some line)).overspeed).checkNeed

/-- The ACTIVE has switched its source (R64): the check encoder leads with scaled counting, and a new count offset is to be adopted before
the part is Synced again. -/
def State.mirrorSwitch (s : State) (e : Nat) : State :=
  let s := s.switchSource e (s.num Obj.WebSource.checkRatio)
  (s.setDux { s.dux with dAdopted := none, dRun := 0 }).startScaled

/-- A whole value that the journal brought takes effect as the write did on the ACTIVE (R477). -/
def State.mirrorWrite (s : State) (key group : Nat) (v : Bytes) (at_ : List Int) (snapshot : Bool) : State :=
  let ix := key / 256
  match descOf key with
  | none => s
  | some d => match decodeVal d.ty v with
    | none => s
    | some x =>
      if !(mirrored ix || inRec 0x1200 256 ix) || d.acc == .ro || (snapshot && s.holds key x) then s
      else if key = Obj.WebSource.primarySource ∧ s.nat Obj.WebSource.checkSource = x.nat + 1 then s.mirrorSwitch x.nat
      else match [0, 1, 2, 3].find? (fun k => key == Obj.PlaneConfig.enable k && x.int != 0) with
      | some k => s.mirrorEnable k (at_.getD k 0)
      | none =>
        if d.acc = .rws then (if group = 0xFF then (s.setVal key (s.normal key x)).refreshGeometry.headStates else (s.stage group key x).1)
        else if d.acc = .rwl then (wrRwl key x s).1
        else
          let r := effect false mirrorCaller key x s
          if r.2 = 0 ∨ r.2 = answerLater then r.1 else s

/-- A defect item (R476): an item already applied, or older than the entry held, has no effect; a removed channel leaves the table. The
methods of its plane are selected again. -/
def State.mirrorDefect (s : State) (b : Bytes) : State :=
  let ch := fld b 0 4; let fl := fld b 7 1; let st := fld b 8 4
  let old : Bool := match s.defect ch with
    | none => decide (fld b 4 1 = 0)
    | some e => e.stamp == st || decide (sext 32 ((st : Int) - e.stamp) < 0)
  if old then s
  else
    let e : Defect := { s.blankDefect ch (fld b 4 1) (fld b 5 1) with
      method := fld b 6 1, applied := bit fl 0, proposed := bit fl 1, probe := bit fl 2, unhidden := bit fl 3, manual := bits fl 5 4
      forced := bit fl 6, stamp := st, confirms := fld b 12 1, clears := fld b 13 1, value := fld b 14 2 }
    let s := if e.kind = 0 then s.dropDefect ch
      else (s.setHealth { s.health with table := insDefect e s.health.table }).markDirty ch
    let ks := s.health.dirty
    let s := { s with health := { s.health with dirty := [], touched := [] } }
    s.each ((List.range 4).filter (fun k => ks.contains k)) (fun s k => s.selectMethods k)

/-- Lines of plane `k` open up to line `L` (R480). -/
def State.openTo (s : State) (k : Nat) (L : Int) : State :=
  if s.flag (Obj.PlaneConfig.enable k) then
    ((List.range (L - (s.plane k).opened).toNat).foldl (fun s _ => s.openLine k (s.unopened k)) s).checkMissed k
  else s

/-- Lines open in every plane as far as the records allow and below the lines `at_`. -/
def State.openBelow (s : State) (at_ : List Int) : State :=
  s.each [0, 1, 2, 3] (fun s k => s.openTo k (min (s.dux.openedLine.getD k 0) (at_.getD k 0 - 1)))

/-- A journal item: a part joins its value; the last part brings the change (R477, R478). -/
def State.mirrorPart (s : State) (x : MirrorItem) (snapshot : Bool) : State :=
  let d := s.dux
  let old : Bool := match d.applied with | none => false | some a => decide (sext 32 ((x.seq : Int) - a) ≤ 0)
  let have_ := if bit x.flags 0 then [] else d.part
  if old ∨ have_.length ≠ x.off then s
  else if bit x.flags 1 then
    let s := s.setDux { d with applied := some x.seq, part := [] }
    s.mirrorWrite (fld x.head 0 2 * 256 + fld x.head 2 1) x.group (have_ ++ x.val) x.effect snapshot
  else s.setDux { d with part := have_ ++ x.val }

/-- Every item takes effect after the lines below its own have opened and before any other line opens (R480). -/
def State.mirrorItems (s : State) (l : List MirrorItem) (snapshot : Bool) : State :=
  l.foldl (fun (s : State) x =>
    let s := s.openBelow x.effect
    if x.head.isEmpty then s.mirrorDefect x.val else s.mirrorPart x snapshot) s

/-! ### Tail and Thermal (R476, R478, R481) -/

/-- A tail entry joins the record; a final one replaces the provisional one of its line. -/
def State.mirrorTail (s : State) (b : Bytes) : State :=
  let h := fld b 9 1
  let r : FireRec := { line := sfld b 0 6, outcome := fld b 6 1, flags := fld b 7 1, energy := fld b 8 1, drops := fld b 10 2
                       stamp := fld b 12 4, final := fld b 6 1 != 0xFF }
  if 64 ≤ h then s
  else match (s.head h).run.reverse.find? (fun x => x.line == r.line) with
  | none => (s.dropLine h r.line).pushEntry h r
  | some x =>
    if x.final || !r.final then s
    else (s.setHead h { s.head h with record := (s.head h).record.map (fun y => if y == x then r else y) }).countEntry h r

/-- Parts of `n` bytes. -/
def partsOf (n : Nat) (b : Bytes) : List Bytes := (List.range (b.length / n)).map (fun i => (b.drop (n * i)).take n)

/-- The integrators of the heads follow the record's. -/
def State.mirrorThermal (s : State) (b : Bytes) : State :=
  (partsOf 8 b).foldl (fun (s : State) p => if fld p 0 1 < 64 then s.setN (Obj.HeadThermal.integrator (fld p 0 1)) (fld p 4 4) else s) s

/-! ### Synchronisation (R482) -/

/-- Every condition of R482 holds, and no conflict of sides bars it (R469). -/
def State.syncHolds (s : State) : Bool :=
  let d := s.dux
  d.snapDone && !d.snapIn && decide (d.backlog < 65536) && d.dAdopted.isSome && !d.conflict
    && s.enabled.all (fun k => decide ((s.plane k).first ≤ (s.plane k).hwm / 2 ^ 48 - 16385))

/-- `Synced` follows its conditions. -/
def State.judgeSync (s : State) : State :=
  if s.syncHolds then
    (if s.flag Obj.DuplexStatus.synced then s else (s.setF Obj.DuplexStatus.synced true).ev Ev.pairFormed)
  else if s.flag Obj.DuplexStatus.synced then s.loseSync else s

/-- The head of a record is noted (R478, R482): its number with the gap before it, its epoch, its backlog, its snapshot. A gap breaks
the run of records that a part not yet Synced needs. -/
def State.noteRecord (s : State) (b : Bytes) : State :=
  let d := s.dux
  let n := fld b 4 4; let ep := fld b 8 4; let snapshot := bit (fld b 12 1) 0
  let missed := match d.got with | none => 0 | some g => (n + 2 ^ 32 - g - 1) % 2 ^ 32
  let anew := d.got.isNone || d.peerEpoch != ep
  let broken := decide (missed ≠ 0) && !s.flag Obj.DuplexStatus.synced
  let s := s.setDux { d with
    mirrorAt := some s.now, got := some n, peerEpoch := ep, maxEpoch := max d.maxEpoch ep, backlog := fld b 28 4
    applied := if anew then none else d.applied, part := if anew then [] else d.part
    snapIn := snapshot, snapDone := if snapshot then false else (d.snapDone || d.snapIn) && !broken }
  if missed = 0 then s else s.bump Obj.DuplexStatus.recordsMissed 32 missed

/-- A STANDBY applies a record (R479-R482): position, items and lines in step, the crossings of the lines' marks, tail, thermal; then it
judges its synchronisation. -/
def State.followRecord (s : State) (b : Bytes) (l : List (Nat × Bytes)) : State :=
  let s := s.noteRecord b
  let pos := sectionOf l 1; let count := sfld b 16 6; let snapshot := bit (fld b 12 1) 0
  let marks := s.running.map (fun k => (k, (s.plane k).hwm))
  let s := (s.seeOffset (s.countOffset count)).mirrorPosition pos count
  let s := s.setDux { s.dux with openedLine := (List.range 4).map (fun k => sfld (planePart pos k) 28 6) }
  let js := parseJournal 256 (sectionOf l 4); let hs := parseHealth 256 (sectionOf l 5)
  let s := s.mirrorItems (mergeItems 512 js hs) snapshot
  -- a value still incomplete holds back the lines that it governs
  let s := match js.getLast? with
    | some x => if s.dux.part.isEmpty then s.each [0, 1, 2, 3] (fun s k => s.openTo k (s.dux.openedLine.getD k 0)) else s.openBelow x.effect
    | none => s.each [0, 1, 2, 3] (fun s k => s.openTo k (s.dux.openedLine.getD k 0))
  let s := s.instants marks
  let s := s.each s.running (fun s k => s.stopPlane k)
  let s := (partsOf 16 (sectionOf l 2)).foldl (fun s e => s.mirrorTail e) s
  (s.mirrorThermal (sectionOf l 3)).judgeSync

end Sys2Proof.Machine
end

