-- ==== Sys2Proof/Machine/Duplex.lean ====
section
/-! DEFINITION. The commands of the pair (spec/21): the peer's messages, the Stay lanes, the timers, and the duplex controls. -/

namespace Sys2Proof.Machine

/-- A command of the Stay link: none of its effect on a part without one (R11, R468). -/
def stayCmd (t : Nat) (s : State) (f : State → State) : Host.Outcome State Fault Refusal :=
  fieldCmd t s (fun s => if s.hasStay && s.rst.field.run then f s else s)

/-! ### The controls (R469, R470, R492) -/

/-- `DUPLEX_MODE_PAIR` (R470). -/
def execDuplexModePair (t : Nat) (a : Caller) (v : Bytes) (s : State) : Host.Outcome State Fault Refusal :=
  access t s (fun s => s.write a Obj.DuplexControl.duplexMode v wrDuplexMode)

/-- `DUPLEX_MODE_SOLO` (R470). -/
def execDuplexModeSolo (t : Nat) (a : Caller) (v : Bytes) (s : State) : Host.Outcome State Fault Refusal :=
  access t s (fun s => s.write a Obj.DuplexControl.duplexMode v wrDuplexMode)

/-- `FORCE_ACTIVE` (R469). -/
def execForceActive (t : Nat) (a : Caller) (v : Bytes) (s : State) : Host.Outcome State Fault Refusal :=
  access t s (fun s => s.write a Obj.DuplexControl.forceActive v (fun _ => wrForceActive))

/-- `SWITCH_OVER` (R492). -/
def execSwitchOver (t : Nat) (a : Caller) (v : Bytes) (s : State) : Host.Outcome State Fault Refusal :=
  access t s (fun s => s.write a Obj.DuplexControl.switchOver v (fun _ => wrSwitchOver))

/-! ### Lanes and latency (R471, R473) -/

/-- A PROBE leaves, in every role but SOLO; at most 64 wait for their echo. -/
def State.sendProbe (s : State) : State :=
  if s.role = 0 then s
  else
    let d := s.dux
    let n := (d.token + 1) % 2 ^ 32
    (s.setDux { d with token := n, probeAt := s.now, probes := (n, s.now) :: d.probes.take 63 }).stay 0x04 (leBytes 4 n ++ leBytes 4 0)

/-- `STAY_LANE_LOCK` (R471, R473). -/
def execStayLaneLock (t l : Nat) (s : State) : Host.Outcome State Fault Refusal :=
  stayCmd t s (fun s => if 2 ≤ l ∨ s.nat (Obj.StayLane.state l) = 2 then s else (s.setN (Obj.StayLane.state l) 2).sendProbe)

/-- `STAY_LANE_LOCK_LOSS` (R471): the lane tries to lock again. -/
def execStayLaneLockLoss (t l : Nat) (s : State) : Host.Outcome State Fault Refusal :=
  stayCmd t s (fun s =>
    if l < 2 ∧ s.nat (Obj.StayLane.state l) = 2 then
      ((s.setN (Obj.StayLane.state l) 1).inc (Obj.StayLane.lockLosses l)).ev Ev.stayLaneFail [] l
    else s)

/-- `PROBE` (R473): its echo leaves with the Token and the turnaround, which the spec does not state. A SOLO part sends nothing. -/
def execProbe (t : Nat) (body : Bytes) (s : State) : Host.Outcome State Fault Refusal :=
  stayCmd t s (fun s =>
    if body.length ≠ 8 ∨ s.role = 0 then s
    else
      let (n, s) := s.fresh
      s.stay 0x05 (body.take 4 ++ leBytes 4 n))

/-- `PROBE_ECHO` (R473): half of the round trip without the turnaround; the mean of the last 8, to 2 ns. -/
def execProbeEcho (t : Nat) (body : Bytes) (s : State) : Host.Outcome State Fault Refusal :=
  stayCmd t s (fun s =>
    let d := s.dux
    if body.length ≠ 8 then s
    else match d.probes.find? (fun p => p.1 == fld body 0 4) with
      | none => s
      | some p =>
        -- twice the latency, in ns
        let l := (s.now - p.2) / 10 - fld body 4 4
        let lat := (l :: d.lat).take 8
        let mean := near (lat.sum : Nat) (4 * lat.length : Nat)
        (s.setDux { d with probes := d.probes.filter (fun q => q.1 != p.1), lat := lat }).setN Obj.DuplexStatus.stayLatency (2 * mean))

/-! ### The peer's STATUS (R469, R470, R478, R482) -/

/-- A port that has come as far as step 8 reports that another port owns its carrier (R469). -/
def State.ownedElsewhere (s : State) : Bool :=
  (List.range 64).any (fun h => (s.portState h == 2 || s.portState h == 4) && s.nat (Obj.PortStatus.owner h) == 2)

/-- What the peer says is noted: its role, its side, its faulted piers, its epoch; equal sides are a conflict (R469). -/
def State.notePeer (s : State) (b : Bytes) : State :=
  let side := fld b 2 1
  let clash := side == s.nat Obj.DuplexControl.pairSide && s.role != 0
  let s := (s.setN Obj.DuplexStatus.peerRole (fld b 0 1)).setF Obj.DuplexStatus.peerSynced (fld b 1 1 != 0)
  let was := s.dux.conflict
  let s := s.setDux { s.dux with statusAt := some s.now, peerSide := side, peerFaulted := fld b 3 1, maxEpoch := max s.dux.maxEpoch (fld b 8 4)
                                 peerSolo := fld b 0 1 == 0, conflict := clash }
  if clash && !was then s.ev Ev.pairConflict else s

/-- What a STANDBY does on a STATUS: a peer that became SOLO ends the pair (R470); a conflict bars Synced; a peer that also stands by
unsynchronised yields to side 0 (R469). -/
def State.standbyStatus (s : State) (b : Bytes) : State :=
  let s := if s.dux.conflict then s.loseSync else s
  if fld b 0 1 = 0 then s.loseSync.ev Ev.pairLost
  else if fld b 0 1 = 2 ∧ fld b 1 1 = 0 ∧ s.nat Obj.DuplexControl.pairSide = 0 ∧ !s.dux.conflict ∧ s.dux.since.isSome ∧ !s.ownedElsewhere then
    s.becomeActive false
  else s

/-- What an ACTIVE does on a STATUS: a peer that has become fitter takes over (R487 cause 3); acknowledged items leave (R478); a STANDBY that
is not Synced gets a snapshot unless one is in progress (R482). -/
def State.activeStatus (s : State) (b : Bytes) : State :=
  if fld b 0 1 ≠ 2 then s
  else if s.piersFail && s.peerFitter then (s.ackMirror (fld b 4 4)).relinquish 3
  else if fld b 1 1 = 0 ∧ !s.dux.snapshot then s.startSnapshot.ackMirror (fld b 4 4)
  else s.ackMirror (fld b 4 4)

/-- `STATUS` (R469, R470, R472, R478, R482). -/
def execStatus (t : Nat) (body : Bytes) (s : State) : Host.Outcome State Fault Refusal :=
  stayCmd t s (fun s =>
    if body.length ≠ 16 ∨ 3 < fld body 0 1 then s
    else
      let s := s.notePeer body
      match s.role with
      | 1 => s.activeStatus body
      | 2 => s.standbyStatus body
      | _ => s)

/-! ### Records and takeovers (R475-R491) -/

/-- `MIRROR` (R475-R482): a STANDBY follows the record; a part that has taken over takes the tail of the final record. -/
def execMirror (t : Nat) (rec : Bytes) (s : State) : Host.Outcome State Fault Refusal :=
  stayCmd t s (fun s =>
    match mirrorRecord rec with
    | none => s
    | some l =>
      if s.role = 2 then s.followRecord rec l
      else if s.role = 1 ∧ s.dux.relinquished ∧ bit (fld rec 12 1) 1 then
        (partsOf 16 (sectionOf l 2)).foldl (fun s e => s.mirrorTail e) (s.setDux { s.dux with relinquished := false })
      else s)

/-- `RELINQUISH` (R489): a Synced STANDBY takes over; one that is not Synced claims nothing. -/
def execRelinquish (t : Nat) (body : Bytes) (s : State) : Host.Outcome State Fault Refusal :=
  stayCmd t s (fun s =>
    if body.length ≠ 12 ∨ s.role ≠ 2 then s
    else
      let s := s.setDux { s.dux with peerEpoch := fld body 4 4, maxEpoch := max s.dux.maxEpoch (fld body 4 4) }
      if s.flag Obj.DuplexStatus.synced then (s.setDux { s.dux with relinquished := true }).becomeActive true
      else s.ev Ev.pairLost)

/-- `SILENT_TAKEOVER` (R491): 75 µs without a record. The carriers decide whether the ACTIVE has failed. -/
def execSilentTakeover (t : Nat) (s : State) : Host.Outcome State Fault Refusal :=
  stayCmd t s (fun s =>
    let silent : Bool := match s.dux.mirrorAt with | some a => decide (a + 75 * us ≤ s.now) | none => false
    if s.role ≠ 2 ∨ !s.flag Obj.DuplexStatus.synced ∨ s.dux.peerSolo ∨ !silent then s
    else if s.dux.lastLineAt + 75 * us ≤ s.now then
      ((s.inc Obj.DuplexStatus.silentTakeovers).ev Ev.silentTakeover).becomeActive true
    else (s.ev Ev.stayLost).loseSync)

/-- `PAIR_TIMEOUT` (R469): no STATUS since step 8. -/
def execPairTimeout (t : Nat) (s : State) : Host.Outcome State Fault Refusal :=
  stayCmd t s (fun s =>
    match s.dux.since with
    | none => s
    | some a =>
      let heard : Bool := match s.dux.statusAt with | some x => decide (a ≤ x) | none => false
      if s.role = 2 ∧ a + s.nat Obj.DuplexControl.pairTimeout * ms ≤ s.now ∧ !heard ∧ s.flag Obj.DuplexControl.aloneStart ∧ !s.ownedElsewhere then
        s.becomeActive false
      else s)

end Sys2Proof.Machine
end

