-- ==== Sys2Proof/Machine/SpanCells.lean ====
section
/-! DEFINITION. The crossing channels and their cells: reassembly, cell errors, channel failure and retest, and the loss of the Span
(R380-R384, R389-R395). A direction is named by the island that sends. -/

namespace Sys2Proof.Machine

/-! ### Channels (R389-R391) -/

/-- Record of channel `i`. -/
def State.spanChan (s : State) (i : Nat) : Chan := smGet (fun _ => Chan.init) s.span.chans i
/-- Record of channel `i` replaced. -/
def State.setSpanChan (s : State) (i : Nat) (x : Chan) : State :=
  { s with span := { s.span with chans := smSet (fun _ => Chan.init) s.span.chans i x } }

/-- Bit `i` of the receiver's RxGood of its direction. -/
def State.setGood (s : State) (i : Nat) (b : Bool) : State :=
  if i < 6 then { s with span := { s.span with goodH2F := setBit s.span.goodH2F i b } }
  else { s with span := { s.span with goodF2H := setBit s.span.goodF2H (i - 6) b } }

/-- Bit `i` of the sender's TxUse of its direction. -/
def State.setUse (s : State) (i : Nat) (b : Bool) : State :=
  if i < 6 then { s with span := { s.span with useH2F := setBit s.span.useH2F i b } }
  else { s with span := { s.span with useF2H := setBit s.span.useF2H (i - 6) b } }

/-- Channels of a mask of six. -/
def six (m : Nat) : Nat := ((List.range 6).filter (bit m)).length

/-- The objects of the channels in use follow the senders (R391). -/
def State.showUse (s : State) : State :=
  let s := s.setN Obj.SpanControl.channelsInUse ((s.span.useH2F + 64 * s.span.useF2H : Nat) : Int)
  (s.setN Obj.SpanControl.capacityH2F ((8000 * six s.span.useH2F : Nat) : Int)).setN Obj.SpanControl.capacityF2H ((8000 * six s.span.useF2H : Nat) : Int)

/-- The receiver marks a channel failed (R389). -/
def State.failChan (s : State) (i : Nat) : State :=
  ((s.setGood i false).setN (Obj.SpanChannel.state i) 3).setSpanChan i { s.spanChan i with tests := 0, errs := [] }

/-- A cell error on channel `i` (R384, R389): counted, and more than `ErrorLimit` of them in 1 s fail the channel. The field island's own counts
reach the objects in LINK_STATE (R395). -/
def State.cellError (s : State) (i : Nat) : State :=
  let x := s.spanChan i
  let errs := s.now :: x.errs.filter (fun a => decide (s.now < a + 10 ^ 10))
  let s := s.setSpanChan i { x with errs := errs, bad := (x.bad + 1) % 2 ^ 32 }
  let s := if i < 6 then s else s.inc (Obj.SpanChannel.cellErrors i)
  if s.nat Obj.SpanControl.errorLimit < errs.length ∧ s.nat (Obj.SpanChannel.state i) = 2 then s.failChan i else s

/-- The sender of channel `i` takes it into use: cells that wait for a channel start on it (R389-R391). -/
def State.takeUse (s : State) (i : Nat) : State :=
  ((s.setUse i true).freeFrom (chanSender i) (i % 6)).pumpSpan (chanSender i)

/-- `SPAN_BLOCK_LOCK` (R380): a channel that is down gains block lock and enters use. A failed channel returns by LINK_TEST alone (R390). -/
def execSpanBlockLock (t chan : Nat) (s : State) : Host.Outcome State Fault Refusal :=
  cmd t s (fun s =>
    if 12 ≤ chan ∨ 2 ≤ s.nat (Obj.SpanChannel.state chan) ∨ !s.chanOpen chan then s
    else (((s.setN (Obj.SpanChannel.state chan) 2).setGood chan true).takeUse chan).showUse)

/-- `SPAN_CHANNEL_LOCK_LOSS` (R380, R389). -/
def execSpanChannelLockLoss (t chan : Nat) (s : State) : Host.Outcome State Fault Refusal :=
  cmd t s (fun s =>
    if 12 ≤ chan ∨ s.nat (Obj.SpanChannel.state chan) < 2 then s else (s.inc (Obj.SpanChannel.lockLosses chan)).failChan chan)

/-- `RetestInterval` has passed since the last LINK_TEST on a channel (R390). -/
def State.testDue (s : State) (chan : Nat) : Bool :=
  match s.span.testAt.find? (fun p => p.1 == chan) with
  | some p => decide (p.2 + s.nat Obj.SpanControl.retestInterval * ms ≤ s.now)
  | none => true

/-- `SPAN_CHANNEL_RETEST` (R390): `RetestInterval` has passed, and the sender tries a failed channel. -/
def execSpanChannelRetest (t chan : Nat) (s : State) : Host.Outcome State Fault Refusal :=
  cmd t s (fun s =>
    if 12 ≤ chan ∨ !s.chanOpen chan ∨ s.nat (Obj.SpanChannel.state chan) < 3 ∨ !s.testDue chan then s
    else
      let (n, s) := s.fresh
      let s : State := { s with span := { s.span with testAt := smSet (fun _ => 0) s.span.testAt chan s.now } }
      s.sendAlone (chanSender chan) (chan % 6) 0x82
        (leBytes 1 ((chan % 6 : Nat) : Int) ++ leBytes 3 0 ++ leBytes 4 s.span.counts ++ leBytes 244 n))

/-! ### Restoring (R394) -/

/-- The Span is restored once each island has received a LINK_STATE since the loss (R394). Sessions that missed field records learn it by Gap
(R392). -/
def State.restoreSpan (s : State) : State :=
  if (s.span.lostH || s.span.lostF) && s.span.linkH && s.span.linkF then
    let gaps := if s.span.missed then s.openSessions else s.span.gaps
    let s : State := { s with span := { s.span with lostH := false, lostF := false, missed := false, gaps := gaps } }
    ((s.setN Obj.SpanControl.state 1).hev Ev.spanRestored).ev Ev.spanRestored
  else s

/-- The sender of a direction learns how its channels are received (R389, R390): it stops using a failed channel and takes up a good one. `base`
is the direction's first channel. -/
def State.judgeUse (s : State) (side : Side) (base good : Nat) : State :=
  (List.range 6).foldl (fun s i =>
    let c := base + i
    let s := s.pumpSpan side
    let used := bit (if base = 0 then s.span.useH2F else s.span.useF2H) i
    if used ∧ !bit good i then ((s.setUse c false).inc (Obj.SpanChannel.failures c)).raise side Ev.spanChannelFail c
    else if !used ∧ bit good i ∧ 3 ≤ s.nat (Obj.SpanChannel.state c) then
      (((s.takeUse c).setN (Obj.SpanChannel.state c) 2).setSpanChan c { s.spanChan c with tests := 0 }).raise side Ev.spanChannelRestored c
    else s) s |>.showUse

/-- The field island's counts of its received channels (R385, R395): the counts of 16 bits go on in 32. -/
def State.takeCounts (s : State) (b : Bytes) : State :=
  (List.range 6).foldl (fun s i =>
    let o := 8 + 8 * i
    let grow := fun (s : State) (key n : Nat) => s.bump key 32 ((n + 65536 - s.nat key % 65536) % 65536)
    grow (grow (s.setN (Obj.SpanChannel.cellErrors i) (fld b o 4 : Nat)) (Obj.SpanChannel.idleInserted i) (fld b (o + 4) 2))
      (Obj.SpanChannel.idleDeleted i) (fld b (o + 6) 2)) s

/-- `LINK_STATE` (R389, R394) at the island `side`. -/
def execLinkState (t : Nat) (side : Side) (body : Bytes) (s : State) : Host.Outcome State Fault Refusal :=
  match side with
  | .host => hostCmd t s (fun s => s.takeH 0x81 body (fun s =>
      let s := ((s.judgeUse .host 0 (fld body 0 1)).takeCounts body)
      State.restoreSpan { s with span := { s.span with linkH := true } }))
  | .field => fieldCmd t s (fun s => s.takeF 0x81 body (fun s =>
      let s := s.judgeUse .field 6 (fld body 0 1)
      State.restoreSpan { s with span := { s.span with linkF := true } }))

/-- A LINK_TEST arrives on a failed channel (R390): 16 good ones in a row return it to RxGood. -/
def State.testCell (s : State) (c : Nat) (good : Bool) : State :=
  if s.nat (Obj.SpanChannel.state c) < 3 then s
  else if !good then (s.setSpanChan c { s.spanChan c with tests := 0 }).setN (Obj.SpanChannel.state c) 3
  else
    let n := (s.spanChan c).tests + 1
    let s := (s.setSpanChan c { s.spanChan c with tests := n }).setN (Obj.SpanChannel.state c) 4
    if 16 ≤ n then s.setGood c true else s

/-- `LINK_TEST` (R390) at the island `side`: `good` tells whether the cell and its test sequence arrived whole. -/
def execLinkTest (t : Nat) (side : Side) (body : Bytes) (good : Bool) (s : State) : Host.Outcome State Fault Refusal :=
  let i := fld body 0 1 % 6
  match side with
  | .host => hostCmd t s (fun s => if good then s.takeH 0x82 body (fun s => s.testCell (6 + i) true) else s.testCell (6 + i) false)
  | .field => fieldCmd t s (fun s => if good then s.takeF 0x82 body (fun s => s.testCell i true) else s.testCell i false)

/-! ### Cells (R383, R384) -/

/-- Receiver of a class of a direction: 0 and 1 at the field island, 2 and 3 at the host island. -/
def rxIx (dir : Side) (cls : Nat) : Nat := (match dir with | .host => 0 | .field => 2) + cls % 2

/-- A receiver. -/
def State.cellRx (s : State) (ix : Nat) : CellRx := smGet (fun _ => CellRx.init) s.span.rx ix
/-- A receiver replaced. -/
def State.setCellRx (s : State) (ix : Nat) (x : CellRx) : State :=
  { s with span := { s.span with rx := smSet (fun _ => CellRx.init) s.span.rx ix x } }

/-- A message under assembly is given up (R384): the deposit engine answers a deposit whose header had arrived TRUNCATED (R127). -/
def State.giveMessage (s : State) (ix : Nat) : State :=
  let r := s.cellRx ix
  let s := s.setCellRx ix { r with msg := none }
  match r.msg with
  | some (0x02, data, _) => if ix = 1 ∧ 72 ≤ data.length then s.truncate (fld data 0 2) (fld data 4 4) (data.drop 8) else s
  | _ => s

/-- A whole message has arrived: the firewall judges it (R387, R388), it waits at its island, and it counts as valid. A TIME is stamped where its
cell arrived (R382). -/
def State.wholeCells (s : State) (dir : Side) (typ : Nat) (b : Bytes) : State :=
  match dir with
  | .host =>
    match s.firewall typ b with
    | 0 => { s with span := { s.span with inF := s.span.inF ++ [(typ, b)], validF := s.now
                                          timeAt := if typ = 4 then some (s.tim.slave.fine s.now) else s.span.timeAt } }
    | r => s.dropF r typ
  | .field =>
    match shapeReason (fieldBody typ) b.length with
    | 0 => { s with span := { s.span with inH := s.span.inH ++ [(typ, b)], validH := s.now } }
    | r => s.dropH r typ

/-- A cell takes its place in CellSeq order: it starts, extends or ends a message; an erroneous one spoils it. -/
def State.orderCell (s : State) (dir : Side) (ix : Nat) (c : Cell) : State :=
  let s := if c.first then s.giveMessage ix else s
  let r := s.cellRx ix
  let r := if c.first then { r with msg := some (c.typ, [], false) } else r
  match r.msg with
  | none => s.setCellRx ix r
  | some (typ, data, bad) =>
    let bad := bad || c.bad
    let data := if bad then data else data ++ c.data
    let s := s.setCellRx ix { r with msg := some (typ, data, bad) }
    if !c.last then s
    else if bad then s.giveMessage ix
    else (s.setCellRx ix { s.cellRx ix with msg := none }).wholeCells dir typ data

/-- The cells held that are next in order leave the receiver. -/
def State.drainCells (s : State) (dir : Side) (ix : Nat) : Nat → State
  | 0 => s
  | n + 1 =>
    let r := s.cellRx ix
    match r.held.find? (fun c => c.seq == r.next) with
    | none => s
    | some c =>
      let s := s.setCellRx ix { r with held := r.held.filter (fun d => d.seq != c.seq), next := (r.next + 1) % 65536 }
      State.drainCells (s.orderCell dir ix c) dir ix n

/-- The cell that a control block and 252 bytes spell (R383). `crc` is the CRC-32 received. -/
def cellOf (ctrl : Block) (data : Bytes) (crc chan now : Nat) : Cell :=
  let w := ctrl.toNat
  let n := bits w 47 40
  { seq := bits w 39 24, typ := bits w 15 8, first := bit w 16, last := bit w 17, data := data.take n
    bad := bits w 23 19 != 0 || bits w 55 48 != 0 || n == 0 || decide (252 < n) || data.length != 252 || crc32 data != crc
    chan := chan, at_ := now }

/-- `SPAN_CELL` (R384): a control block and its data arrive on a channel in use. A bad Check leaves the CellSeq unknown; any other error spoils
the message that the cell belongs to. -/
def execSpanCell (t chan : Nat) (ctrl : Block) (data : Bytes) (crc : Nat) (s : State) : Host.Outcome State Fault Refusal :=
  cmd t s (fun s =>
    let dir := chanSender chan
    if 12 ≤ chan ∨ !s.chanOpen chan ∨ s.nat (Obj.SpanChannel.state chan) ≠ 2 ∨ bits ctrl.toNat 7 0 = 0x1E then s
    else
      let s := s.bump (Obj.SpanChannel.cellsCarried chan) 64
      if !checkOk ctrl ∨ bits ctrl.toNat 7 0 ≠ 0x5A then s.cellError chan
      else
        let c := cellOf ctrl data crc chan s.now
        let ix := rxIx dir (bits ctrl.toNat 18 18)
        let s := if c.bad then s.cellError chan else s
        let r := s.cellRx ix
        if sext 16 ((c.seq : Int) - r.next) < 0 ∨ r.held.any (fun d => d.seq == c.seq) then s
        else (s.setCellRx ix { r with held := r.held ++ [c] }).drainCells dir ix (r.held.length + 1))

/-- `CELL_MISSING` (R384): a CellSeq still missing 100 ns after a later cell of its class is a cell error, on a channel that is a free value, and
spoils the message under assembly. -/
def execCellMissing (t : Nat) (dir : Side) (cls : Nat) (s : State) : Host.Outcome State Fault Refusal :=
  cmd t s (fun s =>
    let ix := rxIx dir cls
    let r := s.cellRx ix
    if !r.held.any (fun c => decide (c.at_ + 1000 ≤ s.now)) then s
    else
      let (n, s) := s.fresh
      let s := s.cellError ((match dir with | .host => 0 | .field => 6) + n % 6)
      let m := match r.msg with | some (typ, d, _) => some (typ, d, true) | none => none
      (s.setCellRx ix { r with next := (r.next + 1) % 65536, msg := m }).drainCells dir ix (r.held.length + 1))

/-! ### Sending (R386) -/

/-- A LINK_STATE of an island: RxGood, TxUse, Count, and the counters of the channels that it receives. -/
def State.linkStateBody (s : State) (side : Side) : Bytes :=
  let (good, use, base) := match side with
    | .host => (s.span.goodF2H, s.span.useH2F, 6)
    | .field => (s.span.goodH2F, s.span.useF2H, 0)
  leBytes 1 good ++ leBytes 1 use ++ leBytes 2 0 ++ leBytes 4 s.span.counts
    ++ ((List.range 6).map (fun i => let x := s.spanChan (base + i)
        leBytes 4 x.bad ++ leBytes 2 x.ins ++ leBytes 2 x.del)).flatten

/-- `SPAN_PERIODIC_SEND` (R386): the messages of each millisecond, once it has passed, from each island that is out of reset and has a channel in use. -/
def execSpanPeriodicSend (t : Nat) (s : State) : Host.Outcome State Fault Refusal :=
  cmd t s (fun s =>
    if (match s.span.sentAt with | some a => decide (s.now < a + ms) | none => false) then s
    else
    let s : State := { s with span := { s.span with counts := (s.span.counts + 1) % 2 ^ 32, sentAt := some s.now } }
    let s := if s.rst.host.active ∨ s.span.useH2F = 0 then s
      else (s.toField 0x04 (leBytes 4 s.span.counts ++ spanTimeBytes s.tim.master.val ++ leBytes 8 s.tim.master.inc)).toField 0x81 (s.linkStateBody .host)
    if s.rst.field.active ∨ s.span.useF2H = 0 then s
    else (s.toHost 0x48 s.fieldStatusBody).toHost 0x81 (s.linkStateBody .field))

/-! ### Loss (R392, R393) -/

/-- The Span is judged lost by one island: counted once for both, and both must hear a LINK_STATE before it is restored. -/
def State.loseSpan (s : State) : State :=
  let s := if s.span.lostH || s.span.lostF then s else s.inc Obj.SpanControl.losses
  { s with span := { s.span with linkH := false, linkF := false } }

/-- `SPAN_LOST_FIELD` (R392): no valid message from the host island for `LossTimeout`. -/
def execSpanLostField (t : Nat) (s : State) : Host.Outcome State Fault Refusal :=
  fieldCmd t s (fun s =>
    if s.span.lostF ∨ !s.rst.field.run ∨ s.now < s.span.validF + s.span.fieldLoss * ms then s
    else
      let s := s.loseSpan
      let s : State := { s with span := { s.span with lostF := true } }
      ((s.ev Ev.spanLost).giveMessage 1).holdOnLoss)

/-- `SPAN_LOST_HOST` (R393): no valid message from the field island for `LossTimeout`; waiting STRIPs are answered with status 7. -/
def execSpanLostHost (t : Nat) (s : State) : Host.Outcome State Fault Refusal :=
  access t s (fun s =>
    if s.span.lostH ∨ s.nat Obj.SpanControl.state ≠ 1 ∨ s.now < s.span.validH + s.nat Obj.SpanControl.lossTimeout * ms then s
    else
      let s := s.loseSpan
      let s := State.setN { s with span := { s.span with lostH := true } } Obj.SpanControl.state 2
      let s := s.openSessions.foldl (fun s i =>
        let l := (s.sess i).strips
        l.foldl (fun s w => (s.stripAck i w 7).abortDeposit w 2) (s.setSess i { s.sess i with strips := [] })) s
      s.hev Ev.spanLost)

end Sys2Proof.Machine
end

