-- ==== Sys2Proof/Machine/Cycle.lean ====
section
/-! DEFINITION. The control cycle (R33, R407): what runs once every 25,000 ns of the field time base. -/

namespace Sys2Proof.Machine

/-- The sum F of R217 in Q16.16: the drops of each energy class since the last cycle by their weights. -/
def heatSum (d : Dict) (h : Nat) (l : List Nat) : Int :=
  ((List.range 4).map (fun c => (l.getD c 0 : Int) * dnum d (Obj.HeadThermal.heatWeight h c))).sum

/-- One run of the warming loop in Q16.16 (R217): the integrator and the pulse count. Products of two Q16.16 values round as log entry
11 says. -/
def warmStep (kp ki i f e : Int) (maxPulses : Nat) : Int × Int :=
  let u := freeDiv (kp * e) 65536 + i - f
  let top : Int := maxPulses * 65536
  let i' := if (0 ≤ u ∧ u ≤ top) ∨ (u < 0 ∧ 0 < e) ∨ (top < u ∧ e < 0) then clamp (i + freeDiv (ki * e) 65536) 0 top else i
  (i', clamp ((u + 32768) / 65536) 0 maxPulses)

/-- A WARM of head `h` leaves in the first gap between frames. -/
def State.sendWarm (s : State) (h : Nat) (n : Nat) : State :=
  (s.setN (Obj.HeadThermal.lastPulseCount h) n).sendCtrl h (warmBlock n (s.nat (Obj.HeadThermal.warmEnergy h)))

/-- The warming loop of head `h` (R214, R217): in Normal the PI loop, in Soft and Hard no pulses; else nothing is sent. -/
def State.warm (s : State) (h : Nat) : State :=
  let hd := s.head h
  if s.nat (Obj.HeadThermal.mode h) ≠ 1 ∨ !s.portUp h then s
  else match s.nat (Obj.HeadThermal.state h) with
  | 0 =>
    let e := (s.num (Obj.HeadThermal.tset h) - s.num (Obj.HeadThermal.temperature h)) * 1024
    let r := warmStep (s.num (Obj.HeadThermal.kp h)) (s.num (Obj.HeadThermal.ki h)) (s.num (Obj.HeadThermal.integrator h)) (heatSum s.dict h hd.heat) e
      (s.nat (Obj.HeadThermal.maxWarmPulses h))
    (s.setN (Obj.HeadThermal.integrator h) r.1).sendWarm h r.2.toNat
  | 1 | 2 => s.sendWarm h 0
  | _ => s

/-- OWN goes out on every HTX lane of the link of `h` with each claim that its UP ports make; the first port of a link serves it. -/
def State.sendOwn (s : State) (h : Nat) : State :=
  if (s.link h).head? ≠ some h then s
  else (((s.link h).filter (fun p => s.portUp p)).filterMap (fun p => (s.port p).claim)).eraseDups.foldl (fun s e => s.sendCtrl h (ownBlock e)) s

/-- OWN goes to every UP port with its claim, and the warming loops run, while the part is SOLO or ACTIVE (R186, R217, R468). -/
def State.serveHeads (s : State) : State :=
  if !s.owner then s
  else
    let s := s.each (List.range 64) (fun s h => s.sendOwn h)
    s.each ((List.range 64).filter (fun h => s.portUp h)) (fun s h => s.warm h)

/-- The drops that each head has fired since the last cycle are forgotten (R217). -/
def State.coolHeads (s : State) : State :=
  s.each ((List.range 64).filter (fun h => !(s.head h).heat.isEmpty)) (fun s h => s.setHead h { s.head h with heat := [] })

/-- The IDLE blocks of one receiver since the last cycle join its counts (R185, R381, R471); a receiver that is not locked counts none. -/
def State.countIdles (s : State) (x : IdleCount) : State :=
  match x.lane with
  | .pier h =>
    if h < s.nHeads ∧ (s.port h).locked ∧ s.portState h ≠ 6 then
      (s.bump (Obj.PortStatus.idleInserted h) 32 x.ins).bump (Obj.PortStatus.idleDeleted h) 32 x.del
    else s
  | .span c =>
    if c < 6 then s.setSpanChan c { s.spanChan c with ins := ((s.spanChan c).ins + x.ins) % 65536, del := ((s.spanChan c).del + x.del) % 65536 }
    else if c < 12 then (s.bump (Obj.SpanChannel.idleInserted c) 32 x.ins).bump (Obj.SpanChannel.idleDeleted c) 32 x.del
    else s
  | .stay l =>
    if l < 2 ∧ s.nat (Obj.StayLane.state l) = 2 then
      (s.bump (Obj.StayLane.idleInserted l) 32 x.ins).bump (Obj.StayLane.idleDeleted l) 32 x.del
    else s

/-- What leaves on the Stay link in a cycle (R472-R474): STATUS, an ACTIVE's record, and PROBE once per second. -/
def State.serveStay (s : State) : State :=
  if !s.hasStay ∨ s.role = 0 then s
  else
    let s := s.stay 0x03 (s.statusBody s.role)
    let s := if s.role = 1 then s.checkBacklog.sendMirror false else s
    if s.dux.probeAt + oneSec ≤ s.now then s.sendProbe else s

/-- The field time base has just reached a multiple of 25,000 ns, with the next cycle due at it or before (R33, R407). -/
def State.cycleDue (s : State) : Bool :=
  let x := s.tim.slave
  let m := x.ns / 25000 * 25000
  decide (x.val % 2 ^ 32 + (x.ns - m) * 2 ^ 32 < x.inc) && (match s.tim.cycleNext with | some c => decide (c ≤ m) | none => true)

/-- `CONTROL_CYCLE` (R33, R407): no effect where no cycle begins; `temps` are the die's sensors (R451), `idles` what the receivers' rate
matching has done (log entry 146). -/
def execControlCycle (t : Nat) (rep : CycleReport) (s : State) : Host.Outcome State Fault Refusal :=
  fieldCmd t s (fun s =>
    let ns := s.tim.slave.ns
    if !s.cycleDue then s
    else
      let s : State := { s with tim := { s.tim with cycleAt := s.now, cycleNext := some ((ns / 25000 + 1) * 25000) } }
      let s := rep.idles.foldl (fun s x => s.countIdles x) s
      if !s.rst.field.run then s.coolHeads
      else
        let s := if (s.log .field).overflow then s.machineryFails .field else s
        let s := s.runSteps.crossCheck.overspeed
        let s := ((s.healthCycle).dieTemps rep.temps).serveWaits.holdOnLoss
        s.serveHeads.coolHeads.serveStay)

end Sys2Proof.Machine
end

