-- ==== Sys2Proof/Machine/Dictionary.lean ====
section
/-! DEFINITION. The accesses of the object dictionary: reads, writes, commit groups and DOMAIN transfers (R326-R342). -/

namespace Sys2Proof.Machine

/-! ### Values read -/

/-- The numeric objects whose default is the part's own: what its fuses or firmware hold (R352, R378, R430, R506). -/
def partKey (key : Nat) : Bool :=
  [Obj.DictionaryInfo.dictionaryVersion, Obj.DictionaryInfo.objectCount, Obj.Security.jtagIdcode].contains key
    || (List.range 5).any (fun i => key == Obj.HostPort.macAddress i) || (List.range 2).any (fun i => key == Obj.Clocks.ioscTrim i)

/-- The session-relative objects of a session (R330). -/
def State.ownCopy (s : State) (i sub : Nat) : Int :=
  let x := s.sess i
  match sub with
  | 0 => 6
  | 1 => s.num (Obj.Session.role i)
  | 2 => x.staging
  | 3 => x.streams
  | 4 => x.classMin
  | 5 => x.evLost
  | _ => (s.groups.transfers.filter (fun t => t.sess == i)).length

/-- Seconds that remain of the debug grant (R503). -/
def State.grantLeft (s : State) : Nat :=
  match s.sec.grantEnd with
  | some e => if s.nat Obj.Debug.level = 0 then 0 else cdiv (e - s.now) oneSec
  | none => if s.nat Obj.Debug.level = 0 then 0 else 0xFFFFFFFF

/-- The levels at the GPIO balls (R533): what an output drives; the level of any other ball is the world's, a free value. -/
def State.gpioIn (s : State) (world : Nat) : Nat :=
  bankBits ((List.range 16).map (fun n =>
    if bit (s.nat Obj.Gpio.direction) n && !(bit (s.nat Obj.Gpio.openDrain) n && bit (s.nat Obj.Gpio.output) n)
    then bit (s.nat Obj.Gpio.output) n else bit world n))

/-- An entry of the mirror as a read gives it; one that could not be read reads as open values (R291). -/
def mirrorBytes (p : Option EventRec × Nat) : Bytes :=
  match p.1 with
  | some e => e.entry
  | none => (List.range 32).map (fun (i : Nat) => BitVec.ofNat 8 (Config.openVal 5 [p.2, i]))

/-- The bytes of a DOMAIN or STRING object: those that the model computes at each read, the part's own, the value in force, or the table of
its default. -/
def State.domain (s : State) (key : Nat) : Bytes :=
  let ix := key / 256
  if inRec 0x1200 256 ix then ((s.staged (ix - 0x1200)).map (fun e => entryBytes e.1 e.2)).flatten
  else if key = Obj.NozzleTable.nozzleTable then ((List.range s.pool).map (fun n => leBytes 8 ((nzEntry s.screen.ntab n : Nat) : Int))).flatten
  else if inRec 0x4340 64 ix ∧ key % 256 = 7 then
    let l := (s.head (ix - 0x4340)).record.filter (·.final)
    ((l.drop (l.length - 256)).map (FireRec.bytes (ix - 0x4340))).flatten
  else if key = Obj.hostLog then (s.flt.hostLog.entries.map EventRec.entry).flatten
  else if key = Obj.fieldLog then (s.flt.fieldLog.entries.map EventRec.entry).flatten
  else if key = Obj.fieldMirror then (s.flt.mirror.zipIdx.map mirrorBytes).flatten
  else if key = Obj.Security.rootKeyHash ∨ key = Obj.Security.deviceKey ∨ key = Obj.Security.deviceCertificate then Config.partBytes key
  else if s.byt key = [] then s.defaultTable key else s.byt key

/-- The number of a numeric object as a read gives it. -/
def State.number (s : State) (sess key : Nat) : Int :=
  if key / 256 = 0x1180 then s.ownCopy sess (key % 256)
  else if key = Obj.MasterTime.now then s.tim.master.ns
  else if key = Obj.SlaveTime.now then s.tim.slave.ns
  else if key = Obj.Debug.grantRemaining then s.grantLeft
  else if key = Obj.DuplexStatus.backlog then s.backlog
  else if inRec 0x3018 2 (key / 256) ∧ key = Obj.EncoderStatus.flags (key / 256 - 0x3018) then
    (setBit (s.nat key) 4 (s.storms (key / 256 - 0x3018)) : Nat)
  else if partKey key ∧ s.num key = 0 then ((Config.partNum key s.ident.uniqueId % 2 ^ 48 : Nat) : Int)
  else s.num key

/-- A read of an object: its value's bytes, and the state after it. A read of `DebugChallenge` draws a challenge (R503), one of a capture
unit's `Records` removes them (R408), one of a domain's `Forced` clears it (R430), as one of an encoder's flags clears [1] IllegalTransition (R75)
and one of a head's `LateData` clears it (R218), and one of the GPIO balls sees the world. -/
def State.readObject (s : State) (a : Caller) (key : Nat) (ty : Ty) : Bytes × State :=
  let ix := key / 256
  if key = Obj.Debug.debugChallenge then s.challenge
  else if key = Obj.Gpio.input then
    let (n, s) := s.fresh
    (leBytes 2 (s.gpioIn n), s)
  else
    let b := match ty with
      | .str | .dom => s.domain key
      | _ => encodeVal ty (.num (s.number a.sess key))
    if inRec 0x1620 8 ix ∧ key = Obj.Capture.records (ix - 0x1620) then (b, s.takeRecords (ix - 0x1620))
    else if inRec 0x2002 4 ix ∧ key = Obj.DomainSwitch.forced (ix - 0x2002) then (b, s.setF key false)
    else if inRec 0x3018 2 ix ∧ key = Obj.EncoderStatus.flags (ix - 0x3018) then (b, s.encFlag (ix - 0x3018) 1 false)
    else if inRec 0x4340 64 ix ∧ key = Obj.HeadFiring.lateData (ix - 0x4340) then (b, s.setF key false)
    else (b, s)

/-- The absent value of a type (R12). -/
def absentValue (ty : Ty) : Bytes := match ty with | .str | .dom => [] | _ => encodeVal ty (.num 0)

/-- A read by a caller (R329, R333, R366). -/
def State.get (s : State) (a : Caller) (key : Nat) : State :=
  match s.permit a.role key false, descOf key with
  | 0, some d =>
    if s.absent key then s.answer a.sess 0 (readBody d.ty.code (absentValue d.ty))
    else
      let (b, s) := s.readObject a key d.ty
      s.answer a.sess 0 (readBody d.ty.code b)
  | c, _ => s.answer a.sess c

/-- `READ` (R366). -/
def execRead (t : Nat) (a : Caller) (ix sub : Nat) (s : State) : Host.Outcome State Fault Refusal :=
  if vendorAccess a.role ix then .refused .vendorObject
  else access t s (fun s => s.get a (ix * 256 + sub))

/-! ### Writes -/

/-- A write of a caller, with the type that the message names (R327, R366). -/
def State.putTyped (s : State) (a : Caller) (key ty : Nat) (v : Bytes) : State :=
  match s.permit a.role key true, descOf key with
  | 0, some d => if d.ty.code ≠ ty then s.answer a.sess 0x02020001 else s.put a key v
  | c, _ => s.answer a.sess c

/-- `OBJECT_WRITE` (R328). -/
def execObjectWrite (t : Nat) (a : Caller) (ix sub ty : Nat) (v : Bytes) (s : State) : Host.Outcome State Fault Refusal :=
  if vendorAccess a.role ix then .refused .vendorObject
  else access t s (fun s => s.putTyped a (ix * 256 + sub) ty v)

/-- `STAGING_WRITE` (R336): a write of an RWS object; another object has its own rows. -/
def execStagingWrite (t : Nat) (a : Caller) (ix sub ty : Nat) (v : Bytes) (s : State) : Host.Outcome State Fault Refusal :=
  if vendorAccess a.role ix then .refused .vendorObject
  else access t s (fun s =>
    match descOf (ix * 256 + sub) with
    | some d => if d.acc = .rws ∨ s.permit a.role (ix * 256 + sub) true ≠ 0 then s.putTyped a (ix * 256 + sub) ty v else s
    | none => s.putTyped a (ix * 256 + sub) ty v)

/-! ### Commit groups -/

/-- `GROUP_COMMIT` (R337). -/
def execGroupCommit (t : Nat) (a : Caller) (g : Nat) (v : Bytes) (s : State) : Host.Outcome State Fault Refusal :=
  access t s (fun s => s.writeKeep a (Obj.CommitGroup.commit g) v (fun _ => wrCommit g))

/-- `GROUP_DISCARD` (R336). -/
def execGroupDiscard (t : Nat) (a : Caller) (g : Nat) (v : Bytes) (s : State) : Host.Outcome State Fault Refusal :=
  access t s (fun s => s.write a (Obj.CommitGroup.discard g) v (fun _ => wrDiscard g))

/-- `BINDING_WRITE` (R335). -/
def execBindingWrite (t : Nat) (a : Caller) (g : Nat) (v : Bytes) (s : State) : Host.Outcome State Fault Refusal :=
  access t s (fun s => s.write a (Obj.CommitGroup.binding g) v (wrBinding g))

/-! ### DOMAIN transfers (R340-R342) -/

/-- The header of a block (R340). -/
def blockHead (key flags off total len change : Nat) : Bytes :=
  leBytes 2 ((key / 256 : Nat) : Int) ++ leBytes 1 ((key % 256 : Nat) : Int) ++ leBytes 1 flags ++ leBytes 4 off ++ leBytes 4 total ++ leBytes 2 len
    ++ leBytes 2 change

/-- The key that a block names. -/
def blockKey (b : Bytes) : Nat := fld b 0 2 * 256 + fld b 2 1

/-- A read block of a caller (R342): read atomically; what a read takes with it happens with the block that ends the object. -/
def State.getBlock (s : State) (a : Caller) (block : Bytes) : State :=
  let key := blockKey block
  let off := fld block 4 4; let n := fld block 12 2
  match s.permit a.role key false, descOf key with
  | 0, some d =>
    if d.ty ≠ .dom then s.answer a.sess 0x02020001
    else if block.length ≠ 16 ∨ !bit (fld block 3 1) 2 then s.answer a.sess 0x02030001
    else if 8 ≤ fld block 3 1 ∨ 4096 < n then s.answer a.sess 0x02010001
    else
      let (b, s') := if s.absent key then ([], s) else s.readObject a key d.ty
      let part := sub b off n
      let fin := decide (b.length ≤ off + n)
      let fl := (if off = 0 then 1 else 0) + (if fin then 2 else 0) + 4
      let h := blockHead key fl off b.length part.length (smGet (fun _ => 0) s.chg key)
      (if fin then s' else s).answer a.sess 0 (h ++ part)
  | c, _ => s.answer a.sess c

/-- `DOMAIN_READ_BLOCK` (R342). -/
def execDomainReadBlock (t : Nat) (a : Caller) (block : Bytes) (s : State) : Host.Outcome State Fault Refusal :=
  if vendorAccess a.role (fld block 0 2) then .refused .vendorObject else access t s (fun s => s.getBlock a block)

/-- The open write transfer of a session to an object. -/
def State.transfer (s : State) (i key : Nat) : Option Transfer := s.groups.transfers.find? (fun x => x.sess == i && x.key == key)

/-- The transfer of a session to an object ends. -/
def State.endTransfer (s : State) (i key : Nat) : State :=
  { s with groups := { s.groups with transfers := s.groups.transfers.filter (fun x => !(x.sess == i && x.key == key)) } }

/-- Whether a length lies in the range of an object: that of a table of zeros of the length. -/
def Desc.fits (d : Desc) (n : Nat) : Bool := decide (n ≤ 32 * mib) && d.rng (.bytes (List.replicate n 0#8))

/-- A block joins a transfer (R341): contiguous, of 4,096 bytes unless last, ending at TotalLength with Last set. None where it does not
fit; else the transfer and whether it is complete. -/
def Transfer.take (x : Transfer) (now : Nat) (block : Bytes) : Option (Transfer × Bool) :=
  let data := block.drop 16
  let fin := bit (fld block 3 1) 1
  let stop := x.data.length + data.length
  if fld block 4 4 = x.data.length ∧ fld block 8 4 = x.total ∧ fld block 12 2 = data.length ∧ data.length ≤ 4096
      ∧ (if fin then stop = x.total else data.length = 4096 ∧ stop < x.total) then
    some ({ x with data := x.data ++ data, last := now }, fin)
  else none

/-- A write block of a caller, once the checks of R333 before the transfer's have passed: those of the transfer, of its values, of its state and
of resources, in that order. A First block takes the place of an open transfer to the object. -/
def State.writeBlock (s : State) (a : Caller) (key : Nat) (d : Desc) (block : Bytes) : State :=
  let first := bit (fld block 3 1) 0
  let s := match s.transfer a.sess key with
    | some x => if x.last + oneSec < s.now then s.endTransfer a.sess key else s
    | none => s
  if d.ty ≠ .dom then s.answer a.sess 0x02020001
  else if block.length < 16 ∨ bit (fld block 3 1) 2 then s.answer a.sess 0x02030001
  else
    let odd := decide (8 ≤ fld block 3 1 ∨ fld block 14 2 ≠ 0)
    let open_ := if first then some { sess := a.sess, key := key, data := [], total := fld block 8 4, last := s.now } else s.transfer a.sess key
    match open_ with
    | none => s.answer a.sess (if odd then 0x02010001 else 0x0301000C)
    | some x =>
      match x.take s.now block with
      | none => (s.endTransfer a.sess key).answer a.sess 0x02030001
      | some (x, fin) =>
        let others := s.groups.transfers.filter (fun y => y.sess == a.sess && y.key != key)
        if odd ∨ (first ∧ !d.fits x.total) then s.answer a.sess 0x02010001
        else if first ∧ 8 ≤ others.length then s.answer a.sess 0x06010009
        else
          let s := s.endTransfer a.sess key
          if fin then s.put a key x.data
          else { s with groups := { s.groups with transfers := s.groups.transfers ++ [x] } }.answer a.sess 0

/-- A write block of a caller (R341). -/
def State.putBlock (s : State) (a : Caller) (block : Bytes) : State :=
  let key := blockKey block
  match s.permit a.role key true, descOf key with
  | 0, some d => s.writeBlock a key d block
  | c, _ => s.answer a.sess c

/-- `DOMAIN_WRITE_BLOCK` (R341). -/
def execDomainWriteBlock (t : Nat) (a : Caller) (block : Bytes) (s : State) : Host.Outcome State Fault Refusal :=
  if vendorAccess a.role (fld block 0 2) then .refused .vendorObject else access t s (fun s => s.putBlock a block)

/-- `DOMAIN_TRANSFER_TIMEOUT` (R341): more than 1 s since the last block. -/
def execDomainTransferTimeout (t sess ix sub : Nat) (s : State) : Host.Outcome State Fault Refusal :=
  cmd t s (fun s =>
    match s.transfer sess (ix * 256 + sub) with
    | some x => if x.last + oneSec < s.now then s.endTransfer sess (ix * 256 + sub) else s
    | none => s)

end Sys2Proof.Machine
end

