-- ==== Sys2Proof/Machine/Faults.lean ====
section
/-! DEFINITION. The commands of the fault machinery (spec/23) and the two faults of the field cores that R487 names. -/

namespace Sys2Proof.Machine

/-- `FAULT_LOG_WRITE` (R513): one queued entry of an island's part is written, 256 ns after its writing began. -/
def execFaultLogWrite (t : Nat) (isl : Side) (s : State) : Host.Outcome State Fault Refusal := cmd t s (fun s => if s.entryDue isl then s.writeEntry isl else s)

/-- `QUIET_TIME` (R514). -/
def execQuietTime (t subsys inst : Nat) (s : State) : Host.Outcome State Fault Refusal := cmd t s (fun s => s.quietDown subsys inst)

/-- `HANDLER_OVERRUN` (R518). -/
def execHandlerOverrun (t : Nat) (isl : Side) (s : State) : Host.Outcome State Fault Refusal :=
  islandCmd t isl s (fun s => s.machineryFails isl)

/-- `FAULT_ACK` (R519). -/
def execFaultAck (t : Nat) (a : Caller) (v : Bytes) (s : State) : Host.Outcome State Fault Refusal :=
  access t s (fun s => s.write a Obj.FaultControl.faultAck v (fun _ => wrFaultAck))

/-- `POWER_CYCLE_REQUEST` (R520). -/
def execPowerCycleRequest (t : Nat) (a : Caller) (v : Bytes) (s : State) : Host.Outcome State Fault Refusal :=
  access t s (fun s => s.write a Obj.FaultControl.powerCycleRequest v (fun _ => wrPowerCycle))

/-- `LOG_CLEAR` (R511). -/
def execLogClear (t : Nat) (a : Caller) (v : Bytes) (s : State) : Host.Outcome State Fault Refusal :=
  access t s (fun s => s.write a Obj.FaultControl.logClear v wrLogClear)

/-- `LOCKSTEP_MISMATCH` (R487, cause 1). -/
def execLockstepMismatch (t : Nat) (s : State) : Host.Outcome State Fault Refusal := fieldCmd t s (fun s => s.giveUp 1)

/-- `DECK_MEMORY_ECC_ERROR` (R487, cause 2). -/
def execDeckMemoryEccError (t : Nat) (s : State) : Host.Outcome State Fault Refusal := fieldCmd t s (fun s => s.giveUp 2)

end Sys2Proof.Machine
end

