-- ==== Sys2Proof/Machine/Images.lean ====
section
/-! DEFINITION. The commands of the Renvos configuration image (R346-R352). -/

namespace Sys2Proof.Machine

/-- `IMAGE_SAVE` (R349). -/
def execImageSave (t : Nat) (a : Caller) (v : Bytes) (s : State) : Host.Outcome State Fault Refusal :=
  access t s (fun s => s.write a Obj.ImageControl.imageSave v (fun _ => wrImageSave))

/-- `IMAGE_SAVED` (R349): the flash write ends. -/
def execImageSaved (t : Nat) (good : Bool) (s : State) : Host.Outcome State Fault Refusal :=
  hostCmd t s (fun s =>
    match s.flash.saving with
    | none => s
    | some (c, b) =>
      let f := { s.flash with saving := none }
      if good then
        let s : State := { s with flash := f.setCopy c b }
        (((s.setN Obj.ImageControl.saveState 2).setN Obj.ImageStatus.imageBytes b.length).showCopies).hev Ev.imageSaved
      else ((({ s with flash := f }).setN Obj.ImageControl.saveState 3).showCopies).hev Ev.imageSaveFailed)

/-- `IMAGE_INVALIDATE` (R352). -/
def execImageInvalidate (t : Nat) (a : Caller) (v : Bytes) (s : State) : Host.Outcome State Fault Refusal :=
  access t s (fun s => s.write a Obj.ImageControl.imageInvalidate v wrInvalidate)

end Sys2Proof.Machine
end

