-- ==== Sys2Proof/Machine/ImageLoad.lean ====
section
/-! DEFINITION. The load of a Renvos image at start-up (R15, R350, R351). -/

namespace Sys2Proof.Machine

/-! ### Loading (R15, R351) -/

/-- The caller that a load stands for: role V, `StagingGroup` 0xFF. -/
def loader : Caller := { sess := 0xFFFF, role := .v }

/-- The entries of an area: key, type code and value. -/
def parseArea : Nat → Bytes → List (Nat × Nat × Bytes)
  | 0, _ => []
  | n + 1, b =>
    if b.length < 8 then []
    else
      let len := fld b 4 4
      (fld b 0 2 * 256 + fld b 2 1, fld b 3 1, sub b 8 len) :: parseArea n (b.drop (8 + (len + 3) / 4 * 4))

/-- The counts of a load: applied, absent, refused. -/
structure LoadCount where
  applied : Nat
  absent : Nat
  refused : Nat
  deriving DecidableEq, Repr

/-- The checks of a loaded value before its effect: its object, its writing roles, its type and its range. The firmware that loads it reaches
every block of its island, so the checks of R333 for availability and gating do not arise. -/
def loadCheck (key ty : Nat) (v : Bytes) : Option (Desc × Val) :=
  match descOf key with
  | none => none
  | some d =>
    if d.acc = .ro ∨ !bit d.roles (roleCode .v) ∨ d.ty.code ≠ ty then none
    else match decodeVal d.ty v with
      | some x => if d.rng x then some (d, x) else none
      | none => none

/-- One entry is applied as a write of role V. -/
def State.loadEntry (s : State) (n : LoadCount) (key ty : Nat) (v : Bytes) : State × LoadCount :=
  if s.absent key then (s, { n with absent := n.absent + 1 })
  else
    let bad := (s, { n with refused := n.refused + 1 })
    match loadCheck key ty v with
    | none => bad
    | some (d, x) =>
      let (s', c) := match d.acc with
        | .rws => s.stage (s.groupFor 0xFF key) key x
        | .rwl => wrRwl key x s
        | _ => effect true loader key x s
      if c = 0 then (s', { n with applied := n.applied + 1 }) else bad

/-- The dictionary with every staged value laid over it. -/
def State.staging (s : State) : Dict := overlay s.dict ((s.groups.staged.map (·.2)).flatten)

/-- The rules between an index's subindexes, once its last entry is applied or staged: the whole index returns to its defaults where one fails,
its staged values included. -/
def State.closeIndex (s : State) (n : LoadCount) (ix : Nat) : State × LoadCount :=
  let only := s.staging.filter (fun p => p.1 / 256 == ix)
  if relatedOk s.dict ix && orderOk only then (s, n)
  else
    let s := s.groups.staged.foldl (fun s g =>
      if g.2.any (fun p => p.1 / 256 == ix) then s.setStaged g.1 (g.2.filter (fun p => p.1 / 256 != ix)) else s) s
    ({ s with dict := s.dict.filter (fun p => p.1 / 256 != ix) }, { n with refused := n.refused + 1 })

/-- Entries in stored order. -/
def State.loadEntries : State → LoadCount → List (Nat × Nat × Bytes) → State × LoadCount
  | s, n, [] => (s, n)
  | s, n, e :: r =>
    let (s, n) := s.loadEntry n e.1 e.2.1 e.2.2
    let ends := match r with | [] => true | f :: _ => f.1 / 256 != e.1 / 256
    let (s, n) := if ends then s.closeIndex n (e.1 / 256) else (s, n)
    s.loadEntries n r

/-- An image's entries of one island are applied (R351). -/
def State.loadImage (s : State) (side : Side) (b : Bytes) : State :=
  let l := (parseArea (fld b 16 4) (sub b 64 (fld b 12 4))).filter (fun e => isField (e.1 / 256) == (side == .field))
  let (s, n) := s.loadEntries ⟨0, 0, 0⟩ l
  let s := if side = .field then
      (s.groups.staged.map (·.1)).foldl (fun s g => (s.commit g (s.commitLine g)).1) s
    else s
  let add := fun (s : State) (key k : Nat) => s.bump key 32 k
  let s := add (add (add s Obj.ImageStatus.entriesApplied n.applied) Obj.ImageStatus.skippedAbsent n.absent) Obj.ImageStatus.refusedValues n.refused
  let s := if n.refused ≠ 0 then s.hev Ev.imageValueRefused else s
  if n.absent ≠ 0 then s.hev Ev.imageAbsentSkipped else s

/-- The image status names the copy selected (R350, R351). -/
def State.showLoaded (s : State) (c : Nat) : State :=
  let b := s.flash.copy c
  let s := (s.showCopies).setN Obj.ImageStatus.loadedCopy c
  if c = 0 then ((s.setN Obj.ImageStatus.loadedSequence 0).setF Obj.ImageStatus.foreign false).hev Ev.imageNone
  else (s.setN Obj.ImageStatus.loadedSequence (fld b 8 4)).setF Obj.ImageStatus.foreign (fld b 24 8 != s.ident.uniqueId)

/-- Host boot selects a copy and applies its host entries (R350, R351). -/
def State.bootImage (s : State) : State :=
  let c := s.selectCopy
  let s := ((s.setN Obj.ImageStatus.entriesApplied 0).setN Obj.ImageStatus.skippedAbsent 0).setN Obj.ImageStatus.refusedValues 0
  let s := s.showLoaded c
  if c = 0 then s else s.loadImage .host (s.flash.copy c)

/-- Field boot applies the field entries of the newest valid copy (R351, R444); `again`: the field island alone has started, and the copy is
selected again. -/
def State.bootFieldImage (s : State) (again : Bool) : State :=
  let c := s.selectCopy
  let s := if again then s.showLoaded c else s
  if c = 0 then s else s.loadImage .field (s.flash.copy c)

end Sys2Proof.Machine
end

