-- ==== Sys2Proof/Machine/Resets.lean ====
section
/-! DEFINITION. The commands of resets and start-up (R431-R450, R536) and of the activation of a field image (R466). -/

namespace Sys2Proof.Machine

/-! ### Sources (R432, R433) -/

/-- Outputs of an island are high impedance while a rail is low (R532); those of the field island take the levels of R436 once it is good. -/
def State.driveHeld (s : State) : State :=
  let s := (List.range 64).foldl (fun s h => s.pin (.hstb h) false) (s.pin .webSlow false)
  (List.range 4).foldl (fun s c => s.driveTrig c false) (s.pin .faultN false)

/-- `POWER_ON_RESET` (R432, R532): a rail of an island is below its threshold, or the last one is above it again. -/
def execPowerOnReset (t : Nat) (isl : Side) (on : Bool) (s : State) : Host.Outcome State Fault Refusal :=
  cmd t s (fun s =>
    if on then (s.assertReset isl 0 0 none).emit (.hiZ isl)
    else
      let s := s.releaseSource isl 0 (s.now + 10 * ms)
      match isl with | .host => s | .field => s.driveHeld)

/-- `RAIL_DIP` (R536): a rail dips for `dur` ns; 2 µs or less is ignored. The source holds for 10 ms after the rail is good. -/
def execRailDip (t : Nat) (isl : Side) (dur : Nat) (s : State) : Host.Outcome State Fault Refusal :=
  cmd t s (fun s =>
    if dur ≤ 2000 then s
    else
      let s := (s.assertReset isl 0 0 (some (s.now + 10 * dur + 10 * ms))).emit (.hiZ isl)
      match isl with | .host => s | .field => s.driveHeld)

/-- `RESET_PIN` (R432): HRST_N or FRST_N has been low for 1 µs, or is high again. -/
def execResetPin (t : Nat) (isl : Side) (low : Bool) (s : State) : Host.Outcome State Fault Refusal :=
  cmd t s (fun s => if low then s.assertReset isl 1 2 none else s.releaseSource isl 1 s.now)

/-- `ISLAND_WATCHDOG` (R432, R487): running firmware has not serviced it for 100 ms. -/
def execIslandWatchdog (t : Nat) (isl : Side) (s : State) : Host.Outcome State Fault Refusal :=
  cmd t s (fun s =>
    let e := s.episode isl
    if e.active ∨ !e.run then s
    else
      let s := match isl with
        | .host => s
        | .field => if s.role = 1 then s.giveUp 6 else s
      s.assertReset isl 2 2 (some (s.now + 100 * us)))

/-- Slots in use are marked failed (R498). -/
def State.markUsed (s : State) (kinds : List Nat) : State :=
  let l := (kinds.flatMap (fun k => [2 * k, 2 * k + 1])).filter (fun k => s.flag (Obj.FirmwareSlot.inUse k))
  State.showSlots { s with flash := { s.flash with marked := l.foldl (fun m k => setBit m k true) s.flash.marked } }

/-- `BOOT_WATCHDOG` (R446, R447, R498): the start has failed. -/
def execBootWatchdog (t : Nat) (s : State) : Host.Outcome State Fault Refusal :=
  cmd t s (fun s =>
    match s.rst.watchdog with
    | none => s
    | some w =>
      if s.rst.recovery ∨ s.now < w + s.nat Obj.StartControl.bootWatchdog * ms then s
      else
        let s := s.setN Obj.StartControl.bootAttempts (min 255 (s.nat Obj.StartControl.bootAttempts + 1) : Nat)
        let s : State := (s.markUsed [0, 1]).hev Ev.startFailed
        let s : State := { s with rst := { s.rst with watchdog := none } }
        s.assertBoth 3 1 (some (s.now + 100 * us)))

/-- `THERMAL_TRIP` (R432): the die temperature in °C. -/
def execThermalTrip (t : Nat) (temp : Int) (s : State) : Host.Outcome State Fault Refusal :=
  cmd t s (fun s =>
    if 125 ≤ temp then s.assertBoth 6 1 none
    else if temp < 115 then (s.releaseSource .host 6 s.now).releaseSource .field 6 s.now
    else s)

/-- `WARM_RESET` (R432). -/
def execWarmReset (t : Nat) (a : Caller) (v : Bytes) (s : State) : Host.Outcome State Fault Refusal :=
  access t s (fun s => s.writeWarm a v)

/-- `HOST_ISLAND_RESET` (R432). -/
def execHostIslandReset (t : Nat) (a : Caller) (v : Bytes) (s : State) : Host.Outcome State Fault Refusal :=
  access t s (fun s => s.writeWarm a v)

/-- `FIELD_ISLAND_RESET` (R432). -/
def execFieldIslandReset (t : Nat) (a : Caller) (v : Bytes) (s : State) : Host.Outcome State Fault Refusal :=
  access t s (fun s => s.writeWarm a v)

/-! ### Release (R433, R434, R439) -/

/-- `RESET_RELEASE` (R434): every source of the episode has released; a COLD sequence clears the always-on domain and loads the fuses, any
other reaches its release point. -/
def execResetRelease (t : Nat) (isl : Side) (s : State) : Host.Outcome State Fault Refusal :=
  cmd t s (fun s =>
    let e := s.episode isl
    if !e.active ∨ e.seen = 0 ∨ e.loading ∨ e.asserted ≠ 0 ∨ s.now < e.pulseEnd then s
    else if e.reach = 0 then
      ((s.clearAlways isl).setEpisode isl { e with loading := true, failed := 0, released := s.now }).setN Obj.StartControl.startStage 1
    else s.releasePoint isl)

/-- `FUSE_LOAD_END` (R439, R441): a load of 40 µs ends. -/
def execFuseLoadEnd (t : Nat) (isl : Side) (fails : List Bool) (differ : Bool) (s : State) : Host.Outcome State Fault Refusal :=
  cmd t s (fun s =>
    let e := s.episode isl
    if e.active ∧ e.seen ≠ 0 ∧ e.loading ∧ e.released + 40 * us * (e.failed + 1) ≤ s.now then s.loadEnd isl fails differ else s)

/-! ### Boots (R443, R444, R448) -/

/-- A slot of a Kind is in use. -/
def State.useSlot (s : State) (kind k : Nat) : State :=
  [2 * kind, 2 * kind + 1].foldl (fun s j => s.setF (Obj.FirmwareSlot.inUse j) (j == k)) s

/-- `HOST_BOOT` (R443 step 4, R448): the boot ROM takes a host slot and runs it. In RECOVERY the firmware runs MGMT alone and skips the Renvos
image; else it selects a copy, applies its host entries and opens the gates of its ports. With no slot that verifies it stays in the boot
ROM. -/
def execHostBoot (t : Nat) (s : State) : Host.Outcome State Fault Refusal :=
  hostCmd t s (fun s =>
    if s.rst.host.run ∨ s.nat (xtalState .host) ≠ 1 then s
    else match s.chooseSlot 0 with
      | none => s
      | some k =>
        let s : State := { s with rst := { s.rst with host := { s.rst.host with run := true }, served := s.rst.field.run && !s.rst.field.active } }
        let s := ((s.useSlot 0 k).showSlots.applyHeader).setN Obj.StartControl.startStage 4
        if s.rst.recovery then s.setN Obj.HostGates.enable 0x30
        else (s.bootImage).setN Obj.HostGates.enable 0x3F)

/-- Firmware data crosses in BOOT_DATA messages of at most 32,768 bytes (R385). -/
def State.sendBoot (s : State) (image off : Nat) (b : Bytes) : State :=
  ((chunks 32768 (b.length / 32768 + 1) b).zipIdx).foldl (fun s p =>
    s.toField 0x05 (leBytes 1 image ++ leBytes 3 0 ++ leBytes 4 ((off + 32768 * p.2 : Nat) : Int) ++ p.1)) s

/-- The ageing log is taken from the newest copy in the boot flash, and guardbands and frequencies are as it holds them (R462, R463). -/
def State.applyAgeing (s : State) : State :=
  let l := s.flash.ageing.entries
  let s := s.setCal { s.cal with log := l, logSeq := (match l.getLast? with | some e => fld e 24 4 + 1 | none => 0) }
  s.cal.log.foldl (fun s e =>
    let n := fld e 11 1
    match fld e 10 1 with
    | 1 => s.setN (Obj.OperatingPoint.guardband n) (fld e 13 1 : Nat)
    | 2 => (s.setN (Obj.OperatingPoint.frequency n) (fld e 16 2 : Nat)).setF (Obj.OperatingPoint.derated n) (decide (fld e 16 2 < 1000))
    | _ => s) (s.setB Obj.Ageing.ageingLog s.cal.log.flatten)

/-- Channels of a direction that are in use. -/
def State.inUseOf (s : State) (base : Nat) : List Nat :=
  ((List.range 6).map (· + base)).filter (fun i => s.nat (Obj.SpanChannel.state i) == 2)

/-- Field firmware starts (R443 steps 5 and 6): the loss timeout, the sessions, the field entries of the image, the ageing check and margin
re-planning; a part whose `DuplexMode` is 1 will not claim (R469). -/
def State.startField (s : State) (image : Bytes) (margins : List PathMargin) : State :=
  let again := s.rst.served
  let s : State := { s with
    rst := { s.rst with served := true, field := { s.rst.field with run := true }, fieldStep := 5 }
    sec := { s.sec with fieldRun := max s.sec.fieldRun (fld image 5 1) } }
  let s := s.setN Obj.StartControl.startStage 5
  let s := if s.nCams = 0 then (s.setN Obj.RegionMap.cameraRingSize 0).setN Obj.RegionMap.previewRingSize 0 else s
  let s := s.openSessions.foldl (fun s i => s.noteSession i 0) s
  let s := s.bootFieldImage again
  let s := s.toField 0x0A (leBytes 1 4 ++ leBytes 1 0 ++ leBytes 2 0 ++ leBytes 4 s.span.counts ++ leBytes 4 (s.num Obj.SpanControl.lossTimeout))
  let s : State := { s with span := { s.span with fieldLoss := s.nat Obj.SpanControl.lossTimeout, validF := s.now } }
  let s := s.applyAgeing.replan margins
  let s : State := if s.role = 2 then s.setDux { s.dux with since := none } else s
  let s := State.setN { s with rst := { s.rst with fieldStep := 6 } } Obj.StartControl.startStage 6
  -- DRAM training begins with subchannel 0 of each channel (R293)
  s.each ([0, 2].filter (fun u => decide (u < s.nSub))) (fun s u => s.setN (Obj.DramStatus.state u) 2)

/-- `FIELD_BOOT` (R443 steps 5 and 6, R497, R498): the field crystal is accepted and the Span carries cells both ways. The field island asks for
its firmware, checks it and runs it; a SecurityVersion below the highest it has run is refused. -/
def execFieldBoot (t : Nat) (margins : List PathMargin) (s : State) : Host.Outcome State Fault Refusal :=
  fieldCmd t s (fun s =>
    if !s.hostUp ∨ s.rst.recovery ∨ s.rst.field.run ∨ s.nat (xtalState .field) ≠ 1 ∨ s.inUseOf 0 = [] ∨ s.inUseOf 6 = [] then s
    else match s.chooseSlot 1 with
      | none => s
      | some k =>
        let b := s.slotBytes k
        let s := (s.useSlot 1 k).showSlots
        let s := s.toHost 0x45 (leBytes 1 0 ++ leBytes 1 0 ++ leBytes 2 0 ++ leBytes 4 0 ++ leBytes 4 b.length)
        let s := (s.sendBoot 0 0 b).toField 0x06 (leBytes 1 0 ++ leBytes 1 1 ++ leBytes 2 0 ++ leBytes 4 b.length)
        let st := if fld b 5 1 < s.sec.fieldRun then 2 else 0
        let s := s.toHost 0x46 (leBytes 1 0 ++ leBytes 1 st ++ leBytes 2 0 ++ leBytes 4 (fld b 8 4 : Nat))
        if st = 0 then s.startField b margins else s)

/-! ### Start complete (R443 steps 9 and 10, R446) -/

/-- No port of a pier in service has a bring-up due or in progress. -/
def State.portsSettled (s : State) : Bool :=
  (List.range 64).all (fun h => decide (s.nHeads ≤ h) || s.nat (Obj.PierConfig.service (h / 4)) == 1
    || (!(s.port h).due && s.portState h != 1))

/-- A start reaches step 10 on the host's side: its time, and `StartComplete` unless the host must confirm it. -/
def State.reachTen (s : State) : State :=
  let s := match s.rst.watchdog with
    | some w => s.setN Obj.StartControl.startTime (((s.now - w) / ms : Nat) : Int)
    | none => s
  let s := s.setN Obj.StartControl.startStage 10
  if s.nat Obj.StartControl.startConfirmMode = 0 ∨ s.rst.confirmed then s.completeStart else s

/-- `START_COMPLETE` (R443 steps 9 and 10, R446): the gates of the present blocks open, the field island is in HOLD, and FAULT_N is released
unless something holds it. A part of a pair leaves step 8 as STANDBY, and `PairTimeout` counts from here (R469). -/
def execStartComplete (t : Nat) (s : State) : Host.Outcome State Fault Refusal :=
  fieldCmd t s (fun s =>
    if s.rst.fieldStep ≠ 8 ∨ !s.rst.field.run ∨ !s.portsSettled then s
    else
      let s : State := { s with rst := { s.rst with fieldStep := 10 } }
      let s := (s.setN Obj.FieldGates.enable (s.presentGates : Nat)).setPow { s.pow with state := 1 }
      let s := if s.role = 2 ∧ s.dux.since = none then s.setDux { s.dux with since := some s.now } else s
      let s := s.driveFaultN s.faultHeld
      if s.hostUp then (s.showPower 1).reachTen else s)

/-- `CONFIRM_START` (R446). -/
def execConfirmStart (t : Nat) (a : Caller) (v : Bytes) (s : State) : Host.Outcome State Fault Refusal :=
  access t s (fun s => s.write a Obj.StartControl.confirmStart v (fun _ => wrConfirmStart))

/-- `RECOVERY_EXIT` (R449). -/
def execRecoveryExit (t : Nat) (a : Caller) (v : Bytes) (s : State) : Host.Outcome State Fault Refusal :=
  access t s (fun s => s.writeExit a v)

/-! ### Block resets (R437, R438) -/

/-- The place of a block kind among the counters of `BlockReset`. -/
def blockIx : BlockKind → Nat
  | .pier => 0 | .camera => 1 | .channel => 2 | .engine => 3 | .ring => 4

/-- The forced reset of a block. -/
def State.resetBlock (s : State) (b : BlockKind) (i : Nat) : State :=
  match b with
  | .pier => (s.resetPier i).blankPier i
  | .camera => s.resetPort i
  | .channel => s.resetChannel i
  | .engine => s.resetEngine i
  | .ring => s.resetRing i

/-- `BLOCK_IDLE_TIMEOUT` (R437): a block has not gone idle within its `IdleTimeout` and is reset. -/
def execBlockIdleTimeout (t : Nat) (kind : BlockKind) (inst : Nat) (s : State) : Host.Outcome State Fault Refusal :=
  cmd t s (fun s =>
    let j := blockIx kind
    match s.rst.waiting.find? (fun w => w.1 == kind && w.2.1 == inst) with
    | none => s
    | some w =>
      if s.now < w.2.2 + s.nat (Obj.BlockReset.pierIdleTimeout + j) * us then s
      else
        let s := (s.inc (Obj.BlockReset.idleTimeouts j)).raise (if kind = .ring then .host else .field) Ev.blockIdleTimeout inst
        s.resetBlock kind inst)

/-! ### Activation of a field image (R466, R498) -/

/-- `ACTIVATION_ARM` (R466). -/
def execActivationArm (t : Nat) (a : Caller) (v : Bytes) (s : State) : Host.Outcome State Fault Refusal :=
  access t s (fun s => s.write a Obj.Ageing.arm v (fun _ => wrArm))

/-- `BOOT_CTRL_ACTIVATE` (R466 step 2): once every active page has ended the armed image takes over; field firmware is down meanwhile. -/
def State.activate (s : State) : State :=
  if !s.sec.armed ∨ s.sec.activateAt.isSome ∨ (List.range 4).any (fun k => (s.plane k).pages.any (fun p => p.start.isSome)) then s
  else
    State.setN { s with sec := { s.sec with activateAt := some s.now }, rst := { s.rst with field := { s.rst.field with run := false } } }
      Obj.Ageing.activationState 2

/-- `ACTIVATION_DONE` (R466 step 4): the new image reports within 400 ms; pages may start again. -/
def execActivationDone (t : Nat) (s : State) : Host.Outcome State Fault Refusal :=
  fieldCmd t s (fun s =>
    match s.sec.activateAt with
    | none => s
    | some at_ =>
      if at_ + 400 * ms < s.now then s
      else
        let k := s.chooseSlot 1
        let s : State := { s with
          sec := { s.sec with armed := false, activateAt := none, fieldRun := max s.sec.fieldRun (match k with | some j => fld (s.slotBytes j) 5 1 | none => 0) }
          rst := { s.rst with field := { s.rst.field with run := true } } }
        let s := match k with | some j => (s.useSlot 1 j).showSlots | none => s
        (s.setN Obj.Ageing.activationState 3).setN Obj.Ageing.lastGap (cdiv (s.now - at_) ms : Nat))

/-- `ACTIVATION_TIMEOUT` (R466, R498): the new image has not reported within 400 ms; its slot is marked failed and the field island is
reset. -/
def execActivationTimeout (t : Nat) (s : State) : Host.Outcome State Fault Refusal :=
  fieldCmd t s (fun s =>
    match s.sec.activateAt with
    | none => s
    | some at_ =>
      if s.now < at_ + 400 * ms then s
      else
        let s : State := match s.chooseSlot 1 with
          | some k => State.showSlots { s with flash := { s.flash with marked := setBit s.flash.marked k true } }
          | none => s
        let s := (s.setN Obj.Ageing.activationState 4).ev Ev.activationFailed
        s.assertReset .field 5 2 (some (s.now + 100 * us)))

end Sys2Proof.Machine
end

