-- ==== Sys2Proof/Machine/SpanMsgs.lean ====
section
/-! DEFINITION. The messages of the Span that carry accesses, deposits, events, streams, firmware, debug and control (R385-R388). -/

namespace Sys2Proof.Machine

/-! ### Accesses (R331, R385) -/

/-- The role of a code (R329). -/
def roleOf : Nat → Role
  | 0 => .x | 1 => .o | 2 => .s | _ => .v

/-- Who asks in a DICT_REQ. -/
def dictCaller (b : Bytes) : Caller := { sess := fld b 0 2, role := roleOf (fld b 2 1) }

/-- The index that a DICT_REQ names; a commit names its group's. -/
def dictIndex (b : Bytes) : Nat := if fld b 3 1 = 6 then 0x1200 + fld b 12 1 else fld b 12 2

/-- The access of a DICT_REQ (R366), to an object of the field island only (R386). -/
def State.dictAccess (s : State) (b : Bytes) : State :=
  let a := dictCaller b
  let r := b.drop 12
  let key := fld r 0 2 * 256 + fld r 2 1
  if !isField (dictIndex b) then s.answer a.sess 0x01020001
  else match fld b 3 1 with
    | 4 => s.get a key
    | 5 => if r.length = 8 + fld r 4 4 then s.putTyped a key (fld r 3 1) (r.drop 8) else s.answer a.sess 0x02030001
    | 6 =>
      match fld r 1 1 with
      | 1 => s.put a (Obj.CommitGroup.commit (fld r 0 1)) [1]
      | 2 => s.put a (Obj.CommitGroup.discard (fld r 0 1)) [1]
      | _ => s.answer a.sess 0x02010001
    | _ => if bit (fld r 3 1) 2 then s.getBlock a r else s.putBlock a r

/-- The answer in an emission to a session. -/
def Emit.replyTo (i : Nat) : Emit → Option (Nat × Bytes)
  | .reply j c b => if i = j then some (c, b) else none
  | _ => none

/-- A DICT_REQ is executed by field firmware and answered with a DICT_RESP (R385); the host island gives the answer to the session. -/
def State.dictReq (s : State) (b : Bytes) : State :=
  let i := fld b 0 2
  let w := (s.sess i).wait
  let s' := (s.setSess i { s.sess i with wait := [] }).dictAccess b
  let mine := s'.out.filterMap (Emit.replyTo i)
  let s' : State := { s' with out := s'.out.filter (fun e => (e.replyTo i).isNone) }
  let s' := if s'.sessState i = s.sessState i then s'.setSess i { s'.sess i with wait := w } else s'
  match mine.getLast? with
  | some (c, rest) => s'.toHost 0x41 (leBytes 2 i ++ leBytes 2 0 ++ leBytes 8 (fld b 4 8) ++ leBytes 4 c ++ rest)
  | none => s'

/-- A DICT_REQ of role V names an object whose meaning R343 leaves undocumented, and the firewall passes it. -/
def State.dictVendor (s : State) (b : Bytes) : Bool :=
  !s.rst.field.active && s.firewall 0x01 b == 0 && fld b 3 1 != 6 && vendorAccess (roleOf (fld b 2 1)) (dictIndex b)

/-- `DICT_REQ` (R385). -/
def execDictReq (t : Nat) (body : Bytes) (s : State) : Host.Outcome State Fault Refusal :=
  if s.dictVendor body then .refused .vendorObject else fieldCmd t s (fun s => s.takeF 0x01 body (fun s => s.dictReq body))

/-- `DICT_RESP` (R386): the result goes to its session under its Sequence. -/
def execDictResp (t : Nat) (body : Bytes) (s : State) : Host.Outcome State Fault Refusal :=
  hostCmd t s (fun s => s.takeH 0x41 body (fun s =>
    let i := fld body 0 2; let q := fld body 4 8; let c := fld body 12 4; let rest := body.drop 16
    let x := s.sess i
    match x.wait.find? (fun m => m.seq == q) with
    | some m =>
      if s.sessState i ≠ 2 then s
      else
        let s := (s.emit (.reply i c rest)).setSess i { x with wait := x.wait.filter (fun m => m.seq != q) }
        (if m.typ = 7 then s.unring i q else s).respond i q m.typ 0 c rest
    | none => s))

/-! ### Deposits, events and streams -/

/-- `DEPOSIT_ACK` (R386): the status of a deposit becomes the STRIPACK of its STRIP. -/
def execDepositAck (t : Nat) (body : Bytes) (s : State) : Host.Outcome State Fault Refusal :=
  hostCmd t s (fun s => s.takeH 0x42 body (fun s =>
    let i := fld body 0 2
    let x := s.sess i
    match x.strips.find? (fun w => w.deposit == fld body 4 4) with
    | some w => (s.setSess i { x with strips := x.strips.filter (fun v => v.deposit != w.deposit) }).stripAck i w (fld body 2 1)
    | none => s))

/-- A field record goes to the sessions that select it (R345); the first after a loss of the Span carries Gap (R392). -/
def State.fieldRecord (s : State) (b : Bytes) : State :=
  s.openSessions.foldl (fun s i =>
    if s.span.gaps.contains i ∧ ((s.sess i).selects (fld b 0 2) (fld b 2 1)).isSome then
      State.deliver { s with span := { s.span with gaps := s.span.gaps.filter (· != i) } } i (gapRec b true)
    else s.deliver i b) s

/-- `EVENT` (R345). -/
def execEvent (t : Nat) (body : Bytes) (s : State) : Host.Outcome State Fault Refusal :=
  hostCmd t s (fun s => s.takeH 0x43 body (fun s =>
    (List.range (min (fld body 0 1) ((body.length - 4) / 32))).foldl (fun s j => s.fieldRecord (sub body (4 + 32 * j) 32)) s))

/-- `STREAM` (R369): to its ring, or to the rings of the sessions that select its kind. -/
def execStream (t : Nat) (body : Bytes) (s : State) : Host.Outcome State Fault Refusal :=
  hostCmd t s (fun s => s.takeH 0x44 body (fun s =>
    let r := fld body 0 1; let b := body.drop 4
    if r = 0xFF then s.streamAll (fld b 0 1 + 1) b
    else if 64 ≤ r ∨ s.nat (Obj.Ring.session r) = 0xFFFF ∨ s.nat (Obj.Ring.direction r) ≠ 1 then s
    else match s.pushRing r 11 b (fld b 16 4) with
      | some s => s
      | none => s.inc (Obj.Ring.drops r)))

/-- `STREAM_CREDIT` (R386). -/
def execStreamCredit (t : Nat) (body : Bytes) (s : State) : Host.Outcome State Fault Refusal :=
  fieldCmd t s (fun s => s.takeF 0x09 body (fun s =>
    { s with span := { s.span with credit := smSet (fun _ => 0) s.span.credit (fld body 0 1) (fld body 4 4) } }))

/-- `SESSION_NOTE` (R387): a session has opened, closed, or changed its streams. -/
def execSessionNote (t : Nat) (body : Bytes) (s : State) : Host.Outcome State Fault Refusal :=
  fieldCmd t s (fun s => s.takeF 0x08 body (fun s =>
    let i := fld body 0 2; let st := fld body 4 2
    let others := s.span.noted.filter (fun x => x.1 != i)
    let l := match fld body 2 1 with
      | 0 => others ++ [(i, fld body 3 1, st)]
      | 1 => others
      | _ => s.span.noted.map (fun x => if x.1 = i then (i, x.2.1, st) else x)
    { s with span := { s.span with noted := l } }))

/-! ### Firmware (R385, R443, R466, R498) -/

/-- Bytes put into a region at an offset; bytes between that nothing has written are 0. -/
def putBytes (b : Bytes) (off : Nat) (d : Bytes) : Bytes :=
  (b ++ List.replicate (off - b.length) 0#8).take off ++ d ++ b.drop (off + d.length)

/-- The bytes of an image in the firmware region. -/
def State.bootBytes (s : State) (image : Nat) : Bytes := smGet (fun _ => []) s.span.boot image

/-- The BOOT_REQs that `p` names are answered. -/
def State.endBoot (s : State) (p : Nat × Nat × Nat × Nat → Bool) : State :=
  { s with span := { s.span with bootReq := s.span.bootReq.filter (fun r => !p r) } }

/-- `BOOT_DATA` (R385): data lands in the firmware region; an ECC repair is over with the last byte that it asked for. -/
def execBootData (t : Nat) (body : Bytes) (s : State) : Host.Outcome State Fault Refusal :=
  fieldCmd t s (fun s => s.takeF 0x05 body (fun s =>
    let i := fld body 0 1; let off := fld body 4 4; let d := body.drop 8
    let repaired := s.span.bootReq.all (fun r => r.1 != i || r.2.1 != 1 || decide (r.2.2.1 + r.2.2.2 ≤ off + d.length))
    let bad := if repaired then s.span.badBoot.filter (fun j => j != i) else s.span.badBoot
    let image := putBytes (s.bootBytes i) off d
    let s : State := { s with span := { s.span with boot := smSet (fun _ => []) s.span.boot i image, badBoot := bad } }
    s.endBoot (fun r => r.1 == i && r.2.1 == 1 && decide (r.2.2.1 + r.2.2.2 ≤ off + d.length))))

/-- The status that the field boot loader gives an image of `total` bytes (R498). -/
def State.bootCheck (s : State) (b : Bytes) (total : Nat) : Nat :=
  if b.length < total ∨ fld b 12 4 + 224 ≠ total then 3
  else if !s.signedImage 1 (b.take total) then 1
  else if fld b 5 1 < s.sec.fieldRun then 2 else 0

/-- A BOOT_CTRL (R385): verify, activate or abort. -/
def State.bootCtrl (s : State) (body : Bytes) : State :=
  let i := fld body 0 1
  match fld body 1 1 with
  | 1 =>
    let b := s.bootBytes i
    let st := if s.span.badBoot.contains i then 3 else s.bootCheck b (fld body 4 4)
    let s := s.toHost 0x46 (leBytes 1 i ++ leBytes 1 st ++ leBytes 2 0 ++ leBytes 4 (fld b 8 4 : Nat))
    if st = 0 then s else s.endBoot (fun r => r.1 == i)
  | 2 => s.activate.endBoot (fun r => r.1 == i)
  | _ => State.endBoot { s with span := { s.span with boot := smSet (fun _ => []) s.span.boot i [] } } (fun r => r.1 == i)

/-- `BOOT_CTRL_VERIFY` (R498). -/
def execBootCtrlVerify (t : Nat) (body : Bytes) (s : State) : Host.Outcome State Fault Refusal :=
  fieldCmd t s (fun s => s.takeF 0x06 body (fun s => s.bootCtrl body))

/-- `BOOT_CTRL_ACTIVATE` (R466). -/
def execBootCtrlActivate (t : Nat) (body : Bytes) (s : State) : Host.Outcome State Fault Refusal :=
  fieldCmd t s (fun s => s.takeF 0x06 body (fun s => s.bootCtrl body))

/-- `BOOT_CTRL_ABORT` (R385). -/
def execBootCtrlAbort (t : Nat) (body : Bytes) (s : State) : Host.Outcome State Fault Refusal :=
  fieldCmd t s (fun s => s.takeF 0x06 body (fun s => s.bootCtrl body))

/-- The slot whose image the host island sends: the one in use for the running firmware, else the one that R497 takes. -/
def State.bootSlot (s : State) (image : Nat) : Option Nat :=
  match image, [2, 3].find? (fun k => s.flag (Obj.FirmwareSlot.inUse k)) with
  | 0, some k => some k
  | _, _ => s.chooseSlot 1

/-- `BOOT_REQ` (R385): the field island has asked for firmware, and the host island sends it. -/
def execBootReq (t : Nat) (body : Bytes) (s : State) : Host.Outcome State Fault Refusal :=
  hostCmd t s (fun s => s.takeH 0x45 body (fun s =>
    let r := (fld body 0 1, fld body 1 1, fld body 4 4, fld body 8 4)
    let s : State := if s.span.bootReq.contains r then s else { s with span := { s.span with bootReq := s.span.bootReq ++ [r] } }
    match s.bootSlot r.1 with
    | some k => s.sendBoot r.1 r.2.2.1 (sub (s.slotBytes k) r.2.2.1 r.2.2.2)
    | none => s))

/-- `BOOT_STATUS` (R443): once the firmware of a field island that has not started is valid, the start goes on; otherwise it fails with the boot
watchdog. -/
def execBootStatus (t : Nat) (body : Bytes) (s : State) : Host.Outcome State Fault Refusal :=
  access t s (fun s => s.takeH 0x46 body (fun s =>
    if fld body 0 1 = 0 ∧ fld body 1 1 = 0 ∧ !s.rst.field.run ∧ !s.rst.field.active ∧ s.sec.activateAt = none ∧ s.bootBytes 0 ≠ [] then
      s.startField (s.bootBytes 0) []
    else s))

/-! ### Debug (R502) -/

/-- A DEBUG_RESP: the command, its status and a payload. -/
def State.debugResp (s : State) (cmd_ status : Nat) (payload : Bytes) : State :=
  s.toHost 0x47 (leBytes 2 cmd_ ++ leBytes 2 status ++ leBytes 4 payload.length ++ payload)

/-- A halt or a write may run: FULL, in HOLD (R502). -/
def State.debugFull (s : State) (body : Bytes) : Bool := fld body 0 1 == 2 && s.pow.state == 1

/-- A debug command at the field island (R502): what an observation reads is a free value; a halt or write outside HOLD, or below FULL, is refused
with 0x0501_0001. A write of what R502 does not describe has no meaning here. -/
def State.debugAct (s : State) (body : Bytes) (act : DebugAct) : State :=
  let c := fld body 2 2
  let no := s.debugResp c 1 (leBytes 4 0x05010001)
  match act with
  | .observe =>
    let (n, s) := s.fresh
    let (b, s) := s.freshBytes (n % 4097)
    s.debugResp c 0 b
  | .halt => if s.debugFull body then { s with sec := { s.sec with halted := true } }.debugResp c 0 [] else no
  | .resume => if fld body 0 1 = 2 then { s with sec := { s.sec with halted := false } }.debugResp c 0 [] else no
  | .reset => if fld body 0 1 = 2 then (s.debugResp c 0 []).assertReset .field 7 2 (some (s.now + 100 * us)) else no
  | .write => no

/-- `DEBUG_REQ` (R502). -/
def execDebugReq (t : Nat) (body : Bytes) (act : DebugAct) (s : State) : Host.Outcome State Fault Refusal :=
  if act = .write ∧ !s.rst.field.active ∧ s.firewall 0x07 body = 0 ∧ s.debugFull body then .refused .debugWrite
  else fieldCmd t s (fun s => s.takeF 0x07 body (fun s => s.debugAct body act))

/-- `DEBUG_RESP` (R385): the result goes to the path that holds the grant. -/
def execDebugResp (t : Nat) (body : Bytes) (s : State) : Host.Outcome State Fault Refusal :=
  hostCmd t s (fun s => s.takeH 0x47 body (fun s =>
    s.emit (.reply (if s.nat Obj.Debug.holder = 2 then s.nat Obj.Debug.holderSession else jtagPath) 0 body)))

/-! ### Control (R385, R395, R427, R432) -/

/-- A CONTROL message at the field island. -/
def State.control (s : State) (b : Bytes) : State :=
  let tag := fld b 4 4
  match fld b 0 1 with
  | 1 => (s.controlResp tag 1 false).assertReset .field 5 2 s.softUntil
  | 2 => s.requestPower tag (fld b 1 1)
  | 3 => s.lowerDebug.controlResp tag 3 false
  | _ =>
    let ms_ := fld b 8 4
    if 2 ≤ ms_ ∧ ms_ ≤ 1000 then { s with span := { s.span with fieldLoss := ms_ } }.controlResp tag 4 false else s.controlResp tag 4 true

/-- `CONTROL_FIELD_RESET` (R432). -/
def execControlFieldReset (t : Nat) (body : Bytes) (s : State) : Host.Outcome State Fault Refusal :=
  fieldCmd t s (fun s => s.takeF 0x0A body (fun s => s.control body))

/-- `CONTROL_POWER_STATE` (R427). -/
def execControlPowerState (t : Nat) (body : Bytes) (s : State) : Host.Outcome State Fault Refusal :=
  fieldCmd t s (fun s => s.takeF 0x0A body (fun s => s.control body))

/-- `CONTROL_CLOSE_DEBUG` (R427). -/
def execControlCloseDebug (t : Nat) (body : Bytes) (s : State) : Host.Outcome State Fault Refusal :=
  fieldCmd t s (fun s => s.takeF 0x0A body (fun s => s.control body))

/-- `CONTROL_LOSS_TIMEOUT` (R395). -/
def execControlLossTimeout (t : Nat) (body : Bytes) (s : State) : Host.Outcome State Fault Refusal :=
  fieldCmd t s (fun s => s.takeF 0x0A body (fun s => s.control body))

/-- `CONTROL_RESP` (R385): the host island learns the result. -/
def execControlResp (t : Nat) (body : Bytes) (s : State) : Host.Outcome State Fault Refusal :=
  hostCmd t s (fun s => s.takeH 0x4A body id)

/-- `TIME_ECHO` (R386, R405): the host island learns the slave's stamp of a TIME. -/
def execTimeEcho (t : Nat) (body : Bytes) (s : State) : Host.Outcome State Fault Refusal :=
  hostCmd t s (fun s => s.takeH 0x49 body id)

/-- `FIELD_STATUS` (R386, R425, R444): the power state; and a host island that has started alone reaches step 10 once the field island's start is
complete. -/
def execFieldStatus (t : Nat) (body : Bytes) (s : State) : Host.Outcome State Fault Refusal :=
  hostCmd t s (fun s => s.takeH 0x48 body (fun s =>
    let s := if s.rst.recovery then s else s.showPower (fld body 4 1)
    if bit (fld body 5 1) 0 ∧ s.hostUp ∧ !s.rst.recovery ∧ !s.flag Obj.StartControl.startComplete ∧ s.nat Obj.StartControl.startStage = 4 then s.reachTen
    else s))

end Sys2Proof.Machine
end

