-- ==== Sys2Proof/Machine/Dispatch.lean ====
section
/-! DEFINITION. The effect of every command: one arm per row of spec/opcode_table.json. -/

namespace Sys2Proof.Machine

/-- What a command does (everything but the queue). -/
def exec (i : Instr) (s : State) : Host.Outcome State Fault Refusal :=
  match i with
  | .objectWrite t a ix sub ty v => Sys2Proof.Machine.execObjectWrite t a ix sub ty v s
  | .rwlWrite t a ix sub ty v => Sys2Proof.Machine.execRwlWrite t a ix sub ty v s
  | .encoderEdge t e la lb lz => Sys2Proof.Machine.execEncoderEdge t e la lb lz s
  | .standstill t e => Sys2Proof.Machine.execStandstill t e s
  | .predictionLimit t => Sys2Proof.Machine.execPredictionLimit t s
  | .spsRequest t => Sys2Proof.Machine.execSpsRequest t s
  | .spsWord t word crc => Sys2Proof.Machine.execSpsWord t word crc s
  | .spsWordTimeout t => Sys2Proof.Machine.execSpsWordTimeout t s
  | .controlCycle t rep => Sys2Proof.Machine.execControlCycle t rep s
  | .counterPreset t a e v => Sys2Proof.Machine.execCounterPreset t a e v s
  | .loadFromSps t a v => Sys2Proof.Machine.execLoadFromSps t a v s
  | .indexArm t a e v => Sys2Proof.Machine.execIndexArm t a e v s
  | .checkReset t a v => Sys2Proof.Machine.execCheckReset t a v s
  | .uncertainClear t a v => Sys2Proof.Machine.execUncertainClear t a v s
  | .lineLoad t a k v => Sys2Proof.Machine.execLineLoad t a k v s
  | .primarySourceWrite t a v => Sys2Proof.Machine.execPrimarySourceWrite t a v s
  | .scheduleInsert t a v => Sys2Proof.Machine.execScheduleInsert t a v s
  | .cancelTag t a v => Sys2Proof.Machine.execCancelTag t a v s
  | .cancelAll t a v => Sys2Proof.Machine.execCancelAll t a v s
  | .cameraTriggerCommit t seq => Sys2Proof.Machine.execCameraTriggerCommit t seq s
  | .cameraTriggerPulse t c => Sys2Proof.Machine.execCameraTriggerPulse t c s
  | .triggerPulseEnd t c => Sys2Proof.Machine.execTriggerPulseEnd t c s
  | .planeEnable t a k v => Sys2Proof.Machine.execPlaneEnable t a k v s
  | .planeDisable t a k v => Sys2Proof.Machine.execPlaneDisable t a k v s
  | .checkPlane t a v => Sys2Proof.Machine.execCheckPlane t a v s
  | .deposit t body => Sys2Proof.Machine.execDeposit t body s
  | .depositAbort t body => Sys2Proof.Machine.execDepositAbort t body s
  | .pageAppend t a k v => Sys2Proof.Machine.execPageAppend t a k v s
  | .pageAbortAtLine t a k v => Sys2Proof.Machine.execPageAbortAtLine t a k v s
  | .pageAbortNow t a k v => Sys2Proof.Machine.execPageAbortNow t a k v s
  | .flushJob t a v => Sys2Proof.Machine.execFlushJob t a v s
  | .flushOrphans t a v => Sys2Proof.Machine.execFlushOrphans t a v s
  | .pageQueueResume t a k v => Sys2Proof.Machine.execPageQueueResume t a k v s
  | .inflateDispatch t => Sys2Proof.Machine.execInflateDispatch t s
  | .inflateComplete t e => Sys2Proof.Machine.execInflateComplete t e s
  | .inflateEngineReset t a e v => Sys2Proof.Machine.execInflateEngineReset t a e v s
  | .inflateEngineFault t e => Sys2Proof.Machine.execInflateEngineFault t e s
  | .screenLine t k => Sys2Proof.Machine.execScreenLine t k s
  | .nozzleWrite t a v => Sys2Proof.Machine.execNozzleWrite t a v s
  | .lineStat t h w => Sys2Proof.Machine.execLineStat t h w s
  | .measureStat t h w => Sys2Proof.Machine.execMeasureStat t h w s
  | .identityStat t h w => Sys2Proof.Machine.execIdentityStat t h w s
  | .ownerStat t h w => Sys2Proof.Machine.execOwnerStat t h w s
  | .linkStat t h w => Sys2Proof.Machine.execLinkStat t h w s
  | .controlBlockDiscard t h w => Sys2Proof.Machine.execControlBlockDiscard t h w s
  | .bringUpAttempt t h => Sys2Proof.Machine.execBringUpAttempt t h s
  | .hrxLock t h inv => Sys2Proof.Machine.execHrxLock t h inv s
  | .bringUpStageTimeout t h => Sys2Proof.Machine.execBringUpStageTimeout t h s
  | .retryInterval t h => Sys2Proof.Machine.execRetryInterval t h s
  | .lossOfSignal t h => Sys2Proof.Machine.execLossOfSignal t h s
  | .lossOfLock t h => Sys2Proof.Machine.execLossOfLock t h s
  | .statTimeout t h => Sys2Proof.Machine.execStatTimeout t h s
  | .markDue t h => Sys2Proof.Machine.execMarkDue t h s
  | .pierReset t a p v => Sys2Proof.Machine.execPierReset t a p v s
  | .pierOutOfService t a p v => Sys2Proof.Machine.execPierOutOfService t a p v s
  | .pierInService t a p v => Sys2Proof.Machine.execPierInService t a p v s
  | .strobeCommit t h => Sys2Proof.Machine.execStrobeCommit t h s
  | .strobe t h => Sys2Proof.Machine.execStrobe t h s
  | .strobeEnd t h => Sys2Proof.Machine.execStrobeEnd t h s
  | .frameWindowOpen t h => Sys2Proof.Machine.execFrameWindowOpen t h s
  | .frameSend t h => Sys2Proof.Machine.execFrameSend t h s
  | .frameDeadline t h => Sys2Proof.Machine.execFrameDeadline t h s
  | .lineWithheldResolved t h => Sys2Proof.Machine.execLineWithheldResolved t h s
  | .confirmationWindowEnd t h => Sys2Proof.Machine.execConfirmationWindowEnd t h s
  | .measureChunkStart t h => Sys2Proof.Machine.execMeasureChunkStart t h s
  | .sweepStart t h => Sys2Proof.Machine.execSweepStart t h s
  | .sweepNow t a h v => Sys2Proof.Machine.execSweepNow t a h v s
  | .probeHoldoff t n => Sys2Proof.Machine.execProbeHoldoff t n s
  | .pendingTimeout t n => Sys2Proof.Machine.execPendingTimeout t n s
  | .defectConfirm t a v => Sys2Proof.Machine.execDefectConfirm t a v s
  | .defectRemove t a v => Sys2Proof.Machine.execDefectRemove t a v s
  | .defectWrite t a v => Sys2Proof.Machine.execDefectWrite t a v s
  | .frameStart t c hdr fnum => Sys2Proof.Machine.execFrameStart t c hdr fnum s
  | .imageLine t c hdr data crcOk => Sys2Proof.Machine.execImageLine t c hdr data crcOk s
  | .packetDiscard t c hdr => Sys2Proof.Machine.execPacketDiscard t c hdr s
  | .frameEnd t p => Sys2Proof.Machine.execFrameEnd t p s
  | .frameTimeout t c => Sys2Proof.Machine.execFrameTimeout t c s
  | .triggerMissed t c => Sys2Proof.Machine.execTriggerMissed t c s
  | .frameProcess t => Sys2Proof.Machine.execFrameProcess t s
  | .generationWrite t a c v => Sys2Proof.Machine.execGenerationWrite t a c v s
  | .generationRecord t c start bus rdata => Sys2Proof.Machine.execGenerationRecord t c start bus rdata s
  | .cameraEnable t a c v => Sys2Proof.Machine.execCameraEnable t a c v s
  | .cameraDisable t a c v => Sys2Proof.Machine.execCameraDisable t a c v s
  | .cameraReset t a c v => Sys2Proof.Machine.execCameraReset t a c v s
  | .inLineCamera t a v => Sys2Proof.Machine.execInLineCamera t a v s
  | .windowClose t k c => Sys2Proof.Machine.execWindowClose t k c s
  | .planeMask t a v => Sys2Proof.Machine.execPlaneMask t a v s
  | .refabDue t u fill => Sys2Proof.Machine.execRefabDue t u fill s
  | .owedRefresh t u fill => Sys2Proof.Machine.execOwedRefresh t u fill s
  | .tempPoll t u rep => Sys2Proof.Machine.execTempPoll t u rep s
  | .rowActivate t u rank bank row => Sys2Proof.Machine.execRowActivate t u rank bank row s
  | .correctedRead t u rd => Sys2Proof.Machine.execCorrectedRead t u rd s
  | .uncorrectableRead t u addr hit => Sys2Proof.Machine.execUncorrectableRead t u addr hit s
  | .fullTraining t ok inits => Sys2Proof.Machine.execFullTraining t ok inits s
  | .dramRetrain t u fill => Sys2Proof.Machine.execDramRetrain t u fill s
  | .dramRetrainDone t u lanes => Sys2Proof.Machine.execDramRetrainDone t u lanes s
  | .compressionSubmit t a ch v => Sys2Proof.Machine.execCompressionSubmit t a ch v s
  | .jobStart t ch => Sys2Proof.Machine.execJobStart t ch s
  | .inputBlock t ch src => Sys2Proof.Machine.execInputBlock t ch src s
  | .compressionResume t a v => Sys2Proof.Machine.execCompressionResume t a v s
  | .resumeTimeout t ch => Sys2Proof.Machine.execResumeTimeout t ch s
  | .compressionCancel t a v => Sys2Proof.Machine.execCompressionCancel t a v s
  | .channelReset t a ch v => Sys2Proof.Machine.execChannelReset t a ch v s
  | .stagingWrite t a ix sub ty v => Sys2Proof.Machine.execStagingWrite t a ix sub ty v s
  | .groupCommit t a g v => Sys2Proof.Machine.execGroupCommit t a g v s
  | .groupDiscard t a g v => Sys2Proof.Machine.execGroupDiscard t a g v s
  | .bindingWrite t a g v => Sys2Proof.Machine.execBindingWrite t a g v s
  | .domainWriteBlock t a block => Sys2Proof.Machine.execDomainWriteBlock t a block s
  | .domainReadBlock t a block => Sys2Proof.Machine.execDomainReadBlock t a block s
  | .domainTransferTimeout t sess ix sub => Sys2Proof.Machine.execDomainTransferTimeout t sess ix sub s
  | .imageSave t a v => Sys2Proof.Machine.execImageSave t a v s
  | .imageSaved t good => Sys2Proof.Machine.execImageSaved t good s
  | .imageInvalidate t a v => Sys2Proof.Machine.execImageInvalidate t a v s
  | .datagram t port hd peer data => Sys2Proof.Machine.execDatagram t port hd peer data s
  | .reassemblyTimeout t sess seq => Sys2Proof.Machine.execReassemblyTimeout t sess seq s
  | .hello t port peer body => Sys2Proof.Machine.execHello t port peer body s
  | .keyx t sess seq body => Sys2Proof.Machine.execKeyx t sess seq body s
  | .openSession t sess seq body => Sys2Proof.Machine.execOpenSession t sess seq body s
  | .handshakeTimeout t sess => Sys2Proof.Machine.execHandshakeTimeout t sess s
  | .read t a ix sub => Sys2Proof.Machine.execRead t a ix sub s
  | .accessPassed t sess => Sys2Proof.Machine.execAccessPassed t sess s
  | .strip t sess seq body => Sys2Proof.Machine.execStrip t sess seq body s
  | .ping t sess seq body => Sys2Proof.Machine.execPing t sess seq body s
  | .heartbeat t sess => Sys2Proof.Machine.execHeartbeat t sess s
  | .sessionTimeout t sess => Sys2Proof.Machine.execSessionTimeout t sess s
  | .close t sess body => Sys2Proof.Machine.execClose t sess body s
  | .sessionClose t a sess v => Sys2Proof.Machine.execSessionClose t a sess v s
  | .ringReset t a r v => Sys2Proof.Machine.execRingReset t a r v s
  | .descriptorLaunch t r port => Sys2Proof.Machine.execDescriptorLaunch t r port s
  | .hostLinkChange t port up speed fec => Sys2Proof.Machine.execHostLinkChange t port up speed fec s
  | .spanCell t chan ctrl data crc => Sys2Proof.Machine.execSpanCell t chan ctrl data crc s
  | .cellMissing t dir cls => Sys2Proof.Machine.execCellMissing t dir cls s
  | .dictReq t body => Sys2Proof.Machine.execDictReq t body s
  | .time t body => Sys2Proof.Machine.execTime t body s
  | .bootData t body => Sys2Proof.Machine.execBootData t body s
  | .bootCtrlVerify t body => Sys2Proof.Machine.execBootCtrlVerify t body s
  | .bootCtrlActivate t body => Sys2Proof.Machine.execBootCtrlActivate t body s
  | .bootCtrlAbort t body => Sys2Proof.Machine.execBootCtrlAbort t body s
  | .debugReq t body act => Sys2Proof.Machine.execDebugReq t body act s
  | .sessionNote t body => Sys2Proof.Machine.execSessionNote t body s
  | .streamCredit t body => Sys2Proof.Machine.execStreamCredit t body s
  | .controlFieldReset t body => Sys2Proof.Machine.execControlFieldReset t body s
  | .controlPowerState t body => Sys2Proof.Machine.execControlPowerState t body s
  | .controlCloseDebug t body => Sys2Proof.Machine.execControlCloseDebug t body s
  | .controlLossTimeout t body => Sys2Proof.Machine.execControlLossTimeout t body s
  | .dictResp t body => Sys2Proof.Machine.execDictResp t body s
  | .depositAck t body => Sys2Proof.Machine.execDepositAck t body s
  | .event t body => Sys2Proof.Machine.execEvent t body s
  | .stream t body => Sys2Proof.Machine.execStream t body s
  | .bootReq t body => Sys2Proof.Machine.execBootReq t body s
  | .bootStatus t body => Sys2Proof.Machine.execBootStatus t body s
  | .debugResp t body => Sys2Proof.Machine.execDebugResp t body s
  | .fieldStatus t body => Sys2Proof.Machine.execFieldStatus t body s
  | .timeEcho t body => Sys2Proof.Machine.execTimeEcho t body s
  | .controlResp t body => Sys2Proof.Machine.execControlResp t body s
  | .linkState t side body => Sys2Proof.Machine.execLinkState t side body s
  | .linkTest t side body good => Sys2Proof.Machine.execLinkTest t side body good s
  | .spanPeriodicSend t => Sys2Proof.Machine.execSpanPeriodicSend t s
  | .spanChannelLockLoss t chan => Sys2Proof.Machine.execSpanChannelLockLoss t chan s
  | .spanChannelRetest t chan => Sys2Proof.Machine.execSpanChannelRetest t chan s
  | .spanLostField t => Sys2Proof.Machine.execSpanLostField t s
  | .spanLostHost t => Sys2Proof.Machine.execSpanLostHost t s
  | .incrementWrite t a v => Sys2Proof.Machine.execIncrementWrite t a v s
  | .offsetAdjust t a v => Sys2Proof.Machine.execOffsetAdjust t a v s
  | .timeSet t a v => Sys2Proof.Machine.execTimeSet t a v s
  | .timeHoldover t => Sys2Proof.Machine.execTimeHoldover t s
  | .ptpEventMessage t port msg => Sys2Proof.Machine.execPtpEventMessage t port msg s
  | .captureEvent t u falling => Sys2Proof.Machine.execCaptureEvent t u falling s
  | .captureRecordsRead t a u => Sys2Proof.Machine.execCaptureRecordsRead t a u s
  | .ppsOut t => Sys2Proof.Machine.execPpsOut t s
  | .evtOut t n => Sys2Proof.Machine.execEvtOut t n s
  | .timeOutputEnd t n => Sys2Proof.Machine.execTimeOutputEnd t n s
  | .xtalWindow t isl count => Sys2Proof.Machine.execXtalWindow t isl count s
  | .xtalFailed t isl => Sys2Proof.Machine.execXtalFailed t isl s
  | .xtalLost t isl => Sys2Proof.Machine.execXtalLost t isl s
  | .domainSourceSwitch t a d v => Sys2Proof.Machine.execDomainSourceSwitch t a d v s
  | .clockSwitchForced t d => Sys2Proof.Machine.execClockSwitchForced t d s
  | .gateWrite t a isl v => Sys2Proof.Machine.execGateWrite t a isl v s
  | .gateForced t isl bit sess => Sys2Proof.Machine.execGateForced t isl bit sess s
  | .meterStart t a isl v => Sys2Proof.Machine.execMeterStart t a isl v s
  | .meterDone t isl count => Sys2Proof.Machine.execMeterDone t isl count s
  | .opTarget t a v => Sys2Proof.Machine.execOpTarget t a v s
  | .avsStatus t good => Sys2Proof.Machine.execAvsStatus t good s
  | .avsVoltagePoll t mv => Sys2Proof.Machine.execAvsVoltagePoll t mv s
  | .dvfsPllLock t => Sys2Proof.Machine.execDvfsPllLock t s
  | .settleTimeEnd t => Sys2Proof.Machine.execSettleTimeEnd t s
  | .dvfsStepTimeout t => Sys2Proof.Machine.execDvfsStepTimeout t s
  | .powerRequestRun t a v => Sys2Proof.Machine.execPowerRequestRun t a v s
  | .powerRequestHold t a v => Sys2Proof.Machine.execPowerRequestHold t a v s
  | .powerRequestStandby t a v => Sys2Proof.Machine.execPowerRequestStandby t a v s
  | .powerRequestOff t a v => Sys2Proof.Machine.execPowerRequestOff t a v s
  | .powerOnReset t isl on => Sys2Proof.Machine.execPowerOnReset t isl on s
  | .railDip t isl dur => Sys2Proof.Machine.execRailDip t isl dur s
  | .resetPin t isl low => Sys2Proof.Machine.execResetPin t isl low s
  | .islandWatchdog t isl => Sys2Proof.Machine.execIslandWatchdog t isl s
  | .bootWatchdog t => Sys2Proof.Machine.execBootWatchdog t s
  | .thermalTrip t temp => Sys2Proof.Machine.execThermalTrip t temp s
  | .warmReset t a v => Sys2Proof.Machine.execWarmReset t a v s
  | .hostIslandReset t a v => Sys2Proof.Machine.execHostIslandReset t a v s
  | .fieldIslandReset t a v => Sys2Proof.Machine.execFieldIslandReset t a v s
  | .resetRelease t isl => Sys2Proof.Machine.execResetRelease t isl s
  | .hostBoot t => Sys2Proof.Machine.execHostBoot t s
  | .fieldBoot t margins => Sys2Proof.Machine.execFieldBoot t margins s
  | .startComplete t => Sys2Proof.Machine.execStartComplete t s
  | .confirmStart t a v => Sys2Proof.Machine.execConfirmStart t a v s
  | .recoveryExit t a v => Sys2Proof.Machine.execRecoveryExit t a v s
  | .blockIdleTimeout t kind inst => Sys2Proof.Machine.execBlockIdleTimeout t kind inst s
  | .calRunNow t a subj v => Sys2Proof.Machine.execCalRunNow t a subj v s
  | .laneAdaptation t h widths => Sys2Proof.Machine.execLaneAdaptation t h widths s
  | .flatFieldTimeout t c => Sys2Proof.Machine.execFlatFieldTimeout t c s
  | .calibrationOverdue t subj inst => Sys2Proof.Machine.execCalibrationOverdue t subj inst s
  | .roMeasure t shifts => Sys2Proof.Machine.execRoMeasure t shifts s
  | .replanNow t a v margins => Sys2Proof.Machine.execReplanNow t a v margins s
  | .activationArm t a v => Sys2Proof.Machine.execActivationArm t a v s
  | .activationTimeout t => Sys2Proof.Machine.execActivationTimeout t s
  | .mirror t rec => Sys2Proof.Machine.execMirror t rec s
  | .relinquish t body => Sys2Proof.Machine.execRelinquish t body s
  | .status t body => Sys2Proof.Machine.execStatus t body s
  | .probe t body => Sys2Proof.Machine.execProbe t body s
  | .probeEcho t body => Sys2Proof.Machine.execProbeEcho t body s
  | .stayLaneLockLoss t l => Sys2Proof.Machine.execStayLaneLockLoss t l s
  | .duplexModePair t a v => Sys2Proof.Machine.execDuplexModePair t a v s
  | .duplexModeSolo t a v => Sys2Proof.Machine.execDuplexModeSolo t a v s
  | .forceActive t a v => Sys2Proof.Machine.execForceActive t a v s
  | .switchOver t a v => Sys2Proof.Machine.execSwitchOver t a v s
  | .pairTimeout t => Sys2Proof.Machine.execPairTimeout t s
  | .silentTakeover t => Sys2Proof.Machine.execSilentTakeover t s
  | .lockstepMismatch t => Sys2Proof.Machine.execLockstepMismatch t s
  | .lifecycleProvisioned t a v => Sys2Proof.Machine.execLifecycleProvisioned t a v s
  | .lifecycleField t a v => Sys2Proof.Machine.execLifecycleField t a v s
  | .lifecycleReturn t a v => Sys2Proof.Machine.execLifecycleReturn t a v s
  | .lifecycleScrapped t a v => Sys2Proof.Machine.execLifecycleScrapped t a v s
  | .lifecycleFusesBlown t => Sys2Proof.Machine.execLifecycleFusesBlown t s
  | .debugChallenge t a jtag => Sys2Proof.Machine.execDebugChallenge t a jtag s
  | .debugResponse t a v jtag => Sys2Proof.Machine.execDebugResponse t a v jtag s
  | .debugLock t a v => Sys2Proof.Machine.execDebugLock t a v s
  | .grantExpiry t => Sys2Proof.Machine.execGrantExpiry t s
  | .rollbackCommit t a v => Sys2Proof.Machine.execRollbackCommit t a v s
  | .firmwareImageWrite t a slot v => Sys2Proof.Machine.execFirmwareImageWrite t a slot v s
  | .faultLogWrite t isl => Sys2Proof.Machine.execFaultLogWrite t isl s
  | .quietTime t subsys inst => Sys2Proof.Machine.execQuietTime t subsys inst s
  | .handlerOverrun t isl => Sys2Proof.Machine.execHandlerOverrun t isl s
  | .faultAck t a v => Sys2Proof.Machine.execFaultAck t a v s
  | .powerCycleRequest t a v => Sys2Proof.Machine.execPowerCycleRequest t a v s
  | .logClear t a v => Sys2Proof.Machine.execLogClear t a v s
  | .spanBlockLock t chan => Sys2Proof.Machine.execSpanBlockLock t chan s
  | .stayLaneLock t l => Sys2Proof.Machine.execStayLaneLock t l s
  | .deckMemoryEccError t => Sys2Proof.Machine.execDeckMemoryEccError t s
  | .fuseLoadEnd t isl fails differ => Sys2Proof.Machine.execFuseLoadEnd t isl fails differ s
  | .activationDone t => Sys2Proof.Machine.execActivationDone t s

end Sys2Proof.Machine
end

