-- ==== Sys2Proof/Safety.lean ====
section
/-! DEFINITION. What a sound state of the part is, and the terms in which statements say what a command does and what it leaves as it
was: events raised, answers given, objects kept, parts of the state kept. -/

namespace Sys2Proof.Machine

/-! ### Sound states -/

/-- The sparse dictionary keeps its canonical form: keys strictly rising, no value equal to its default (log entry 4). -/
def State.dictWf (s : State) : Bool := smWf objDefault s.dict

/-- The part is one of the twelve variants of R3. -/
def State.partWf (s : State) : Bool := decide (s.ident.variant < 12)

/-- An outcome that does not stop the machine. -/
def completes (o : Host.Outcome State Fault Refusal) : Bool := match o with | .next _ => true | _ => false

/-! ### What a command does -/

/-- An event of code and class `ev` is among the emissions of the last command. -/
def raised (u : State) (ev : Nat × Nat) : Prop := ∃ e : EventRec, Emit.event e ∈ u.out ∧ e.code = ev.1 ∧ e.cls = ev.2

/-- Session `i` (256: the JTAG path) was answered with abort code `abort`. -/
def answered (u : State) (i abort : Nat) : Prop := ∃ b, Emit.reply i abort b ∈ u.out

/-- A write of `v` to `key` by caller `a` passes every check of R333 that comes before its effect: host firmware runs, the caller is a
session or the JTAG path, and the bytes spell the value `x`. -/
def State.accepts (s : State) (a : Caller) (key : Nat) (v : Bytes) (x : Val) : Prop :=
  s.hostUp = true ∧ a.sess ≤ 256 ∧ s.checkWrite a.role key v = .ok x

/-- Host firmware runs, and it refuses a write of `v` to `key` by caller `a` with abort code `c` (R333). -/
def State.rejects (s : State) (a : Caller) (key : Nat) (v : Bytes) (c : Nat) : Prop :=
  s.hostUp = true ∧ a.sess ≤ 256 ∧ s.checkWrite a.role key v = .error c

/-- The field island is out of reset: its commands act (R431). -/
def State.fieldOn (s : State) : Prop := s.rst.field.active = false
/-- The host island is out of reset: its commands act (R431). -/
def State.hostOn (s : State) : Prop := s.rst.host.active = false

/-! ### What a command leaves -/

/-- The objects in which events and their delivery are counted: `Handling`, `EntriesLost` and the rings' `Occupancy`. -/
def eventKey (key : Nat) : Bool :=
  key == Obj.handling || key == Obj.HostLogStatus.hostEntriesLost || key == Obj.FieldLogStatus.fieldEntriesLost
    || (List.range 64).any (fun r => key == Obj.Ring.occupancy r)

/-- The objects in which an answer to session `i` is counted besides: the session's messages and its port's frames. -/
def answerKey (s : State) (i key : Nat) : Bool :=
  key == Obj.Session.txMessages i || key == Obj.HostPort.txFrames (s.nat (Obj.Session.port i))

/-- Every object outside `l` keeps its value, those of events apart. -/
def objectsKept (s u : State) (l : List Nat) : Prop := ∀ key, key ∉ l → eventKey key = false → u.val key = s.val key

/-- Every object outside `l` keeps its value, those of events and of the answer to session `i` apart. -/
def objectsKeptFor (i : Nat) (s u : State) (l : List Nat) : Prop :=
  ∀ key, key ∉ l → eventKey key = false → answerKey s i key = false → u.val key = s.val key

/-- The parts of the state beside the dictionary, the queue, the clock, the identity and the emissions. -/
inductive Part where
  | flt | tim | web | sched | planes | strips | screen | heads | ports | health | meas | cal | cams | ana | dram | comp | groups
  | net | span | pow | rst | flash | sec | dux
  deriving DecidableEq, Repr

/-- A part is the same in two states. Of the Span, whether a field event was missed is left out, as the end of every command may note it
(R392); and the packers are no part: it may send events across (R385). -/
def Part.same (s u : State) : Part → Prop
  | .flt => u.flt = s.flt | .tim => u.tim = s.tim | .web => u.web = s.web | .sched => u.sched = s.sched
  | .planes => u.planes = s.planes | .strips => u.strips = s.strips | .screen => u.screen = s.screen | .heads => u.heads = s.heads
  | .ports => u.ports = s.ports | .health => u.health = s.health | .meas => u.meas = s.meas | .cal => u.cal = s.cal
  | .cams => u.cams = s.cams | .ana => u.ana = s.ana | .dram => u.dram = s.dram | .comp => u.comp = s.comp
  | .groups => u.groups = s.groups | .net => u.net = s.net | .span => u.span = { s.span with missed := u.span.missed }
  | .pow => u.pow = s.pow | .rst => u.rst = s.rst | .flash => u.flash = s.flash | .sec => u.sec = s.sec | .dux => u.dux = s.dux

/-- Every part outside `l` is the same. -/
def partsKept (s u : State) (l : List Part) : Prop := ∀ p, p ∉ l → p.same s u

/-! ### Resets -/

/-- No source of a reset stands on an island: it runs, or RECOVERY alone holds it. -/
def State.noEpisode (s : State) (i : Side) : Prop := (s.episode i).active = false ∨ (s.episode i).seen = 0

/-- The episode that source `src` opens on an island (R433): of reach `reach`, from a level (`dur` none) or until `dur`. -/
def opened (e : Episode) (src reach : Nat) (dur : Option Nat) : Episode :=
  { active := true, asserted := if dur.isNone then 2 ^ src else 0, seen := 2 ^ src, reach := reach, loading := false, failed := 0
    released := e.released, pulseEnd := dur.getD 0, run := false }

/-- An island released (R434). -/
def atRelease (e : Episode) (now : Nat) : Episode :=
  { e with active := false, seen := 0, asserted := 0, loading := false, released := now }

/-- An island's episode opens: all that the island holds outside its always-on domain is cleared, its objects read their defaults, and the
other island keeps its own but for the Span, which goes down (R431, R433, R435, R436). -/
def cleared (s u : State) : Side → Prop
  | .field =>
    u.nat (Obj.ResetCause.episodes 1) = (s.nat (Obj.ResetCause.episodes 1) + 1) % 2 ^ 32 ∧ u.flag Obj.StartControl.startComplete = false ∧
    u.flag Obj.FaultControl.faultNState = true ∧
    (∀ key, isField (key / 256) = true → keptField key = false → eventKey key = false → u.val key = objDefault key) ∧
    (∀ key, isField (key / 256) = true → keptField key = true → eventKey key = false → key ∉ [Obj.ResetCause.episodes 1,
      Obj.ResetCause.fuseRestart 1, Obj.FuseStatus.fuseRestarts 1, Obj.FaultControl.faultNState] → u.val key = s.val key) ∧
    u.sched = .init ∧ u.planes = [] ∧ u.strips = .init ∧ u.screen = .init ∧ u.heads = [] ∧ u.ports = [] ∧ u.health = .init ∧ u.meas = [] ∧
    u.cams = .init ∧ u.ana = [] ∧ u.dram = [] ∧ u.comp = .init ∧ u.dux = .init ∧ u.groups.staged = [] ∧
    u.cal = .init ∧ u.flash.ageing = s.flash.ageing ∧ u.tim.slave = s.tim.slave ∧ u.flash.slots = s.flash.slots
  | .host =>
    u.nat (Obj.ResetCause.episodes 0) = (s.nat (Obj.ResetCause.episodes 0) + 1) % 2 ^ 32 ∧ u.flag Obj.StartControl.startComplete = false ∧
    (∀ key, isField (key / 256) = false → keptHost key = false → eventKey key = false → u.val key = objDefault key) ∧
    (∀ key, isField (key / 256) = false → keptHost key = true → eventKey key = false → key ∉ [Obj.ResetCause.episodes 0,
      Obj.ResetCause.fuseRestart 0, Obj.FuseStatus.fuseRestarts 0, Obj.MasterTime.source, Obj.StartControl.bootAttempts,
      Obj.PowerControl.pendingPlanes, Obj.Security.ownerKeyHash] → u.val key = s.val key) ∧
    u.val Obj.Security.ownerKeyHash = (if s.lifecycle = 0 then .bytes [] else s.val Obj.Security.ownerKeyHash) ∧
    u.net = { Net.init with nextDeposit := s.net.nextDeposit } ∧ u.groups.transfers = [] ∧ u.tim.master = s.tim.master ∧
    u.flash.slots = s.flash.slots ∧ u.sec.grantEnd = none

end Sys2Proof.Machine
end

