-- ==== Sys2Proof/Certificates/Slice0/Obligations.lean ====
section
/-! DEFINITION. The statements for the provers. Each says of every command it names where that command completes with its own effect, and
what the effect is; the rules are those of spec/. Statements about commands of an island suppose that the island is out of reset
(R431), statements about writes that the checks of R333 pass (`State.accepts`). -/

open Sys2Proof Sys2Proof.Machine

/-- A step on a queue with a command in front is that command on the state with the queue's rest; a step on an empty queue changes nothing
(the block's form of a step; log entry 14). -/
def Obligations.StepRunsFront : Prop :=
  (∀ (c : Instr) (r : List Instr) (s : State), s.pending = c :: r → step s = exec c { s with pending := r }) ∧
  (∀ (s : State), s.pending = [] → step s = .next s)

/-- Edges and standstill of an encoder channel that is not the primary (R43, R44, R47, R59). A first or well-spaced edge on A in full quadrature with
the index input inactive counts by one with the sign of A ≠ B, sets `LastEdgeStamp` and clears Standstill; one that comes before `MinSpacing` has
passed, on a channel not in use, is rejected and counted, and nothing else changes; without an accepted edge for `StandstillTimeout` the speed is 0,
the edge history is gone and Flags [0] is set. -/
def Obligations.EncoderEdgesCountOrAreRejected : Prop :=
  (∀ (s : State) (t e : Nat) (la : Bool), s.fieldOn → e < 2 → e ≠ s.source →
    s.nat (Obj.EncoderConfig.validationMode e) = 0 → s.nat (Obj.EncoderConfig.decodeMode e) = 0 →
    la ≠ (s.enc e).ballA → la ≠ (s.enc e).a →
    (∀ l, (s.enc e).last = some l → l + 5 * s.nat (Obj.EncoderConfig.minSpacing e) ≤ max s.now t / 10) →
    ∃ u, exec (.encoderEdge t e la (s.enc e).ballB (s.flag (Obj.EncoderConfig.indexPolarity e))) s = .next u ∧
      u.num (Obj.EncoderStatus.count e) = sext 48 (s.num (Obj.EncoderStatus.count e) +
        (if (la != (s.enc e).b) != s.flag (Obj.EncoderConfig.reverse e) then 1 else -1)) ∧
      u.nat (Obj.EncoderStatus.lastEdgeStamp e) = (s.tickTo t).edgeStamp ∧
      bit (u.nat (Obj.EncoderStatus.flags e)) 0 = false ∧
      (u.enc e).a = la ∧ (u.enc e).last = some (max s.now t / 10) ∧
      objectsKept s u [Obj.EncoderStatus.count e, Obj.EncoderStatus.lastEdgeStamp e, Obj.EncoderStatus.flags e,
        Obj.EncoderStatus.direction e, Obj.EncoderStatus.speed e] ∧
      partsKept (s.tickTo t) u [.web, .net]) ∧
  (∀ (s : State) (t e l : Nat) (la : Bool), s.fieldOn → e < 2 → s.encInUse e = false →
    s.nat (Obj.EncoderConfig.validationMode e) = 0 → la ≠ (s.enc e).ballA → la ≠ (s.enc e).a →
    (s.enc e).last = some l → max s.now t / 10 < l + 5 * s.nat (Obj.EncoderConfig.minSpacing e) →
    ∃ u, exec (.encoderEdge t e la (s.enc e).ballB (s.enc e).z) s = .next u ∧
      u.nat (Obj.EncoderStatus.rejectedEdges e) = (s.nat (Obj.EncoderStatus.rejectedEdges e) + 1) % 2 ^ 32 ∧
      (u.enc e).a = (s.enc e).a ∧
      objectsKept s u [Obj.EncoderStatus.rejectedEdges e] ∧ partsKept (s.tickTo t) u [.web, .net]) ∧
  (∀ (s : State) (t e l : Nat), s.fieldOn → e < 2 → (s.enc e).last = some l →
    bit (s.nat (Obj.EncoderStatus.flags e)) 0 = false →
    l + 1000000 * s.nat Obj.PositionCertainty.standstillTimeout ≤ max s.now t / 10 →
    ∃ u, exec (.standstill t e) s = .next u ∧ u.num (Obj.EncoderStatus.speed e) = 0 ∧ (u.enc e).hist = [] ∧
      bit (u.nat (Obj.EncoderStatus.flags e)) 0 = true ∧ (e = s.source → raised u Ev.standstill ∧ u.web.lineVN = 0))

/-- The serial position sensor and the prediction limit (R56, R57, R72). A refresh tick of an enabled sensor samples the position and drives SPS_CLK
low, and one that finds a request outstanding, or the last word less than 1 µs past, is skipped and counted; a word whose CRC is wrong is bad and
counted, and leaves `Position`; a word whose CRC is right and whose error bit is inactive sets `Position`, `State` 1 and counts as good; a request
unanswered after `WordTimeout` counts as a timeout; two counts beyond the last edge, predictions are withdrawn. -/
def Obligations.SensorWordsAreJudged : Prop :=
  (∀ (s : State) (t : Nat), s.fieldOn → s.flag Obj.SpsConfig.enable = true → (s.tickTo t).spsDue = true → s.web.spsReq = none →
    (∀ e, s.web.spsEnd = some e → e + 1000 ≤ max s.now t / 10) →
    ∃ u, exec (.spsRequest t) s = .next u ∧
      u.web.spsReq = some (max s.now t / 10, s.web.net) ∧ Emit.pin .spsClk false ∈ u.out ∧
      objectsKept s u [] ∧ partsKept (s.tickTo t) u [.web, .net]) ∧
  (∀ (s : State) (t : Nat), s.fieldOn → s.flag Obj.SpsConfig.enable = true → (s.tickTo t).spsDue = true →
    (s.web.spsReq ≠ none ∨ ∃ e, s.web.spsEnd = some e ∧ max s.now t / 10 < e + 1000) →
    ∃ u, exec (.spsRequest t) s = .next u ∧ u.web.spsReq = s.web.spsReq ∧
      u.nat Obj.SpsStatus.skippedRequests = (s.nat Obj.SpsStatus.skippedRequests + 1) % 2 ^ 32 ∧
      objectsKept s u [Obj.SpsStatus.skippedRequests] ∧ partsKept (s.tickTo t) u [.web, .net]) ∧
  (∀ (s : State) (t word crc r : Nat) (sample : Int), s.fieldOn → s.web.spsReq = some (r, sample) →
    let wb := s.nat Obj.SpsConfig.wordBits
    let cb := s.nat Obj.SpsConfig.crcBits
    let c := spsCrc cb (s.nat Obj.SpsConfig.crcPoly) (word % 2 ^ wb) wb (s.nat Obj.SpsConfig.crcInit)
    let right := if s.flag Obj.SpsConfig.crcInvert then 2 ^ cb - 1 - c else c
    ∃ u, exec (.spsWord t word crc) s = .next u ∧ u.web.spsReq = none ∧
      (crc ≠ right → u.nat Obj.SpsStatus.crcErrors = (s.nat Obj.SpsStatus.crcErrors + 1) % 2 ^ 32 ∧
        u.num Obj.SpsStatus.position = s.num Obj.SpsStatus.position) ∧
      (crc = right → s.nat Obj.SpsConfig.errorBitPos = 0xFF → s.web.spsLoad = false →
        u.nat Obj.SpsStatus.position = word % 2 ^ wb / 2 ^ (wb - s.nat Obj.SpsConfig.positionBits) ∧ u.nat Obj.SpsStatus.state = 1 ∧
        u.nat Obj.SpsStatus.goodWords = (s.nat Obj.SpsStatus.goodWords + 1) % 2 ^ 32)) ∧
  (∀ (s : State) (t r : Nat) (sample : Int), s.fieldOn → s.web.spsReq = some (r, sample) →
    r + 100 * s.nat Obj.SpsConfig.wordTimeout ≤ max s.now t / 10 →
    ∃ u, exec (.spsWordTimeout t) s = .next u ∧ u.web.spsReq = none ∧
      u.nat Obj.SpsStatus.timeouts = (s.nat Obj.SpsStatus.timeouts + 1) % 2 ^ 32) ∧
  (∀ (s : State) (t : Nat), s.fieldOn → s.web.lineVN ≠ 0 →
    2 * 10 ^ 10 * s.web.lineVD < (max s.now t - 10 * s.web.lineT) * s.web.lineVN →
    ∃ u, exec (.predictionLimit t) s = .next u ∧ u.web = { s.web with limited := true } ∧
      objectsKept s u [] ∧ partsKept (s.tickTo t) u [.web, .net])

/-- Writes to the web position unit that pass their checks (R48, R57, R63, R66, R69, R76, R540): a preset sets a counter and, for the primary, the
schedule position; LoadFromSps arms a load; IndexArm arms the index function and clears IndexStuck; CheckReset takes a new reference; UncertainClear
ends the uncertain state once its conditions have gone; LineLoad sets a disabled plane's accumulator; a write of PrimarySource changes the source and
ends scaled counting. -/
def Obligations.WebWritesTakeEffect : Prop :=
  (∀ (s : State) (t e : Nat) (a : Caller) (v : Bytes) (n : Int), e < 2 → s.accepts a (Obj.EncoderConfig.counterPreset e) v (.num n) →
    s.anyPlane = false → (∀ x ∈ s.sched.table, x.lineKey = true) →
    ∃ u, exec (.counterPreset t a e v) s = .next u ∧ u.num (Obj.EncoderStatus.count e) = sext 48 n ∧ (u.enc e).idxR = none ∧
      (e = s.source → u.num Obj.ScheduleControl.schedulePosition = sext 48 n) ∧ answered u a.sess 0) ∧
  (∀ (s : State) (t : Nat) (a : Caller) (v : Bytes) (x : Val), s.accepts a Obj.SpsConfig.loadFromSps v x → s.anyPlane = false →
    ∃ u, exec (.loadFromSps t a v) s = .next u ∧ u.web = { s.web with spsLoad := true } ∧ answered u a.sess 0 ∧
      objectsKeptFor a.sess s u [] ∧ partsKept (s.tickTo t) u [.web, .net, .dux]) ∧
  (∀ (s : State) (t e : Nat) (a : Caller) (v : Bytes) (x : Val), e < 2 → s.accepts a (Obj.EncoderConfig.indexArm e) v x →
    ∃ u, exec (.indexArm t a e v) s = .next u ∧ (u.enc e).idxArm = true ∧ (u.enc e).idxR = none ∧ (u.enc e).idxStuck = false ∧
      bit (u.nat (Obj.EncoderStatus.flags e)) 3 = false ∧ answered u a.sess 0 ∧
      objectsKeptFor a.sess s u [Obj.EncoderStatus.flags e] ∧ partsKept (s.tickTo t) u [.web, .net, .dux]) ∧
  (∀ (s : State) (t : Nat) (a : Caller) (v : Bytes) (x : Val), s.accepts a Obj.WebSource.checkReset v x →
    ∃ u, exec (.checkReset t a v) s = .next u ∧ u.web.chkPri = 0 ∧ u.web.chkChk = 0 ∧
      u.web.chkOn = (s.nat Obj.WebSource.checkSource != 0) ∧ answered u a.sess 0 ∧
      objectsKeptFor a.sess s u [] ∧ partsKept (s.tickTo t) u [.web, .net, .dux]) ∧
  (∀ (s : State) (t : Nat) (a : Caller) (v : Bytes) (x : Val), s.accepts a Obj.PositionCertainty.uncertainClear v x →
    (∀ e < 2, s.encInUse e = true → (s.tickTo t).calm e = true) → s.disagrees = false → s.web.disagree = false →
    ∃ u, exec (.uncertainClear t a v) s = .next u ∧ u.num Obj.PositionCertainty.positionState = 0 ∧
      u.num Obj.PositionCertainty.uncertainCause = 0 ∧ answered u a.sess 0 ∧
      objectsKeptFor a.sess s u [Obj.PositionCertainty.positionState, Obj.PositionCertainty.uncertainCause] ∧
      partsKept (s.tickTo t) u [.net, .dux]) ∧
  (∀ (s : State) (t k : Nat) (a : Caller) (v : Bytes) (n : Int), k < 4 → s.accepts a (Obj.LineGenerator.lineLoad k) v (.num n) →
    s.flag (Obj.PlaneConfig.enable k) = false →
    ∃ u, exec (.lineLoad t a k v) s = .next u ∧ (u.plane k).acc = n * 2 ^ 48 ∧ u.num (Obj.LineGenerator.planeLine k) = n ∧
      u.num (Obj.LineGenerator.phase k) = 0 ∧ answered u a.sess 0 ∧
      objectsKeptFor a.sess s u [Obj.LineGenerator.planeLine k, Obj.LineGenerator.phase k] ∧
      partsKept (s.tickTo t) u [.planes, .net, .dux]) ∧
  (∀ (s : State) (t e : Nat) (a : Caller) (v : Bytes), e < 2 → s.accepts a Obj.WebSource.primarySource v (.num e) →
    s.nat Obj.WebSource.checkSource ≠ e + 1 → s.anyPlane = false → (∀ x ∈ s.sched.table, x.lineKey = true) →
    ∃ u, exec (.primarySourceWrite t a v) s = .next u ∧ u.num Obj.WebSource.primarySource = e ∧ u.web.scaled = none ∧
      u.num Obj.ScheduleControl.schedulePosition = sext 48 (s.num (Obj.EncoderStatus.count e)) ∧ answered u a.sess 0)

/-- Writes to the position schedule (R87, R88, R98). A ScheduleInsert of entries of which none is refused, and for which there is room, is accepted;
where none is late either, all are armed in the order written, and beside the schedule at most the tiles of pages whose start becomes known are
counted. One with a refused entry inserts nothing and answers the abort of the first, one without room 0x0601_0001. CancelTag removes the armed
entries that carry the tag, CancelAll removes all, and each counts what it removed. -/
def Obligations.ScheduleWritesTakeEffect : Prop :=
  (∀ (s : State) (t : Nat) (a : Caller) (v b : Bytes), s.accepts a Obj.scheduleInsert v (.bytes b) →
    let l := parseEntries (b.length / 16) s.sched.nextSeq b
    (∀ p ∈ l, s.entryAbort p.1 p.2 = 0) → s.sched.table.length + b.length / 16 ≤ 2048 →
    ∃ u, exec (.scheduleInsert t a v) s = .next u ∧ answered u a.sess 0) ∧
  (∀ (s : State) (t : Nat) (a : Caller) (v b : Bytes), s.accepts a Obj.scheduleInsert v (.bytes b) →
    let l := parseEntries (b.length / 16) s.sched.nextSeq b
    (∀ p ∈ l, s.entryAbort p.1 p.2 = 0 ∧ s.entryLate p.1 = false) → s.sched.table.length + b.length / 16 ≤ 2048 →
    ∃ u, exec (.scheduleInsert t a v) s = .next u ∧
      u.sched = { s.sched with table := s.sched.table ++ l.map (·.1), nextSeq := s.sched.nextSeq + b.length / 16 } ∧
      u.nat Obj.ScheduleControl.armedEntries = u.sched.table.length ∧ answered u a.sess 0 ∧
      objectsKeptFor a.sess s u ([Obj.ScheduleControl.armedEntries, Obj.scheduleTable] ++ [0, 1, 2, 3].flatMap (fun k =>
        [Obj.PageQueue.waitingStrips k, Obj.PageQueue.queueDepth k, Obj.PageQueue.activeJob k, Obj.PageQueue.activePage k,
          Obj.PageQueue.activeStartLine k])) ∧
      partsKept (s.tickTo t) u [.sched, .planes, .net, .dux] ∧
      ((∀ p ∈ l, p.1.action ≠ 1) → objectsKeptFor a.sess s u [Obj.ScheduleControl.armedEntries, Obj.scheduleTable] ∧
        u.planes = s.planes)) ∧
  (∀ (s : State) (t : Nat) (a : Caller) (v b : Bytes) (p : SchedEntry × Bool) (l1 l2 : List (SchedEntry × Bool)),
    s.accepts a Obj.scheduleInsert v (.bytes b) → parseEntries (b.length / 16) s.sched.nextSeq b = l1 ++ p :: l2 →
    (∀ q ∈ l1, s.entryAbort q.1 q.2 = 0) → s.entryAbort p.1 p.2 ≠ 0 →
    ∃ u, exec (.scheduleInsert t a v) s = .next u ∧ answered u a.sess (s.entryAbort p.1 p.2) ∧
      objectsKeptFor a.sess s u [] ∧ partsKept (s.tickTo t) u [.net]) ∧
  (∀ (s : State) (t : Nat) (a : Caller) (v b : Bytes), s.accepts a Obj.scheduleInsert v (.bytes b) →
    (∀ p ∈ parseEntries (b.length / 16) s.sched.nextSeq b, s.entryAbort p.1 p.2 = 0) → 2048 < s.sched.table.length + b.length / 16 →
    ∃ u, exec (.scheduleInsert t a v) s = .next u ∧ answered u a.sess 0x06010001 ∧
      objectsKeptFor a.sess s u [] ∧ partsKept (s.tickTo t) u [.net]) ∧
  (∀ (s : State) (t : Nat) (a : Caller) (v : Bytes) (tag : Nat), s.accepts a Obj.ScheduleCancel.cancelTag v (.num tag) →
    ∃ u, exec (.cancelTag t a v) s = .next u ∧
      u.sched = { s.sched with table := s.sched.table.filter (fun e => e.tag != tag) } ∧
      u.nat Obj.ScheduleCancel.lastCancelled = (s.sched.table.filter (fun e => e.tag == tag)).length ∧
      u.nat Obj.ScheduleControl.armedEntries = u.sched.table.length ∧ answered u a.sess 0 ∧
      objectsKeptFor a.sess s u [Obj.ScheduleControl.armedEntries, Obj.scheduleTable, Obj.ScheduleCancel.lastCancelled] ∧
      partsKept (s.tickTo t) u [.sched, .net, .dux]) ∧
  (∀ (s : State) (t : Nat) (a : Caller) (v : Bytes) (x : Val), s.accepts a Obj.ScheduleCancel.cancelAll v x →
    ∃ u, exec (.cancelAll t a v) s = .next u ∧ u.sched = { s.sched with table := [] } ∧
      u.nat Obj.ScheduleCancel.lastCancelled = s.sched.table.length ∧ u.nat Obj.ScheduleControl.armedEntries = 0 ∧
      answered u a.sess 0 ∧
      objectsKeptFor a.sess s u [Obj.ScheduleControl.armedEntries, Obj.scheduleTable, Obj.ScheduleCancel.lastCancelled] ∧
      partsKept (s.tickTo t) u [.sched, .net, .dux])

/-- Writes to line-synchronous objects (R99). One that governs an enabled plane waits for that plane's first unopened line, in place of an earlier
waiting write to the same object; one that governs a disabled plane has its effect at once, in place of one that still waits. `LastRwlLine` names the
first unopened line (for a disabled plane the model's choice, log entry 143). One that governs no plane, or a head that no plane uses, has its effect
at once. -/
def Obligations.LineSynchronousWriteWaits : Prop :=
  (∀ (s : State) (t ix sub k : Nat) (a : Caller) (v : Bytes) (x : Val) (d : Desc), k < 4 →
    s.accepts a (ix * 256 + sub) v x → vendorAccess a.role ix = false → descOf (ix * 256 + sub) = some d → d.acc = .rwl →
    boundPlane s.dict (ix * 256 + sub) = some k → s.flag (Obj.PlaneConfig.enable k) = true →
    (∀ h, within 0x4100 64 ix = some h → inUse s.dict h = true) →
    (∀ j, planePhaseOf (ix * 256 + sub) = some j → s.planePhaseOk j x.int = true) →
    ∃ u, exec (.rwlWrite t a ix sub d.ty.code v) s = .next u ∧
      u.sched = { s.sched with rwl := s.sched.rwl.filter (fun w => w.key != ix * 256 + sub) ++
        [{ plane := k, line := s.unopened k, key := ix * 256 + sub, val := x.int }] } ∧
      u.num (Obj.PlaneSchedule.lastRwlLine k) = sext 48 (s.unopened k) ∧
      u.val (ix * 256 + sub) = s.val (ix * 256 + sub) ∧ answered u a.sess 0 ∧
      objectsKeptFor a.sess s u [Obj.PlaneSchedule.lastRwlLine k, Obj.PlaneSchedule.rwlPending k] ∧
      partsKept (s.tickTo t) u [.sched, .net, .dux]) ∧
  (∀ (s : State) (t ix sub k : Nat) (a : Caller) (v : Bytes) (x : Val) (d : Desc), k < 4 →
    s.accepts a (ix * 256 + sub) v x → vendorAccess a.role ix = false → descOf (ix * 256 + sub) = some d → d.acc = .rwl →
    boundPlane s.dict (ix * 256 + sub) = some k → s.flag (Obj.PlaneConfig.enable k) = false →
    (∀ h, within 0x4100 64 ix = some h → inUse s.dict h = true) →
    (∀ j, planePhaseOf (ix * 256 + sub) = some j → s.planePhaseOk j x.int = true) →
    ∃ u, exec (.rwlWrite t a ix sub d.ty.code v) s = .next u ∧ u.val (ix * 256 + sub) = x ∧
      u.sched = { s.sched with rwl := s.sched.rwl.filter (fun w => w.key != ix * 256 + sub) } ∧
      u.num (Obj.PlaneSchedule.lastRwlLine k) = sext 48 (s.unopened k) ∧ answered u a.sess 0) ∧
  (∀ (s : State) (t ix sub : Nat) (a : Caller) (v : Bytes) (x : Val) (d : Desc),
    s.accepts a (ix * 256 + sub) v x → vendorAccess a.role ix = false → descOf (ix * 256 + sub) = some d → d.acc = .rwl →
    (boundPlane s.dict (ix * 256 + sub) = none ∨ ∃ h, within 0x4100 64 ix = some h ∧ inUse s.dict h = false) →
    (∀ j, planePhaseOf (ix * 256 + sub) = some j → s.planePhaseOk j x.int = true) →
    ∃ u, exec (.rwlWrite t a ix sub d.ty.code v) s = .next u ∧ u.val (ix * 256 + sub) = x ∧ u.sched = s.sched ∧ answered u a.sess 0)

/-- The enabling, disabling and checking of a plane (R69, R118, R134, R426): an enable whose geometry check passes, in RUN, with every subchannel
ready and no rise of the need that must wait, opens the plane from its accumulator; outside RUN it is noted in `PendingPlanes`; a check that fails
refuses it with 0x0302_0001 and reports its reason; a disable leaves the plane disabled, its trestle released, and not pending; CheckPlane reports the
check of current and staged values and enables nothing. -/
def Obligations.PlanesEnableAndDisable : Prop :=
  (∀ (s : State) (t k h : Nat) (a : Caller) (v : Bytes), k < 4 → s.accepts a (Obj.PlaneConfig.enable k) v (.num 1) →
    s.flag (Obj.PlaneConfig.enable k) = false → geometryCheck s.dict s.exts k = (0, h) → ((s.tickTo t).enableAbort k).1 = 0 →
    s.pow.state = 0 → s.sched.table = [] → s.sched.rwl = [] →
    (let s' := ((s.tickTo t).enableAbort k).2
     (s'.raiseNeed (max (s'.planeNeed (k :: s'.enabled)) s'.needNow.2)).2 = false) →
    ∃ u, exec (.planeEnable t a k v) s = .next u ∧ u.flag (Obj.PlaneConfig.enable k) = true ∧
      (u.plane k).acc = (s.plane k).acc ∧ (u.plane k).hwm = (s.plane k).acc ∧ answered u a.sess 0) ∧
  (∀ (s : State) (t k h : Nat) (a : Caller) (v : Bytes), k < 4 → s.accepts a (Obj.PlaneConfig.enable k) v (.num 1) →
    s.flag (Obj.PlaneConfig.enable k) = false → geometryCheck s.dict s.exts k = (0, h) → ((s.tickTo t).enableAbort k).1 = 0 →
    s.pow.state ≠ 0 →
    ∃ u, exec (.planeEnable t a k v) s = .next u ∧ u.flag (Obj.PlaneConfig.enable k) = false ∧
      bit (u.nat Obj.PowerControl.pendingPlanes) k = true ∧ answered u a.sess 0 ∧ partsKept (s.tickTo t) u [.net, .dux]) ∧
  (∀ (s : State) (t k r h : Nat) (a : Caller) (v : Bytes), k < 4 → s.accepts a (Obj.PlaneConfig.enable k) v (.num 1) →
    s.flag (Obj.PlaneConfig.enable k) = false → geometryCheck s.dict s.exts k = (r, h) → r ≠ 0 →
    ((s.tickTo t).enableAbort k).1 ≠ 0x03030001 →
    ∃ u, exec (.planeEnable t a k v) s = .next u ∧ answered u a.sess 0x03020001 ∧ u.nat Obj.PlaneCheck.faultReason = r ∧
      u.nat Obj.PlaneCheck.faultPlane = k ∧ u.nat Obj.PlaneCheck.faultHead = h ∧
      objectsKeptFor a.sess s u [Obj.PlaneCheck.faultReason, Obj.PlaneCheck.faultPlane, Obj.PlaneCheck.faultHead] ∧
      partsKept (s.tickTo t) u [.net]) ∧
  (∀ (s : State) (t k : Nat) (a : Caller) (v : Bytes), k < 4 → s.accepts a (Obj.PlaneConfig.enable k) v (.num 0) →
    ∃ u, exec (.planeDisable t a k v) s = .next u ∧ u.flag (Obj.PlaneConfig.enable k) = false ∧
      bit (u.nat Obj.PowerControl.pendingPlanes) k = false ∧ answered u a.sess 0 ∧
      (s.flag (Obj.PlaneConfig.enable k) = true → u.num (Obj.PlaneConfig.trestleOffset k) = 0xFFFFFFFFFFFFFFFF ∧
        (u.plane k).lines = [])) ∧
  (∀ (s : State) (t k r h : Nat) (a : Caller) (v : Bytes), s.accepts a Obj.PlaneCheck.checkPlane v (.num k) →
    geometryCheck (s.groups.staged.foldl (fun d g => overlay d g.2) s.dict) s.exts k = (r, h) →
    ∃ u, exec (.checkPlane t a v) s = .next u ∧ u.nat Obj.PlaneCheck.faultReason = r ∧ u.nat Obj.PlaneCheck.faultPlane = k ∧
      u.nat Obj.PlaneCheck.faultHead = h ∧ answered u a.sess 0 ∧
      objectsKeptFor a.sess s u [Obj.PlaneCheck.faultReason, Obj.PlaneCheck.faultPlane, Obj.PlaneCheck.faultHead] ∧
      partsKept (s.tickTo t) u [.net, .dux])

/-- The end of a deposit (R127, R128, R385): a container accepted for a page that is not queued is held as an orphan, one that matches its page is
held bound; a refused one leaves the store as it is and counts in `Refused`, a full store raises StoreFull; either is answered with its status in
DEPOSIT_ACK. A strip that matches no tile of its page is counted, reported and not held. While the Span is lost no container is accepted (R392). A
DEPOSIT_ABORT of the deposit under assembly answers TRUNCATED, or the check that its container fails first, and gives the message up. -/
def Obligations.DepositsAreAnswered : Prop :=
  (∀ (s : State) (t : Nat) (body : Bytes), s.fieldOn → s.firewall 0x02 body = 0 → s.span.lostF = false →
    let c := body.drop 8
    let x := stripOf c
    ∃ u, exec (.deposit t body) s = .next u ∧
      Emit.span .field 0x42 (depositAck (fld body 0 2) (fld body 4 4) (s.depositStatus c) c) ∈ u.out ∧
      (s.depositStatus c ≤ 1 → s.pageFor x = none → u.strips.held = s.strips.held.filter (fun y => !sameKey x y) ++ [x]) ∧
      (s.depositStatus c ≤ 1 → ∀ p, s.pageFor x = some p → p.matches x = true → { x with bound := true } ∈ u.strips.held) ∧
      (s.depositStatus c ≤ 1 → ∀ p, s.pageFor x = some p → p.matches x = false →
        u.strips.held = s.strips.held.filter (fun y => !sameKey x y) ∧ u.strips.mismatches = s.strips.mismatches + 1 ∧
        raised u Ev.stripMismatch) ∧
      (2 ≤ s.depositStatus c → u.strips = s.strips ∧
        u.nat Obj.StripStore.refused = (s.nat Obj.StripStore.refused + 1) % 2 ^ 32 ∧ objectsKept s u [Obj.StripStore.refused]) ∧
      (s.depositStatus c = 4 → raised u Ev.storeFull) ∧
      partsKept (s.tickTo t) u [.strips, .span, .flt, .net]) ∧
  (∀ (s : State) (t : Nat) (body : Bytes), s.fieldOn → s.firewall 0x02 body = 0 → s.span.lostF = true →
    let c := body.drop 8
    ∃ u, exec (.deposit t body) s = .next u ∧
      Emit.span .field 0x42 (depositAck (fld body 0 2) (fld body 4 4) (if s.depositStatus c ≤ 1 then 7 else s.depositStatus c) c) ∈ u.out ∧
      u.nat Obj.StripStore.refused = (s.nat Obj.StripStore.refused + 1) % 2 ^ 32 ∧ objectsKept s u [Obj.StripStore.refused] ∧
      partsKept (s.tickTo t) u [.span, .flt, .net]) ∧
  (∀ (s : State) (t : Nat) (body data : Bytes) (bad : Bool), s.fieldOn → s.firewall 0x03 body = 0 →
    (s.rxF 1).msg = some (0x02, data, bad) → fld data 4 4 = fld body 0 4 → 8 ≤ data.length →
    let c := data.drop 8
    ∃ u, exec (.depositAbort t body) s = .next u ∧
      Emit.span .field 0x42 (depositAck (fld data 0 2) (fld data 4 4) (if s.depositStatus c ≤ 1 then 7 else s.depositStatus c) c) ∈ u.out ∧
      (u.rxF 1).msg = none ∧ u.nat Obj.StripStore.refused = (s.nat Obj.StripStore.refused + 1) % 2 ^ 32 ∧
      objectsKept s u [Obj.StripStore.refused] ∧ partsKept (s.tickTo t) u [.span, .flt, .net])

/-- Writes to the page queues and the strip store (R128, R130, R134, R135, R141): an accepted descriptor enters its queue last, a bad one is refused
with 0x0201_0001 and changes nothing; PageAbort ends the active page at the first unopened line with PageAborted, and 2 withholds besides every opened
line of the plane whose strobe is not committed; FlushJob leaves no queued page and no orphan of the job; FlushOrphans leaves only bound strips;
Resume ends the hold. -/
def Obligations.PageQueueWritesTakeEffect : Prop :=
  (∀ (s : State) (t k : Nat) (a : Caller) (v b : Bytes) (p : Page), k < 4 → s.accepts a (Obj.PageQueue.pageAppend k) v (.bytes b) →
    s.parsePage k b = some p → (s.plane k).pages.length < 1024 →
    (let s' := (s.tickTo t).setPages k ((s.plane k).pages ++ [p]);
      max (s'.planeNeed s'.enabled) s'.needNow.2 ≤ s.nat Obj.Dvfs.needMHz) →
    ∃ u, exec (.pageAppend t a k v) s = .next u ∧ (u.plane k).pages.length = (s.plane k).pages.length + 1 ∧
      (s.flag (Obj.PlaneConfig.enable k) = false → (u.plane k).pages = (s.plane k).pages ++ [p]) ∧
      u.nat (Obj.PageQueue.queueDepth k) = (s.plane k).pages.length + 1 ∧ answered u a.sess 0) ∧
  (∀ (s : State) (t k : Nat) (a : Caller) (v b : Bytes), k < 4 → s.accepts a (Obj.PageQueue.pageAppend k) v (.bytes b) →
    s.parsePage k b = none →
    ∃ u, exec (.pageAppend t a k v) s = .next u ∧ answered u a.sess 0x02010001 ∧ objectsKeptFor a.sess s u [] ∧
      partsKept (s.tickTo t) u [.net]) ∧
  (∀ (s : State) (t k : Nat) (a : Caller) (v : Bytes), k < 4 → s.accepts a (Obj.PageQueue.pageAbort k) v (.num 1) →
    (∃ p ∈ (s.plane k).pages, p.start.isSome = true ∧ p.cut = false) →
    ∃ u, exec (.pageAbortAtLine t a k v) s = .next u ∧ raised u Ev.pageAborted ∧ answered u a.sess 0 ∧
      (u.plane k).opened = (s.plane k).opened ∧ (∀ p ∈ (u.plane k).pages, p.start.isSome = true → p.cut = true ∧ (p.last < s.unopened k ∨ ∃ q ∈ (s.plane k).pages, q.cut = true ∧ q.last = p.last))) ∧
  (∀ (s : State) (t k : Nat) (a : Caller) (v : Bytes), k < 4 → s.accepts a (Obj.PageQueue.pageAbort k) v (.num 2) →
    (∃ p ∈ (s.plane k).pages, p.start.isSome = true ∧ p.cut = false) →
    ∃ u, exec (.pageAbortNow t a k v) s = .next u ∧ raised u Ev.pageAborted ∧ answered u a.sess 0 ∧
      (∀ p ∈ (u.plane k).pages, p.start.isSome = true → p.cut = true ∧ (p.last < s.unopened k ∨ ∃ q ∈ (s.plane k).pages, q.cut = true ∧ q.last = p.last)) ∧
      (∀ h ∈ planeHeads s.dict k, ∀ f ∈ (u.head h).lines, f.st = .waiting → f.hold.isSome = true)) ∧
  (∀ (s : State) (t job : Nat) (a : Caller) (v : Bytes), s.accepts a Obj.StripStore.flushJob v (.num job) →
    ∃ u, exec (.flushJob t a v) s = .next u ∧ answered u a.sess 0 ∧
      (∀ k < 4, ∀ p ∈ (u.plane k).pages, p.start = none → p.job ≠ job) ∧
      (∀ y ∈ u.strips.held, y.bound = false → y.job ≠ job)) ∧
  (∀ (s : State) (t : Nat) (a : Caller) (v : Bytes) (x : Val), s.accepts a Obj.StripStore.flushOrphans v x →
    ∃ u, exec (.flushOrphans t a v) s = .next u ∧ u.strips.held = s.strips.held.filter (fun y => y.bound) ∧
      u.nat Obj.StripStore.orphans = 0 ∧ answered u a.sess 0 ∧ partsKept (s.tickTo t) u [.strips, .rst, .net, .dux]) ∧
  (∀ (s : State) (t k : Nat) (a : Caller) (v : Bytes) (x : Val), k < 4 → s.accepts a (Obj.PageQueue.resume k) v x →
    s.flag (Obj.PageQueue.held k) = true →
    ∃ u, exec (.pageQueueResume t a k v) s = .next u ∧ u.flag (Obj.PageQueue.held k) = false ∧
      (u.plane k).pages = mapHead (fun q => { q with waits := true }) (s.plane k).pages ∧ answered u a.sess 0 ∧
      partsKept (s.tickTo t) u [.planes, .net, .dux])

/-- The inflate engines (R137, R138, R142, R143): dispatch gives the strip that comes first to the lowest free engine of its plane's mask; a strip
whose bytes match its CRC-32 is verified and counted, one whose bytes do not fails with StripFailed and counts in `CrcErrors`; a reset of an idle or
gated engine clears it, one of a busy engine asks it to go idle; an engine that faults is reset in the same way, and its strip is not dispatched to it
again next. -/
def Obligations.InflateEnginesWork : Prop :=
  (∀ (s : State) (t e : Nat) (x : Strip), s.fieldOn → (s.tickTo t).nextStrip = some x → s.freeEngine x = some e →
    ∃ u, exec (.inflateDispatch t) s = .next u ∧ u.nat (Obj.EngineStatus.state e) = 1 ∧ u.nat (Obj.EngineStatus.plane e) = x.plane ∧
      u.nat (Obj.EngineStatus.job e) = x.job ∧ u.nat (Obj.EngineStatus.page e) = x.page ∧
      (∀ y ∈ u.strips.held, sameKey x y = true → y.st = .inflating e) ∧ partsKept (s.tickTo t) u [.strips, .net]) ∧
  (∀ (s : State) (t e : Nat) (x : Strip) (b : Bytes), s.fieldOn → e < 16 → s.engineStrip e = some x → x.dead = false →
    (if x.comp = 0 then Except.ok x.data else inflate x.raw x.data) = .ok b →
    ∃ u, exec (.inflateComplete t e) s = .next u ∧ u.nat (Obj.EngineStatus.state e) = 0 ∧
      (crc32 b = x.crc → u.nat Obj.InflateStatus.stripsVerified = (s.nat Obj.InflateStatus.stripsVerified + 1) % 2 ^ 64 ∧
        (∀ y ∈ u.strips.held, sameKey x y = true → y.st = .verified b)) ∧
      (crc32 b ≠ x.crc → u.nat Obj.InflateStatus.crcErrors = (s.nat Obj.InflateStatus.crcErrors + 1) % 2 ^ 32 ∧
        raised u Ev.stripFailed ∧ (∀ y ∈ u.strips.held, sameKey x y = true → y.st = .failed true)) ∧
      partsKept (s.tickTo t) u [.strips, .rst, .flt, .net]) ∧
  (∀ (s : State) (t e : Nat) (a : Caller) (v : Bytes) (x : Val), e < 16 → s.accepts a (Obj.EngineStatus.reset e) v x →
    ∃ u, exec (.inflateEngineReset t a e v) s = .next u ∧ answered u a.sess 0 ∧
      (s.engineStrip e = none ∨ bit (s.nat Obj.FieldGates.enable) 30 = false →
        u.nat (Obj.EngineStatus.state e) = 0 ∧ u.nat (Obj.EngineStatus.plane e) = 0xFF) ∧
      (s.engineStrip e ≠ none → bit (s.nat Obj.FieldGates.enable) 30 = true → s.waits .engine e = false →
        u.nat (Obj.EngineStatus.state e) = 2 ∧ u.waits .engine e = true ∧ u.strips = s.strips) ∧
      partsKept (s.tickTo t) u [.strips, .rst, .net, .dux]) ∧
  (∀ (s : State) (t e : Nat), s.fieldOn → e < 16 →
    ∃ u, exec (.inflateEngineFault t e) s = .next u ∧ raised u Ev.inflateEngineFault ∧
      (s.engineStrip e = none ∨ bit (s.nat Obj.FieldGates.enable) 30 = false →
        u.nat (Obj.EngineStatus.state e) = 0 ∧ u.nat (Obj.EngineStatus.plane e) = 0xFF) ∧
      (∀ x, s.engineStrip e = some x → bit (s.nat Obj.FieldGates.enable) 30 = true → s.waits .engine e = false →
        u.nat (Obj.EngineStatus.state e) = 2 ∧ u.waits .engine e = true) ∧
      (∀ x, s.engineStrip e = some x → ∀ y ∈ u.strips.held, sameKey x y = true → y.notOn = some e) ∧
      partsKept (s.tickTo t) u [.strips, .rst, .flt, .net])

/-- Screening and the nozzle table (R129, R146, R155, R167, R170): the oldest opened line of a plane is screened and leaves the plane's list; in no
page it gives code 0 on every nozzle of every head set to fire it, written into the head's trestle ring; in a contone page it counts in
`LinesScreened`. A whole-block nozzle write stores its entries, leaves every other channel's, and tells in `WriteLine` from which line of each plane
they hold; one with a reserved bit set is refused with 0x0201_0001. -/
def Obligations.LinesAreScreened : Prop :=
  (∀ (s : State) (t k : Nat) (o : OpenLine) (r : List OpenLine), s.fieldOn → (s.span.lostF = false ∨ s.pow.state ≠ 0) → (s.plane k).lines = o :: r →
    ∃ u, exec (.screenLine t k) s = .next u ∧ (u.plane k).lines = r ∧
      (o.page = none → o.fresh = false →
        (∀ h ∈ o.heads, (u.head h).slots.head? = some (o.line, List.replicate (nozzles o.cfg h) 0)) ∧ u.screen.ntab = s.screen.ntab) ∧
      (∀ j p S q, k < 4 → o.page = some (j, p, S) →
        (s.plane k).pages.find? (fun q => q.job == j && q.page == p && q.start == some S) = some q → dotBits q.format = none →
        u.nat (Obj.ScreenStatus.linesScreened k) = (s.nat (Obj.ScreenStatus.linesScreened k) + 1) % 2 ^ 64)) ∧
  (∀ (s : State) (t : Nat) (a : Caller) (v b : Bytes), s.accepts a Obj.NozzleTable.nozzleWrite v (.bytes b) →
    let first := fld b 0 4
    let n := (b.length - 8) / 8
    (b.length - 8) % 512 = 0 → 520 ≤ b.length → b.length ≤ 65544 → first % 64 = 0 → first + n ≤ s.pool → fld b 4 4 = 0 →
    (∀ i < n, entryOk (fld b (8 + 8 * i) 8) = true) →
    ∃ u, exec (.nozzleWrite t a v) s = .next u ∧ answered u a.sess 0 ∧
      (∀ i < n, nzEntry u.screen.ntab (first + i) = fld b (8 + 8 * i) 8) ∧
      (∀ c, c < first ∨ first + n ≤ c → nzEntry u.screen.ntab c = nzEntry s.screen.ntab c) ∧
      (∀ k < 4, u.num (Obj.NozzleTable.writeLine k) = sext 48 (s.unopened k)) ∧
      objectsKeptFor a.sess s u [Obj.NozzleTable.writeLine 0, Obj.NozzleTable.writeLine 1, Obj.NozzleTable.writeLine 2,
        Obj.NozzleTable.writeLine 3] ∧
      partsKept (s.tickTo t) u [.screen, .health, .net, .dux]) ∧
  (∀ (s : State) (t i : Nat) (a : Caller) (v b : Bytes), s.accepts a Obj.NozzleTable.nozzleWrite v (.bytes b) →
    i < (b.length - 8) / 8 → entryOk (fld b (8 + 8 * i) 8) = false →
    ∃ u, exec (.nozzleWrite t a v) s = .next u ∧ answered u a.sess 0x02010001 ∧ objectsKeptFor a.sess s u [] ∧
      partsKept (s.tickTo t) u [.net])

/-- Bring-up of a head port (R189, R190): a due attempt of a pier in service, its crystal accepted, drives HTX, enters stage 1 and counts; each report
of HRX_LOCK advances it by one step to stage 4, with the polarity noted (one report per step is the model's reading, log entry 145); an attempt that
passes its bound before stage 6 on the main path falls due again on it, the third one on the fall-back path unless `LineCode` forbids that; one that
passes it in stage 6 or 7 enters DOWN with PierLinkDown or NoCarrier; after `RetryInterval` a DOWN port is due on the main path. -/
def Obligations.BringUpAdvances : Prop :=
  (∀ (s : State) (t h : Nat), s.fieldOn → h < 64 → h < s.nHeads → (s.port h).due = true → s.inService h = true →
    s.nat (Obj.Clocks.xtalState 1) = 1 →
    ∃ u, exec (.bringUpAttempt t h) s = .next u ∧ u.portState h = 1 ∧ u.nat (Obj.PortStatus.stage h) = 1 ∧
      u.nat (Obj.PortStatus.attempts h) = (s.nat (Obj.PortStatus.attempts h) + 1) % 2 ^ 32 ∧ (u.port h).due = false ∧
      Emit.pier h (max s.now t) [idleBlock] ∈ u.out ∧ partsKept (s.tickTo t) u [.ports, .flt, .net]) ∧
  (∀ (s : State) (t h : Nat) (inv : Bool), s.fieldOn → h < 64 → h < s.nHeads → s.portState h = 1 → (s.port h).due = false →
    (s.port h).locked = false →
    ∃ u, exec (.hrxLock t h inv) s = .next u ∧ bit (u.nat (Obj.PortStatus.link h)) 4 = inv ∧
      (s.nat (Obj.PortStatus.stage h) < 3 →
        u.nat (Obj.PortStatus.stage h) = s.nat (Obj.PortStatus.stage h) + 1 ∧ (u.port h).locked = false) ∧
      (3 ≤ s.nat (Obj.PortStatus.stage h) → (u.port h).locked = true ∧ 4 ≤ u.nat (Obj.PortStatus.stage h) ∧
        u.nat (Obj.PortStatus.stage h) ≤ 6) ∧ partsKept (s.tickTo t) u [.ports, .net]) ∧
  (∀ (s : State) (t h : Nat), s.fieldOn → h < 64 → h < s.nHeads → s.portState h = 1 → (s.port h).due = false →
    s.nat (Obj.PortStatus.stage h) < 6 → (s.port h).fallback = false →
    ((s.port h).start + 5 * 10 ^ 7 ≤ max s.now t ∨
      ∃ b, s.stepBound h (s.nat (Obj.PortStatus.stage h)) = some b ∧ (s.port h).stageAt + b ≤ max s.now t) →
    ((s.port h).fails + 1 < 3 ∨ s.nat (Obj.PierConfig.lineCode (h / 4)) ≠ 1) →
    ∃ u, exec (.bringUpStageTimeout t h) s = .next u ∧ (u.port h).due = true ∧
      ((s.port h).fails + 1 < 3 → (u.port h).fallback = false ∧ (u.port h).fails = (s.port h).fails + 1) ∧
      (3 ≤ (s.port h).fails + 1 → (u.port h).fallback = true ∧ (u.port h).fails = 0) ∧
      objectsKept s u [] ∧ partsKept (s.tickTo t) u [.ports, .net]) ∧
  (∀ (s : State) (t h : Nat), s.fieldOn → h < 64 → h < s.nHeads → s.portState h = 1 → (s.port h).due = false →
    6 ≤ s.nat (Obj.PortStatus.stage h) → s.role < 2 → (s.port h).stageAt + 10 ^ 6 ≤ max s.now t →
    ∃ u, exec (.bringUpStageTimeout t h) s = .next u ∧ u.portState h = 3 ∧ (u.port h).downAt = some (max s.now t) ∧
      (if inUse s.dict h then raised u Ev.pierLinkDown else raised u Ev.noCarrier)) ∧
  (∀ (s : State) (t h d : Nat), s.fieldOn → h < 64 → s.portState h = 3 → (s.port h).downAt = some d →
    d + 10 ^ 7 * s.nat (Obj.PierConfig.retryInterval (h / 4)) ≤ max s.now t →
    ∃ u, exec (.retryInterval t h) s = .next u ∧ (u.port h).due = true ∧ (u.port h).fallback = false ∧ (u.port h).fails = 0 ∧
      objectsKept s u [] ∧ partsKept (s.tickTo t) u [.ports, .net])

/-- The STAT blocks of bring-up and of loss (R181, R189, R191-R193): IDENTITY parts are collected, and the fourth gives the carrier's identity and
either stage 7 or, where the nozzle count differs from the head record's, HeadMismatch; OWNER in step 8 sends the claim of the next epoch while SOLO,
then makes the port UP or NOT_OWNER by the owner reported; LINK in bring-up notes lock and alignment, and on an UP port that has lost lock takes it
DOWN with PierLinkLoss. -/
def Obligations.StatBlocksDriveBringUp : Prop :=
  (∀ (s : State) (t h : Nat) (w : Block), s.fieldOn → h < 64 → h < s.nHeads → isStat 2 w = true → s.portState h = 1 →
    s.nat (Obj.PortStatus.stage h) = 6 → bits w.toNat 19 16 < 4 →
    let l := (s.port h).ident.filter (fun x => x.1 != bits w.toNat 19 16) ++ [(bits w.toNat 19 16, bits w.toNat 51 20)]
    let part : Nat → Nat := fun n => ((l.find? (fun p => p.1 == n)).map (·.2)).getD 0
    ∃ u, exec (.identityStat t h w) s = .next u ∧
      (l.length ≠ 4 → (u.port h).ident = l ∧ objectsKept s u [] ∧ partsKept (s.tickTo t) u [.ports, .heads, .net] ∧
        (bit w.toNat 14 = false → u.heads = s.heads)) ∧
      (l.length = 4 → u.nat (Obj.PortStatus.carrierId h) = part 0 + 2 ^ 32 * part 1 ∧
        u.nat (Obj.PortStatus.carrierNozzles h) = part 2 / 65536 ∧ u.nat (Obj.PortStatus.carrierFirmware h) = part 3 ∧
        (inUse s.dict h = true → nozzles s.dict h ≠ part 2 / 65536 → u.portState h = 5 ∧ raised u Ev.headMismatch) ∧
        ((inUse s.dict h = false ∨ nozzles s.dict h = part 2 / 65536) → u.portState h = 1 ∧ u.nat (Obj.PortStatus.stage h) = 7))) ∧
  (∀ (s : State) (t h : Nat) (w : Block), s.fieldOn → h < 64 → h < s.nHeads → isStat 3 w = true → s.portState h = 1 →
    s.nat (Obj.PortStatus.stage h) = 7 → (s.port h).due = false → s.role = 0 →
    let epoch := bits w.toNat 47 16
    let owner := bits w.toNat 49 48
    ∃ u, exec (.ownerStat t h w) s = .next u ∧ u.nat (Obj.PortStatus.carrierEpoch h) = epoch ∧
      u.nat (Obj.PortStatus.owner h) = owner ∧
      ((s.port h).claim = none → epoch < 0xFFFFFFFF → (u.port h).claim = some (epoch + 1) ∧
        ∃ at_, Emit.pier h at_ [ownBlock (epoch + 1)] ∈ u.out) ∧
      ((s.port h).claim.isSome = true → owner = 1 → u.portState h = 2 ∧ u.nat (Obj.PortStatus.stage h) = 8) ∧
      ((s.port h).claim.isSome = true → owner ≠ 1 → u.portState h = 4)) ∧
  (∀ (s : State) (t h : Nat) (w : Block), s.fieldOn → h < 64 → h < s.nHeads → isStat 4 w = true → s.role ≠ 1 →
    ∃ u, exec (.linkStat t h w) s = .next u ∧
      (s.portState h = 1 → (u.port h).rxLock = bit w.toNat 16 ∧ (u.port h).aligned = bit w.toNat 18 ∧
        u.nat (Obj.PortStatus.carrierRxErrors h) = bits w.toNat 31 24) ∧
      (s.portState h = 2 → bit w.toNat 16 = false → u.portState h = 3 ∧ raised u Ev.pierLinkLoss))

/-- Losses, markers and discarded blocks (R175, R186, R193): below the LOS threshold, without lock, or without a LINE STAT for 100 µs, an UP port
enters DOWN with PierLinkLoss, the loss is counted under its cause, the thermal state is NoData and a new attempt is due; a MARK goes out with the
next MarkSeq, 16,384 blocks after the last slot; a bad control block is counted, the first in a second with an event, and acts on nothing else. -/
def Obligations.PierLossesTakeThePortDown : Prop :=
  (∀ (s : State) (t h : Nat), s.fieldOn → h < 64 → s.portState h = 2 → s.role ≠ 1 →
    let down := fun (key : Nat) (u : State) => u.portState h = 3 ∧ u.nat key = (s.nat key + 1) % 2 ^ 32 ∧ raised u Ev.pierLinkLoss ∧
      u.nat (Obj.HeadThermal.state h) = 3 ∧ (u.port h).due = true
    (∃ u, exec (.lossOfSignal t h) s = .next u ∧ down (Obj.PortStatus.losCount h) u) ∧
    (∃ u, exec (.lossOfLock t h) s = .next u ∧ down (Obj.PortStatus.lolCount h) u) ∧
    ((s.port h).statAt + 10 ^ 6 ≤ max s.now t →
      ∃ u, exec (.statTimeout t h) s = .next u ∧ down (Obj.PortStatus.statTimeouts h) u)) ∧
  (∀ (s : State) (t h : Nat), s.fieldOn → h < 64 → h < s.nHeads → s.portState h ≠ 0 → s.portState h ≠ 6 →
    (s.port h).markAt + s.markPeriod h ≤ max s.now t →
    ∃ u, exec (.markDue t h) s = .next u ∧ (u.port h).markSeq = ((s.port h).markSeq + 1) % 2 ^ 24 ∧
      Emit.pier h ((s.tickTo t).htxFree h) [markBlock (s.laneOf h).1 (s.laneOf h).2 (((s.port h).markSeq + 1) % 2 ^ 24)] ∈ u.out ∧
      objectsKept s u [] ∧ partsKept (s.tickTo t) u [.ports, .net]) ∧
  (∀ (s : State) (t h : Nat) (w : Block), s.fieldOn → h < 64 → h < s.nHeads → s.portState h ≠ 0 → s.portState h ≠ 6 → blockOk w = false →
    ∃ u, exec (.controlBlockDiscard t h w) s = .next u ∧
      u.nat (Obj.PortStatus.controlCheckErrors h) = (s.nat (Obj.PortStatus.controlCheckErrors h) + 1) % 2 ^ 32 ∧
      ((s.port h).checkAt = none → raised u Ev.controlCheckError) ∧
      objectsKept s u [Obj.PortStatus.controlCheckErrors h] ∧ partsKept (s.tickTo t) u [.ports, .flt, .net])

/-- Service and reset of a pier (R196, R437): a write of Reset to an idle or gated pier in service takes its present ports DOWN with an attempt due,
to a busy one whose gate is open waits for idle; Service 1 takes its ports out of service; Service 0 lets bring-up begin from OFF. -/
def Obligations.PiersResetAndServe : Prop :=
  (∀ (s : State) (t p : Nat) (a : Caller) (v : Bytes) (x : Val), p < 16 → s.accepts a (Obj.PierConfig.reset p) v x →
    s.nat (Obj.PierConfig.service p) = 0 →
    ∃ u, exec (.pierReset t a p v) s = .next u ∧ answered u a.sess 0 ∧
      ((s.tickTo t).pierBusy p = false ∨ bit (s.nat Obj.FieldGates.enable) p = false → ∀ h < s.nHeads, h / 4 = p → u.portState h = 3 ∧ (u.port h).due = true) ∧
      ((s.tickTo t).pierBusy p = true → bit (s.nat Obj.FieldGates.enable) p = true → u.waits .pier p = true ∧
        objectsKeptFor a.sess s u [] ∧ partsKept (s.tickTo t) u [.rst, .net, .dux])) ∧
  (∀ (s : State) (t p : Nat) (a : Caller) (v : Bytes), p < 16 → s.accepts a (Obj.PierConfig.service p) v (.num 1) →
    s.num (Obj.PierConfig.service p) = 0 →
    ∃ u, exec (.pierOutOfService t a p v) s = .next u ∧ answered u a.sess 0 ∧ u.num (Obj.PierConfig.service p) = 1 ∧
      (∀ h < s.nHeads, h / 4 = p → u.portState h = 6 ∧ (u.port h).due = false)) ∧
  (∀ (s : State) (t p : Nat) (a : Caller) (v : Bytes), p < 16 → s.accepts a (Obj.PierConfig.service p) v (.num 0) →
    s.num (Obj.PierConfig.service p) = 1 →
    ∃ u, exec (.pierInService t a p v) s = .next u ∧ answered u a.sess 0 ∧ u.num (Obj.PierConfig.service p) = 0 ∧
      (∀ h < s.nHeads, h / 4 = p → u.portState h = 0 ∧ (u.port h).due = true ∧ (u.port h).fallback = false))

/-- Frames of a head (R176-R178, R187, R203, R204, R211): once the holdoff has passed, the frame window of the next line opens; a line whose codes are
staged, which nothing withholds, on a link that is free and with time to finish by the deadline goes out as LSTART, its payload blocks and LEND,
counted in `FramesSent`; a committed line whose frame is not complete by t_s − tSETUP ends with LABORT, sets `LateData` and resolves as BLANK_LATE,
which the record shows at once where no earlier line is in flight (R207). -/
def Obligations.FramesGoOutOrAreLate : Prop :=
  (∀ (s : State) (t h : Nat) (f : FireLine), s.fieldOn → s.nextLine h = some f → f.frame = .closed →
    (∀ r, (s.head h).resolved = some r → r + s.holdoff h ≤ max s.now t) →
    ∃ u, exec (.frameWindowOpen t h) s = .next u ∧ (∀ g ∈ (u.head h).lines, g.line = f.line → g.frame = .window) ∧
      (u.head h).record = (s.head h).record ∧ objectsKept s u [] ∧ partsKept (s.tickTo t) u [.heads, .net]) ∧
  (∀ (s : State) (t h : Nat) (f : FireLine), s.fieldOn → h < 64 → (s.tickTo t).ready h = some f → s.owner = true →
    (s.tickTo t).linkBusy h = false → (s.tickTo t).behind h f = false →
    let codes := f.codes.getD []
    let w := s.nat (Obj.PlaneConfig.dropBits (s.planeOf h))
    let payload := if codes.all (· == 0) then [] else packCodes w (codesPerWord w) (payloadCount s.dict h) codes
    let start := lstart f.line w (h % 4) (codes.all (· == 0)) (s.energy h)
    let blocks := if codes.all (· == 0) then 2 else 2 + cdiv (payloadCount s.dict h) (s.laneOf h).2
    (∀ ts, (s.tickTo t).strobeDue h f = some ts →
      (s.tickTo t).htxFree h + blocks * blockTime (linkRate s.dict h) + 10 * s.nat Obj.FiringTiming.strobeSetup ≤ ts) →
    ∃ u, exec (.frameSend t h) s = .next u ∧
      Emit.pier h ((s.tickTo t).htxFree h) (laneBlocks start (lend start payload) payload (s.laneOf h).1 (s.laneOf h).2) ∈ u.out ∧
      u.nat (Obj.PortStatus.framesSent h) = (s.nat (Obj.PortStatus.framesSent h) + 1) % 2 ^ 64 ∧
      (∀ g ∈ (u.head h).lines, g.line = f.line → g.frame = .sent ∧ g.energy = s.energy h) ∧
      objectsKept s u [Obj.PortStatus.framesSent h] ∧ partsKept (s.tickTo t) u [.heads, .net]) ∧
  (∀ (s : State) (t h : Nat) (f : FireLine), s.fieldOn → h < 64 → s.findLine h (fun f => f.st == .committed) = some f →
    f.ts - 10 * s.nat Obj.FiringTiming.strobeSetup ≤ max s.now t →
    (f.frame = .sent → f.ts - 10 * s.nat Obj.FiringTiming.strobeSetup < f.frameEnd) →
    ∃ u, exec (.frameDeadline t h) s = .next u ∧ (∃ at_, Emit.pier h at_ [labort f.line 0] ∈ u.out) ∧
      u.flag (Obj.HeadFiring.lateData h) = true ∧ (∀ g ∈ (u.head h).lines, g.line ≠ f.line) ∧
      ((s.head h).held = [] → (∀ g ∈ (s.head h).lines, g.st ≠ .strobed → bit g.flags 4 = false → f.line ≤ g.line) →
        u.nat (Obj.HeadFiring.lastOutcome h) = 3 ∧ u.num (Obj.HeadFiring.lastLine h) = f.line))

/-- Strobes and their confirmation (R197, R199, R203, R205, R208, R216): a line whose prediction lies within `CommitLead` and which no cause withholds
is committed at its prediction, or `CommitLead` from now and Deferred; one that a cause withholds resolves with that cause, which the record shows at
once where no earlier line is in flight (R207); at t_s HSTBh rises for a line whose frame is complete and falls after `StrobeWidth`; 4 µs after a
strobe an unconfirmed entry becomes REJECTED, BLANK_THERMAL, the at-risk outcome or FIRED_UNCONFIRMED, and a cut-off that only a STAT of another kind
showed puts the head into Hard. -/
def Obligations.StrobesCommitFireAndConfirm : Prop :=
  (∀ (s : State) (t h p : Nat) (f : FireLine), s.fieldOn → h < 64 → s.findLine h (fun f => f.st == .waiting) = some f → s.owner = true →
    (s.tickTo t).predict (s.planeOf h) f.target = some p →
    p ≤ max s.now t + 10 * s.nat Obj.FiringTiming.commitLead →
    let ts := max s.now t + 10 * s.nat Obj.FiringTiming.commitLead
    ∃ u, exec (.strobeCommit t h) s = .next u ∧
      ((s.tickTo t).cause h f ts = none → (∀ g ∈ (u.head h).lines, g.line = f.line → g.st = .committed ∧ g.ts = ts) ∧
        (p < ts → raised u Ev.strobeDeferred) ∧ objectsKept s u []) ∧
      (∀ o, (s.tickTo t).cause h f ts = some o → (∀ g ∈ (u.head h).lines, g.line ≠ f.line) ∧
        ((s.head h).held = [] → (∀ g ∈ (s.head h).lines, g.st ≠ .strobed → bit g.flags 4 = false → f.line ≤ g.line) →
          u.nat (Obj.HeadFiring.lastOutcome h) = o ∧ u.num (Obj.HeadFiring.lastLine h) = f.line))) ∧
  (∀ (s : State) (t h p o : Nat) (f : FireLine), s.fieldOn → h < 64 → s.findLine h (fun f => f.st == .waiting) = some f → s.owner = true →
    (s.tickTo t).withheld h f = true → (s.tickTo t).predict (s.planeOf h) f.target = some p →
    p ≤ max s.now t + 10 * s.nat Obj.FiringTiming.commitLead → (s.tickTo t).cause h f p = some o →
    ∃ u, exec (.lineWithheldResolved t h) s = .next u ∧ (∀ g ∈ (u.head h).lines, g.line ≠ f.line) ∧
      (u.head h).resolved = some (max s.now t) ∧
      ((s.head h).held = [] → (∀ g ∈ (s.head h).lines, g.st ≠ .strobed → bit g.flags 4 = false → f.line ≤ g.line) →
        u.nat (Obj.HeadFiring.lastOutcome h) = o ∧ u.num (Obj.HeadFiring.lastLine h) = f.line)) ∧
  (∀ (s : State) (t h : Nat) (f : FireLine), s.fieldOn → s.findLine h (fun f => f.st == .committed) = some f → f.ts ≤ max s.now t →
    f.frame = .sent → f.frameEnd ≤ f.ts - 10 * s.nat Obj.FiringTiming.strobeSetup →
    ∃ u, exec (.strobe t h) s = .next u ∧ Emit.pin (.hstb h) true ∈ u.out ∧ (u.head h).hstb = true ∧ (u.head h).hstbAt = max s.now t ∧
      (∀ g ∈ (u.head h).lines, g.line = f.line → g.st = .strobed ∧ g.stamp = (s.tickTo t).stamp .field)) ∧
  (∀ (s : State) (t h : Nat), s.fieldOn → (s.head h).hstb = true →
    (s.head h).hstbAt + 10 * s.nat Obj.FiringTiming.strobeWidth ≤ max s.now t →
    ∃ u, exec (.strobeEnd t h) s = .next u ∧ Emit.pin (.hstb h) false ∈ u.out ∧ (u.head h).hstb = false ∧
      (u.head h).lines = (s.head h).lines ∧ objectsKept s u [] ∧ partsKept (s.tickTo t) u [.heads, .net]) ∧
  (∀ (s : State) (t h : Nat) (f : FireLine), s.fieldOn → h < 64 →
    s.findLine h (fun f => f.st == .strobed && decide (f.ts + 40000 ≤ max s.now t)) = some f →
    let hardNow := f.sawStat = true ∧ f.sawHard = true ∧ f.cut = true ∧ s.nat (Obj.HeadThermal.state h) < 2
    ∃ u, exec (.confirmationWindowEnd t h) s = .next u ∧ (∀ g ∈ (u.head h).lines, g.line ≠ f.line) ∧
      (¬hardNow → u.num (Obj.HeadFiring.lastLine h) = f.line ∧ u.nat (Obj.HeadFiring.lastOutcome h) =
        (if f.sawStat then (if f.sawHard then 4 else 9) else if f.atRisk then 1 else 12)) ∧
      (hardNow → u.nat (Obj.HeadThermal.state h) = 2 ∧ raised u Ev.headHard))

/-- A LINE STAT on an UP port that names this part as owner (R208, R213): the raw temperature, the temperature with the head's offset, limited to its
14 bits, and, where no cut-off seen earlier has put the head into Hard, the thermal state that follows; where the thermal state stays, the one strobed
line in its window whose low 24 bits it names is FIRED. -/
def Obligations.LineStatsConfirmAndWarm : Prop :=
  ∀ (s : State) (t h : Nat) (w : Block), s.fieldOn → h < 64 → h < s.nHeads → isStat 0 w = true → s.portState h = 2 →
    bits w.toNat 55 54 = 1 →
    let T := (clamp (bits w.toNat 53 40 + s.num (Obj.HeadCal.tempOffset h)) 0 16383).toNat
    let old := s.nat (Obj.HeadThermal.state h)
    let now := nextThermal old T (s.nat (Obj.HeadThermal.tsoft h)) (s.nat (Obj.HeadThermal.thard h)) (bit w.toNat 13) (bit w.toNat 14)
    ∃ u, exec (.lineStat t h w) s = .next u ∧ u.nat (Obj.HeadCal.tempRaw h) = bits w.toNat 53 40 ∧
      u.nat (Obj.HeadThermal.temperature h) = T ∧
      ((∀ f ∈ (s.head h).lines, f.cut = true → 2 ≤ old) → u.nat (Obj.HeadThermal.state h) = now) ∧
      (∀ f, now = old → (s.head h).lines.filter (fun f => f.st == .strobed && decide (f.ts ≤ max s.now t ∧ max s.now t < f.ts + 40000)) = [f] →
        low 24 f.line = bits w.toNat 39 16 → f.atRisk = false →
        u.num (Obj.HeadFiring.lastLine h) = f.line ∧ u.nat (Obj.HeadFiring.lastOutcome h) = 0)

/-- Measurements of a head (R180, R219-R222, R459): when the head may measure, a MEASURE goes out for a value that waits for its confirmation, else
for a temperature-offset run, else for the next chunk of a sweep; each value is stored in `ResistanceMap` and the sweep moves on; an Aborted MEASURE
STAT ends the chunk; a sweep starts at nozzle 0 when its interval has passed or its carrier is new, and by SweepNow, which a sweep in progress
absorbs. -/
def Obligations.MeasurementsSweepHeads : Prop :=
  (∀ (s : State) (t h : Nat), s.fieldOn → (s.meas_ h).confirm = [] → (s.meas_ h).offset = false → (s.meas_ h).sweeping = true →
    (s.meas_ h).next < nozzles s.dict h →
    let n := min (s.nat (Obj.HeadHealth.measureChunk h)) (nozzles s.dict h - (s.meas_ h).next)
    (s.tickTo t).mayMeasure h n = true →
    ∃ u, exec (.measureChunkStart t h) s = .next u ∧ (u.meas_ h).chunk = some ((s.meas_ h).next, n, 0, false) ∧ (u.meas_ h).got = 0 ∧
      (∃ at_, Emit.pier h at_ [measureBlock (s.meas_ h).next n 0] ∈ u.out) ∧ objectsKept s u [] ∧
      (∀ p, { u.port p with waits := ((s.tickTo t).port p).waits } = (s.tickTo t).port p) ∧ partsKept (s.tickTo t) u [.meas, .ports, .net]) ∧
  (∀ (s : State) (t h first kind : Nat) (conf : Bool), s.fieldOn → (s.tickTo t).mayMeasure h 1 = true →
    ((s.meas_ h).confirm.head?.map (fun c => c.1) = some first ∧ kind = 0 ∧ conf = true ∨
      (s.meas_ h).confirm = [] ∧ (s.meas_ h).offset = true ∧ s.calFirst 4 h = true ∧ first = 0 ∧ kind = 1 ∧ conf = false) →
    ∃ u, exec (.measureChunkStart t h) s = .next u ∧ (u.meas_ h).chunk = some (first, 1, kind, conf) ∧
      (∃ at_, Emit.pier h at_ [measureBlock first 1 kind] ∈ u.out) ∧ objectsKept s u [] ∧
      (∀ p, { u.port p with waits := ((s.tickTo t).port p).waits } = (s.tickTo t).port p) ∧ partsKept (s.tickTo t) u [.meas, .ports, .net]) ∧
  (∀ (s : State) (t h first count : Nat) (w : Block), s.fieldOn → h < 64 → h < s.nHeads → s.portState h ≠ 0 → s.portState h ≠ 6 →
    isStat 1 w = true → (s.meas_ h).chunk = some (first, count, 0, false) →
    ∃ u, exec (.measureStat t h w) s = .next u ∧
      (bit w.toNat 46 = true → (u.meas_ h).chunk = none) ∧
      (bit w.toNat 46 = false → first ≤ bits w.toNat 31 16 → bits w.toNat 31 16 < first + count →
        bits w.toNat 31 16 < nozzles s.dict h →
        u.nat (Obj.HeadHealth.sweepProgress h) = bits w.toNat 31 16 + 1 ∧ u.resAt h (bits w.toNat 31 16) = bits w.toNat 45 32)) ∧
  (∀ (s : State) (t h : Nat), s.fieldOn → h < 64 → h < s.nHeads → 0 < nozzles s.dict h → (s.meas_ h).sweeping = false →
    ((s.meas_ h).due = true ∨ 0 < s.nat (Obj.HeadHealth.sweepInterval h) ∧
      (s.meas_ h).doneAt + 10 ^ 9 * s.num (Obj.HeadHealth.sweepInterval h) ≤ (s.tickTo t).tim.slave.ns) →
    ∃ u, exec (.sweepStart t h) s = .next u ∧ (u.meas_ h).sweeping = true ∧ (u.meas_ h).next = 0 ∧ (u.meas_ h).due = false ∧
      u.num (Obj.HeadHealth.sweepProgress h) = 0 ∧ objectsKept s u [Obj.HeadHealth.sweepProgress h] ∧
      partsKept (s.tickTo t) u [.meas, .net]) ∧
  (∀ (s : State) (t h : Nat) (a : Caller) (v : Bytes) (x : Val), h < 64 → s.accepts a (Obj.HeadHealth.sweepNow h) v x →
    ∃ u, exec (.sweepNow t a h v) s = .next u ∧ (u.meas_ h).sweeping = true ∧ answered u a.sess 0 ∧
      ((s.meas_ h).sweeping = false → (u.meas_ h).next = 0 ∧ u.num (Obj.HeadHealth.sweepProgress h) = 0) ∧
      ((s.meas_ h).sweeping = true → u.meas = s.meas) ∧ objectsKeptFor a.sess s u [Obj.HeadHealth.sweepProgress h] ∧
      partsKept (s.tickTo t) u [.meas, .net, .dux])

/-- The defect table (R227, R232, R233): after `ProbeHoldoff` an applied entry with a value in limits since is to enter probe in the next control
cycle; a pending entry without a valid window for `PendingTimeout` leaves; Confirm applies a proposed entry and is refused with 0x0301_0004 for a
channel that has none; DefectRemove takes a channel's entry out, of the table or of the overflow queue; DefectWrite applies its manual entries at
once; a bad record, or a full table, refuses the whole write. -/
def Obligations.DefectEntriesFollowTheRules : Prop :=
  (∀ (s : State) (t n : Nat) (e : Defect), s.fieldOn → s.defect n = some e → e.applied = true → e.probe = false → e.source ≤ 1 →
    e.okSince = true → s.nat Obj.HealthControl.mode = 0 → s.covered n = true →
    e.appliedAt + 10 ^ 9 * s.num Obj.HealthControl.probeHoldoff ≤ (s.tickTo t).tim.slave.ns →
    ∃ u, exec (.probeHoldoff t n) s = .next u ∧
      n ∈ u.health.probes ∧ u.health.table = s.health.table ∧ objectsKept s u [] ∧ partsKept (s.tickTo t) u [.health, .net]) ∧
  (∀ (s : State) (t n : Nat) (e : Defect), s.fieldOn → s.defect n = some e → e.applied = false → e.proposed = false → s.health.queue = [] →
    e.validAt + 10 ^ 9 * s.num Obj.HealthControl.pendingTimeout ≤ (s.tickTo t).tim.slave.ns →
    ∃ u, exec (.pendingTimeout t n) s = .next u ∧ u.health.table = s.health.table.filter (fun e => e.chan != n)) ∧
  (∀ (s : State) (t n : Nat) (a : Caller) (v : Bytes) (e : Defect), s.accepts a Obj.DefectEdit.confirm v (.num n) → n < s.pool →
    s.defect n = some e → e.proposed = true →
    ∃ u, exec (.defectConfirm t a v) s = .next u ∧ answered u a.sess 0 ∧ raised u Ev.defectApplied ∧
      (∃ e', u.defect n = some e' ∧ e'.applied = true ∧ e'.proposed = false ∧ e'.kind = e.kind)) ∧
  (∀ (s : State) (t n : Nat) (a : Caller) (v : Bytes), s.accepts a Obj.DefectEdit.confirm v (.num n) → n < s.pool → s.defect n = none →
    ∃ u, exec (.defectConfirm t a v) s = .next u ∧ answered u a.sess 0x03010004 ∧ objectsKeptFor a.sess s u [] ∧
      partsKept (s.tickTo t) u [.net]) ∧
  (∀ (s : State) (t n : Nat) (a : Caller) (v : Bytes), s.accepts a Obj.DefectEdit.defectRemove v (.num n) → n < s.pool →
    (s.defect n).isSome = true → s.health.queue = [] →
    ∃ u, exec (.defectRemove t a v) s = .next u ∧ answered u a.sess 0 ∧
      u.health.table = s.health.table.filter (fun e => e.chan != n)) ∧
  (∀ (s : State) (t n : Nat) (a : Caller) (v : Bytes), s.accepts a Obj.DefectEdit.defectRemove v (.num n) → n < s.pool →
    s.defect n = none → (∃ e ∈ s.health.queue, e.chan = n) →
    ∃ u, exec (.defectRemove t a v) s = .next u ∧ answered u a.sess 0 ∧ u.health.table = s.health.table ∧
      u.health.queue = s.health.queue.filter (fun e => e.chan != n)) ∧
  (∀ (s : State) (t : Nat) (a : Caller) (v b : Bytes), s.accepts a Obj.DefectEdit.defectWrite v (.bytes b) → b.length % 16 = 0 →
    16 ≤ b.length → b.length ≤ 4096 →
    let l := splitRecs (b.length / 16) b
    (∀ r ∈ l, ((s.tickTo t).parseDefect r).isSome = true) → s.health.table.length < 4096 → s.health.table.length + l.length ≤ 4096 →
    ∃ u, exec (.defectWrite t a v) s = .next u ∧ answered u a.sess 0 ∧ raised u Ev.defectApplied ∧
      (∀ r ∈ l, ∃ e', u.defect (fld r 0 4) = some e' ∧ e'.applied = true ∧ e'.kind = 6 ∧
        ((l.map (fun r => fld r 0 4)).Nodup → e'.manual = bits (fld r 7 1) 5 4))) ∧
  (∀ (s : State) (t : Nat) (a : Caller) (v b : Bytes), s.accepts a Obj.DefectEdit.defectWrite v (.bytes b) → b.length % 16 = 0 →
    16 ≤ b.length → b.length ≤ 4096 → (∀ r ∈ splitRecs (b.length / 16) b, ((s.tickTo t).parseDefect r).isSome = true) →
    4096 ≤ s.health.table.length →
    ∃ u, exec (.defectWrite t a v) s = .next u ∧ answered u a.sess 0x06010003 ∧ objectsKeptFor a.sess s u [] ∧
      partsKept (s.tickTo t) u [.net]) ∧
  (∀ (s : State) (t : Nat) (a : Caller) (v b : Bytes), s.accepts a Obj.DefectEdit.defectWrite v (.bytes b) →
    (∃ r ∈ splitRecs (b.length / 16) b, (s.tickTo t).parseDefect r = none) →
    ∃ u, exec (.defectWrite t a v) s = .next u ∧ answered u a.sess 0x02010001 ∧ objectsKeptFor a.sess s u [] ∧
      partsKept (s.tickTo t) u [.net])

/-- Camera triggers (R241, R242): a due trigger of an enabled camera, with `TrigWidth` since the end of the last pulse, drives CAMc_TRIG active and
creates an expectation at its stamp; one that comes before twice `TrigWidth` from the start of an active pulse is delayed and counted; the pulse ends
after `TrigWidth`; an expectation that reaches tp + `WindowMax` is counted as missed and reported. -/
def Obligations.TriggersPulseAndExpire : Prop :=
  (∀ (s : State) (t c : Nat) (g : Trigger), s.fieldOn → c < 4 → s.flag (Obj.CameraPort.enable c) = true →
    s.sched.trigs.find? (fun g => g.camera == c && (match g.due with | some d => decide (d ≤ max s.now t) | none => false)) = some g →
    (s.cam c).pulse = none → (∀ b, (s.cam c).pulseEnd = some b → b + 10 * s.nat (Obj.TriggerConfig.trigWidth c) ≤ max s.now t) →
    ∃ u, exec (.cameraTriggerPulse t c) s = .next u ∧ u.sched = { s.sched with trigs := dropFirst g s.sched.trigs } ∧
      Emit.pin (.trig c) (!s.flag (Obj.TriggerConfig.trigPolarity c)) ∈ u.out ∧ (u.cam c).pulse = some (max s.now t) ∧
      (∃ e, (u.cam c).expects = (s.cam c).expects ++ [e] ∧ e.tp = (s.tickTo t).tim.slave.ns ∧ e.key = g.key ∧
        e.pos = s.num Obj.ScheduleControl.schedulePosition ∧ e.delayed = g.delayed ∧ e.late = g.late) ∧
      objectsKept s u [] ∧ partsKept (s.tickTo t) u [.sched, .cams, .net]) ∧
  (∀ (s : State) (t c b : Nat) (g : Trigger), s.fieldOn → c < 4 → s.flag (Obj.CameraPort.enable c) = true →
    s.sched.trigs.find? (fun g => g.camera == c && (match g.due with | some d => decide (d ≤ max s.now t) | none => false)) = some g →
    (s.cam c).pulse = some b → max s.now t < b + 2 * (10 * s.nat (Obj.TriggerConfig.trigWidth c)) → g.spaced = false →
    ∃ u, exec (.cameraTriggerPulse t c) s = .next u ∧
      u.nat (Obj.TriggerConfig.trigDelayed c) = (s.nat (Obj.TriggerConfig.trigDelayed c) + 1) % 2 ^ 32 ∧
      { g with due := some (b + 2 * (10 * s.nat (Obj.TriggerConfig.trigWidth c))), delayed := true, spaced := true } ∈ u.sched.trigs ∧
      objectsKept s u [Obj.TriggerConfig.trigDelayed c] ∧ partsKept (s.tickTo t) u [.sched, .net]) ∧
  (∀ (s : State) (t c b : Nat), s.fieldOn → (s.cam c).pulse = some b → b + 10 * s.nat (Obj.TriggerConfig.trigWidth c) ≤ max s.now t →
    ∃ u, exec (.triggerPulseEnd t c) s = .next u ∧ Emit.pin (.trig c) (s.flag (Obj.TriggerConfig.trigPolarity c)) ∈ u.out ∧
      u.cam c = { s.cam c with pulse := none, pulseEnd := some (b + 10 * s.nat (Obj.TriggerConfig.trigWidth c)) } ∧
      objectsKept s u [] ∧ partsKept (s.tickTo t) u [.cams, .net]) ∧
  (∀ (s : State) (t c : Nat), s.fieldOn → c < 4 →
    let late := fun (e : Expect) => decide (e.tp + 1000 * s.num (Obj.TriggerConfig.windowMax c) ≤ (s.tickTo t).tim.slave.ns)
    (∃ e ∈ (s.cam c).expects, late e = true) →
    ∃ u, exec (.triggerMissed t c) s = .next u ∧ raised u Ev.triggerMissed ∧
      (u.cam c).expects = (s.cam c).expects.filter (fun e => !late e) ∧
      u.nat (Obj.CameraStatus.triggersMissed c) =
        (s.nat (Obj.CameraStatus.triggersMissed c) + ((s.cam c).expects.filter late).length) % 2 ^ 32 ∧
      objectsKept s u [Obj.CameraStatus.triggersMissed c] ∧ partsKept (s.tickTo t) u [.cams, .flt, .net])

/-- Frames (R239, R240, R242, R243, R249-R251): a Frame Start on `ImageVc` of an enabled port is numbered and stamped, accepted with the first
expectation in whose window it falls, counted as untriggered without one; an image line is kept, or counted as invalid; a line beyond the frame's
height makes it long; a packet with an uncorrectable header, on another channel or of another type is discarded and counted; at its end, or
`FrameTimeout` after its last packet, a frame with missing lines is short and a through-memory frame waits with its metadata; FRAME_PROCESS finishes
the waiting frame that started first. -/
def Obligations.FramesAreMatchedAndStored : Prop :=
  (∀ (s : State) (t c fnum : Nat) (hdr : PacketHeader) (e : Expect), s.fieldOn → c < 4 → c < s.nCams → s.flag (Obj.CameraPort.enable c) = true →
    hdr.ecc ≤ 1 → hdr.vc = s.nat (Obj.CameraPort.imageVc c) → hdr.vcx = 0 → (s.cam c).frame = none → (s.cam c).ring.length < s.nat (Obj.CameraPort.ringFrames c) →
    let tf := (s.tickTo t).tim.slave.ns
    (s.cam c).expects.find? (fun e => decide (1000 * s.num (Obj.TriggerConfig.windowMin c) ≤ tf - e.tp ∧
      tf - e.tp ≤ 1000 * s.num (Obj.TriggerConfig.windowMax c))) = some e →
    ∃ u f, exec (.frameStart t c hdr fnum) s = .next u ∧ (u.cam c).frame = some f ∧
      f.num = (s.cam c).count ∧ f.accepted = true ∧ f.exp = some e ∧ f.start = tf ∧ f.field = fnum % 65536 ∧ f.rows = [] ∧
      (u.cam c).expects = dropFirst e (s.cam c).expects ∧ (u.cam c).count = ((s.cam c).count + 1) % 2 ^ 32 ∧
      u.nat (Obj.CameraStatus.frameNumber c) = (s.cam c).count ∧ u.nat (Obj.CameraPort.state c) = 2 ∧
      u.nat (Obj.CameraStatus.framesAccepted c) = (s.nat (Obj.CameraStatus.framesAccepted c) + 1) % 2 ^ 64 ∧
      (hdr.ecc = 1 → u.nat (Obj.CameraStatus.eccCorrected c) = (s.nat (Obj.CameraStatus.eccCorrected c) + 1) % 2 ^ 32) ∧
      (hdr.ecc = 0 → u.nat (Obj.CameraStatus.eccCorrected c) = s.nat (Obj.CameraStatus.eccCorrected c)) ∧
      objectsKept s u ([Obj.CameraStatus.frameNumber c, Obj.CameraPort.state c, Obj.CameraStatus.framesAccepted c,
        Obj.CameraStatus.eccCorrected c] ++
        [4, 5, 6, 7].flatMap (fun v => [Obj.Capture.records v, Obj.Capture.lost v])) ∧
      partsKept (s.tickTo t) u [.cams, .tim, .net]) ∧
  (∀ (s : State) (t c fnum : Nat) (hdr : PacketHeader), s.fieldOn → c < 4 → c < s.nCams → s.flag (Obj.CameraPort.enable c) = true →
    hdr.ecc ≤ 1 → hdr.vc = s.nat (Obj.CameraPort.imageVc c) → hdr.vcx = 0 → (s.cam c).frame = none →
    let tf := (s.tickTo t).tim.slave.ns
    (∀ e ∈ (s.cam c).expects, ¬(1000 * s.num (Obj.TriggerConfig.windowMin c) ≤ tf - e.tp ∧
      tf - e.tp ≤ 1000 * s.num (Obj.TriggerConfig.windowMax c))) →
    ∃ u f, exec (.frameStart t c hdr fnum) s = .next u ∧ (u.cam c).frame = some f ∧ f.accepted = false ∧
      (u.cam c).expects = (s.cam c).expects ∧
      u.nat (Obj.CameraStatus.untriggered c) = (s.nat (Obj.CameraStatus.untriggered c) + 1) % 2 ^ 32) ∧
  (∀ (s : State) (t c : Nat) (hdr : PacketHeader) (data : Bytes) (crcOk : Bool) (f : Frame), s.fieldOn → c < 4 → c < s.nCams →
    s.flag (Obj.CameraPort.enable c) = true → hdr.ecc = 0 → hdr.vc = s.nat (Obj.CameraPort.imageVc c) → hdr.vcx = 0 →
    hdr.dt = s.nat (Obj.CameraPort.dataType c) → 3 < hdr.dt → (s.cam c).frame = some f → f.accepted = true →
    (f.rows.length < f.height →
      let good := hdr.wordCount == f.width * pixelBits hdr.dt / 8 && crcOk && data.length == hdr.wordCount
      ∃ u, exec (.imageLine t c hdr data crcOk) s = .next u ∧
        u.cam c = { s.cam c with packet := max s.now t,
                                 frame := some { f with rows := f.rows ++ [if good then some ((rawPixels hdr.dt data).map (unpack hdr.dt)) else none] } } ∧
        (good = false → u.nat (Obj.CameraStatus.invalidLines c) = (s.nat (Obj.CameraStatus.invalidLines c) + 1) % 2 ^ 32) ∧
        (good = true → objectsKept s u []) ∧ objectsKept s u [Obj.CameraStatus.invalidLines c] ∧
        partsKept (s.tickTo t) u [.cams, .net]) ∧
    (f.height ≤ f.rows.length → f.long = false →
      ∃ u, exec (.imageLine t c hdr data crcOk) s = .next u ∧ raised u Ev.longFrame ∧ (u.cam c).frame = some { f with long := true } ∧
        u.nat (Obj.CameraStatus.excessLines c) = (s.nat (Obj.CameraStatus.excessLines c) + 1) % 2 ^ 32 ∧
        u.nat (Obj.CameraStatus.longFrames c) = (s.nat (Obj.CameraStatus.longFrames c) + 1) % 2 ^ 32)) ∧
  (∀ (s : State) (t c : Nat) (hdr : PacketHeader), s.fieldOn → c < 4 → c < s.nCams → s.flag (Obj.CameraPort.enable c) = true →
    (2 ≤ hdr.ecc ∨ hdr.ecc = 0 ∧ (hdr.vc ≠ s.nat (Obj.CameraPort.imageVc c) ∨ hdr.vcx ≠ 0 ∨
      hdr.dt ≠ s.nat (Obj.CameraPort.dataType c) ∧ 3 < hdr.dt)) →
    ∃ u, exec (.packetDiscard t c hdr) s = .next u ∧
      u.nat (Obj.CameraStatus.packetsDiscarded c) = (s.nat (Obj.CameraStatus.packetsDiscarded c) + 1) % 2 ^ 32 ∧
      objectsKept s u [Obj.CameraStatus.packetsDiscarded c] ∧ partsKept (s.tickTo t) u [.net]) ∧
  (∀ (s : State) (t c : Nat) (f : Frame), s.fieldOn → c < 4 → (s.cam c).frame = some f → f.inLine = false → f.accepted = true →
    s.waits .camera c = false →
    let x := (s.cam c).settings f
    let ends := fun (u : State) => (u.cam c).frame = none ∧ u.nat (Obj.CameraPort.state c) = 1 ∧
      (u.cam c).ring = (if f.slot then (s.cam c).ring ++ [{ f with head := f.meta x.1 x.2.1 x.2.2 }] else (s.cam c).ring) ∧
      (f.rows.length < f.height → raised u Ev.shortFrame ∧
        u.nat (Obj.CameraStatus.shortFrames c) = (s.nat (Obj.CameraStatus.shortFrames c) + 1) % 2 ^ 32) ∧
      objectsKept s u [Obj.CameraPort.state c, Obj.CameraStatus.shortFrames c, Obj.CameraSelect.backlogFrames] ∧
      partsKept (s.tickTo t) u [.cams, .flt, .net]
    (∀ hdr : PacketHeader, c < s.nCams → s.flag (Obj.CameraPort.enable c) = true → hdr.ecc = 0 →
      hdr.vc = s.nat (Obj.CameraPort.imageVc c) → hdr.vcx = 0 → ∃ u, exec (.frameEnd t ⟨c, hdr⟩) s = .next u ∧ ends u) ∧
    ((s.cam c).packet + 10000 * s.nat (Obj.CameraPort.frameTimeout c) ≤ max s.now t →
      ∃ u, exec (.frameTimeout t c) s = .next u ∧ ends u)) ∧
  (∀ (s : State) (t : Nat) (f : Frame), s.fieldOn →
    ((List.range 4).flatMap (fun c => (s.cam c).ring.filter (fun f => !f.done && !f.inLine))).foldl
      (fun (m : Option Frame) f => match m with | none => some f | some g => if f.start < g.start then some f else some g) none = some f →
    ∃ u, exec (.frameProcess t) s = .next u ∧ ∀ g ∈ (u.cam f.cam).ring, g.num = f.num → g.start = f.start → g.done = true)

/-- Camera port control (R240, R259, R266, R422, R460): an accepted enable for which no DVFS transition must come first starts the port at frame 0,
and is refused with 0x0302_0002 where its cover overlaps that of another enabled camera; a disable and a reset end the frame in progress and the
expectations, a reset empties the ring and the generation queue besides; `InLineCamera` is stored where no transition must come first; a flat-field
run without its frames after 10 s is rejected by check 3. -/
def Obligations.CameraPortsStartAndStop : Prop :=
  (∀ (s : State) (t c : Nat) (a : Caller) (v : Bytes), c < 4 → s.accepts a (Obj.CameraPort.enable c) v (.num 1) →
    s.flag (Obj.CameraPort.enable c) = false → coversOk (overlay s.dict [(Obj.CameraPort.enable c, .num 1)]) = true →
    (s.pow.state = 2 ∨ max s.needNow.1 (s.cameraNeed s.inLine (s.inLine == c || s.flag (Obj.CameraPort.enable s.inLine))) ≤
      s.opFreq (s.nat Obj.Dvfs.opInForce)) →
    ∃ u, exec (.cameraEnable t a c v) s = .next u ∧ u.flag (Obj.CameraPort.enable c) = true ∧ u.nat (Obj.CameraPort.state c) = 1 ∧
      (u.cam c).count = 0 ∧ (u.cam c).frame = none ∧ (u.cam c).expects = [] ∧ answered u a.sess 0 ∧
      objectsKeptFor a.sess s u [Obj.CameraPort.enable c, Obj.CameraPort.state c, Obj.Dvfs.needMHz] ∧
      partsKept (s.tickTo t) u [.cams, .cal, .net, .dux]) ∧
  (∀ (s : State) (t c : Nat) (a : Caller) (v : Bytes), c < 4 → s.accepts a (Obj.CameraPort.enable c) v (.num 1) →
    s.flag (Obj.CameraPort.enable c) = false → coversOk (overlay s.dict [(Obj.CameraPort.enable c, .num 1)]) = false →
    ∃ u, exec (.cameraEnable t a c v) s = .next u ∧ answered u a.sess 0x03020002 ∧ objectsKeptFor a.sess s u [] ∧
      partsKept (s.tickTo t) u [.net]) ∧
  (∀ (s : State) (t c : Nat) (a : Caller) (v : Bytes), c < 4 → s.accepts a (Obj.CameraPort.enable c) v (.num 0) →
    ∃ u, exec (.cameraDisable t a c v) s = .next u ∧ u.flag (Obj.CameraPort.enable c) = false ∧ answered u a.sess 0 ∧
      (s.flag (Obj.CameraPort.enable c) = true → u.nat (Obj.CameraPort.state c) = 0 ∧ (u.cam c).frame = none ∧ (u.cam c).expects = [] ∧
        (u.cam c).ring = (s.cam c).ring ∧ Emit.pin (.trig c) (s.flag (Obj.TriggerConfig.trigPolarity c)) ∈ u.out) ∧
      ((∀ k < 4, (s.anaOf k).wins = []) → objectsKeptFor a.sess s u [Obj.CameraPort.enable c, Obj.CameraPort.state c, Obj.Dvfs.needMHz] ∧
        partsKept (s.tickTo t) u [.cams, .net, .dux])) ∧
  (∀ (s : State) (t c : Nat) (a : Caller) (v : Bytes) (x : Val), c < 4 → s.accepts a (Obj.CameraPort.reset c) v x →
    ((s.cam c).frame = none → ∃ u, exec (.cameraReset t a c v) s = .next u ∧ (u.cam c).ring = [] ∧ (u.cam c).queue = [] ∧
      (u.cam c).expects = [] ∧ u.flag (Obj.CameraPort.enable c) = s.flag (Obj.CameraPort.enable c) ∧ answered u a.sess 0) ∧
    ((s.cam c).frame.isSome = true → ∃ u, exec (.cameraReset t a c v) s = .next u ∧ u.waits .camera c = true ∧ answered u a.sess 0 ∧
      objectsKeptFor a.sess s u [] ∧ partsKept (s.tickTo t) u [.rst, .net, .dux])) ∧
  (∀ (s : State) (t c : Nat) (a : Caller) (v : Bytes), s.accepts a Obj.CameraSelect.inLineCamera v (.num c) →
    (s.pow.state = 2 ∨ max s.needNow.1 (s.cameraNeed c (s.flag (Obj.CameraPort.enable c))) ≤ s.opFreq (s.nat Obj.Dvfs.opInForce)) →
    ∃ u, exec (.inLineCamera t a v) s = .next u ∧ u.nat Obj.CameraSelect.inLineCamera = c ∧ answered u a.sess 0 ∧
      objectsKeptFor a.sess s u [Obj.CameraSelect.inLineCamera, Obj.Dvfs.needMHz] ∧ partsKept (s.tickTo t) u [.net, .dux]) ∧
  (∀ (s : State) (t c : Nat) (p : Nat × FlatRun), s.fieldOn → c < 4 → s.cal.flats.find? (fun p => p.1 == c) = some p →
    p.2.start + 10 ^ 11 ≤ max s.now t →
    ∃ u, exec (.flatFieldTimeout t c) s = .next u ∧ raised u Ev.calibrationRejected ∧
      u.cal.flats = s.cal.flats.filter (fun p => p.1 != c) ∧ u.nat (Obj.CalSubject.lastResult 5) = 1 ∧
      u.nat (Obj.CalSubject.lastInstance 5) = c ∧
      u.nat (Obj.CalSubject.rejections 5) = (s.nat (Obj.CalSubject.rejections 5) + 1) % 2 ^ 32 ∧
      u.byt (Obj.flatField c) = s.byt (Obj.flatField c) ∧ partsKept (s.tickTo t) u [.cal, .flt, .net])

/-- Settings generations (R246, R247): an accepted GenerationWrite queues its records under the next number, a full queue refuses with 0x0601_0004; a
record goes out on the camera's bus as its bytes; a bus error fails its generation with GenerationFailed, the last record of a generation makes it
`GenerationDone`. -/
def Obligations.GenerationsAreWrittenOrFail : Prop :=
  (∀ (s : State) (t c : Nat) (a : Caller) (v b : Bytes), c < 4 → s.accepts a (Obj.SensorControl.generationWrite c) v (.bytes b) →
    (chunks 8 128 b).all genRecordOk = true → (s.cam c).queue.length < 16 →
    let n := s.nat (Obj.SensorControl.generationQueued c) % 65535 + 1
    ∃ u, exec (.generationWrite t a c v) s = .next u ∧
      (u.cam c).queue = (s.cam c).queue ++ [{ num := n, first := none, done := none, failed := false, recs := chunks 8 128 b }] ∧
      u.nat (Obj.SensorControl.generationQueued c) = n ∧ answered u a.sess 0 ∧
      objectsKeptFor a.sess s u [Obj.SensorControl.generationQueued c] ∧ partsKept (s.tickTo t) u [.cams, .net, .dux]) ∧
  (∀ (s : State) (t c : Nat) (a : Caller) (v b : Bytes), c < 4 → s.accepts a (Obj.SensorControl.generationWrite c) v (.bytes b) →
    (chunks 8 128 b).all genRecordOk = true → 16 ≤ (s.cam c).queue.length →
    ∃ u, exec (.generationWrite t a c v) s = .next u ∧ answered u a.sess 0x06010004 ∧ objectsKeptFor a.sess s u [] ∧
      partsKept (s.tickTo t) u [.net]) ∧
  (∀ (s : State) (t c start : Nat) (bus : BusReport) (data r : Bytes) (rs : List Bytes) (g : Gen) (rest : List Gen), s.fieldOn → c < 4 →
    (s.cam c).queue = g :: rest → g.recs = r :: rs →
    (busError bus (s.nat (Obj.SensorControl.i2cTimeout c)) = true →
      ∃ u, exec (.generationRecord t c start bus data) s = .next u ∧ Emit.camera c 1 ((genWire r).take bus.sent) ∈ u.out ∧ raised u Ev.generationFailed ∧
      (u.cam c).queue = rest ∧ u.nat (Obj.SensorControl.generationFailed c) = g.num ∧
      objectsKept s u [Obj.SensorControl.generationFailed c] ∧ partsKept (s.tickTo t) u [.cams, .flt, .net]) ∧
    (busError bus (s.nat (Obj.SensorControl.i2cTimeout c)) = false →
      ∃ u, exec (.generationRecord t c start bus data) s = .next u ∧ Emit.camera c 1 (genWire r) ∈ u.out ∧
      (rs = [] → (u.cam c).queue = rest ∧ u.nat (Obj.SensorControl.generationDone c) = g.num) ∧
      (rs ≠ [] → ∃ g', (u.cam c).queue = g' :: rest ∧ g'.recs = rs ∧ g'.num = g.num) ∧
      objectsKept s u [Obj.SensorControl.generationDone c, Obj.SensorControl.readback c] ∧ partsKept (s.tickTo t) u [.cams, .net]))

/-- Inspection windows and planes (R274, R275, R284): the oldest window of an analysed plane that is open for an enabled camera, once the paper has
passed it, closes for that camera; with the last of the enabled cameras it gives one report to nozzle health that names its plane and lines; a
`PlaneMask` that starts no analysis is stored and stops the analysis of the planes it leaves out; a plane it starts is analysed where its render
extension has room, and the write is refused with 0x0601_0005 where it has none. -/
def Obligations.InspectionWindowsClose : Prop :=
  (∀ (s : State) (t k c : Nat) (w : Win), s.fieldOn → k < 4 → c < 4 → bit (s.nat Obj.AnalysisControl.renderActive) k = true →
    s.flag (Obj.CameraPort.enable c) = true → (s.anaOf k).wins.find? (fun w => !w.closed.contains c) = some w →
    (s.tickTo t).windowPassed k c w = true →
    let w' := { w with closed := w.closed ++ [c] }
    ∃ u, exec (.windowClose t k c) s = .next u ∧
      (s.allClosed w' = true → ∃ r, u.health.reports = s.health.reports ++ [r] ∧ r.plane = k ∧ r.camera = c ∧
        r.first = w.first ∧ r.last = w.first + w.lines - 1) ∧
      (s.allClosed w' = false → (u.anaOf k).wins = (s.anaOf k).wins.map (fun x => if x.idx = w.idx then w' else x) ∧
        objectsKept s u [] ∧ partsKept (s.tickTo t) u [.ana, .net])) ∧
  (∀ (s : State) (t m : Nat) (a : Caller) (v : Bytes), s.accepts a Obj.AnalysisControl.planeMask v (.num m) →
    (∀ k < 4, bit m k = true → s.flag (Obj.PlaneConfig.enable k) = true → bit (s.nat Obj.AnalysisControl.renderActive) k = true) →
    ∃ u, exec (.planeMask t a v) s = .next u ∧ u.nat Obj.AnalysisControl.planeMask = m ∧ answered u a.sess 0 ∧
      (∀ k < 4, bit (u.nat Obj.AnalysisControl.renderActive) k = (bit m k && bit (s.nat Obj.AnalysisControl.renderActive) k))) ∧
  (∀ (s : State) (t m k : Nat) (a : Caller) (v : Bytes), s.accepts a Obj.AnalysisControl.planeMask v (.num m) → k < 4 →
    bit m k = true → s.flag (Obj.PlaneConfig.enable k) = true → bit (s.nat Obj.AnalysisControl.renderActive) k = false →
    (∀ j < 4, j ≠ k → bit m j = bit (s.nat Obj.AnalysisControl.renderActive) j) →
    (∀ s', ((s.tickTo t).setVal Obj.AnalysisControl.planeMask (.num m)).startAnalysis k = some s' →
      ∃ u, exec (.planeMask t a v) s = .next u ∧ bit (u.nat Obj.AnalysisControl.renderActive) k = true ∧ answered u a.sess 0) ∧
    (((s.tickTo t).setVal Obj.AnalysisControl.planeMask (.num m)).startAnalysis k = none →
      ∃ u, exec (.planeMask t a v) s = .next u ∧ answered u a.sess 0x06010005 ∧ objectsKeptFor a.sess s u [] ∧
        partsKept (s.tickTo t) u [.net]))

/-- DRAM refresh and reads (R290, R291, R296-R299, R302, R303): a REFab due on a subchannel in READY with line staging below `PostponeBelow` and fewer
than 4 owed is postponed, else issued; an owed one is issued while staging allows; at a poll, MR4 above 85 °C halves the interval and catches up at
the next command opportunity, the second cool poll in succession restores it; an ACT that brings a row to `HammerThreshold` refreshes its neighbours;
a corrected read is counted, and rewritten where no write to its burst is queued, an uncorrectable one counted, reported and, past `UeLimit` within 1
ms, a training loss. -/
def Obligations.DramRefreshesAndReads : Prop :=
  (∀ (s : State) (t v fill : Nat), s.fieldOn → v < 4 → s.serving v = true → (s.subch v).due ≤ max s.now t →
    let later := s.flag (Obj.DramStatus.hot v) = false ∧ s.subState v = 3 ∧ fill < s.nat Obj.DramPolicy.postponeBelow ∧
      s.nat (Obj.DramStatus.owed v) < 4
    ∃ u, exec (.refabDue t v fill) s = .next u ∧ (u.subch v).due = (s.subch v).due + s.trefi v ∧
      (later → u.nat (Obj.DramStatus.owed v) = s.nat (Obj.DramStatus.owed v) + 1 ∧
        u.nat (Obj.DramStatus.postponed v) = (s.nat (Obj.DramStatus.postponed v) + 1) % 2 ^ 32 ∧
        objectsKept s u [Obj.DramStatus.owed v, Obj.DramStatus.postponed v]) ∧
      (¬later → Emit.dram v 1 (max s.now t) ∈ u.out ∧ (u.subch v).last = max s.now t ∧
        u.nat (Obj.DramStatus.refreshes v) = (s.nat (Obj.DramStatus.refreshes v) + 1) % 2 ^ 64 ∧
        objectsKept s u [Obj.DramStatus.refreshes v]) ∧ partsKept (s.tickTo t) u [.dram, .net]) ∧
  (∀ (s : State) (t v fill : Nat), s.fieldOn → v < 4 → s.serving v = true → 0 < s.nat (Obj.DramStatus.owed v) →
    s.nat Obj.DramPolicy.postponeBelow ≤ fill →
    ∃ u, exec (.owedRefresh t v fill) s = .next u ∧ Emit.dram v 1 (max s.now t) ∈ u.out ∧ (u.subch v).last = max s.now t ∧
      u.nat (Obj.DramStatus.owed v) = s.nat (Obj.DramStatus.owed v) - 1 ∧
      objectsKept s u [Obj.DramStatus.owed v, Obj.DramStatus.refreshes v] ∧ partsKept (s.tickTo t) u [.dram, .net]) ∧
  (∀ (s : State) (t v wait : Nat) (hots : List Bool), s.fieldOn → v < 4 → s.serving v = true →
    (s.subch v).polled + 10000 * s.nat Obj.DramPolicy.tempPoll ≤ max s.now t →
    (true ∈ hots → s.flag (Obj.DramStatus.hot v) = false →
      ∃ u, exec (.tempPoll t v ⟨hots, wait⟩) s = .next u ∧ raised u Ev.dramHot ∧ u.flag (Obj.DramStatus.hot v) = true ∧
        u.nat (Obj.DramStatus.refreshInterval v) = 1950 ∧ u.nat (Obj.DramStatus.owed v) = 0 ∧
        (0 < s.nat (Obj.DramStatus.owed v) → raised u Ev.dramCatchUp ∧ Emit.dram v 6 0 ∈ u.out ∧
          Emit.dram v 1 (max s.now t + wait) ∈ u.out ∧ (u.subch v).due = max s.now t + wait + 19500 ∧
          u.nat (Obj.DramStatus.catchUps v) = (s.nat (Obj.DramStatus.catchUps v) + 1) % 2 ^ 32)) ∧
    (true ∉ hots → s.flag (Obj.DramStatus.hot v) = true → (s.subch v).cool = 1 →
      ∃ u, exec (.tempPoll t v ⟨hots, wait⟩) s = .next u ∧ raised u Ev.dramHot ∧ u.flag (Obj.DramStatus.hot v) = false ∧
        u.nat (Obj.DramStatus.refreshInterval v) = 3900 ∧ (u.subch v).due = (s.subch v).last + 39000 ∧
        objectsKept s u [Obj.DramStatus.hot v, Obj.DramStatus.refreshInterval v] ∧ partsKept (s.tickTo t) u [.dram, .flt, .net])) ∧
  (∀ (s : State) (t v rank bank row : Nat) (l : List HammerEntry), s.fieldOn → v < 4 → s.serving v = true → bank < 32 →
    (hammerAct (s.nat Obj.DramPolicy.hammerThreshold) rank row (smGet (fun _ => []) (s.subch v).tables bank) = (l, false) →
      ∃ u, exec (.rowActivate t v rank bank row) s = .next u ∧ smGet (fun _ => []) (u.subch v).tables bank = l ∧
        objectsKept s u [] ∧ partsKept (s.tickTo t) u [.dram, .net]) ∧
    (hammerAct (s.nat Obj.DramPolicy.hammerThreshold) rank row (smGet (fun _ => []) (s.subch v).tables bank) = (l, true) →
      ∃ u, exec (.rowActivate t v rank bank row) s = .next u ∧
        (∀ r ∈ neighbourRows (bankRows (s.subch v).density) (s.nat Obj.DramPolicy.hammerReach) row, Emit.dram v 2 r ∈ u.out) ∧
        objectsKept s u [Obj.DramStatus.hammerRefreshes v] ∧ partsKept (s.tickTo t) u [.dram, .net])) ∧
  (∀ (s : State) (t v addr : Nat) (queued : Bool), s.fieldOn → v < 4 → s.serving v = true →
    ∃ u, exec (.correctedRead t v ⟨addr, queued⟩) s = .next u ∧ (queued = false → Emit.dram v 3 addr ∈ u.out) ∧
      u.nat (Obj.DramStatus.correctable v) = (s.nat (Obj.DramStatus.correctable v) + 1) % 2 ^ 32 ∧
      u.nat (Obj.DramStatus.lastErrorAddress v) = addr ∧
      objectsKept s u [Obj.DramStatus.correctable v, Obj.DramStatus.lastErrorAddress v] ∧ partsKept (s.tickTo t) u [.net]) ∧
  (∀ (s : State) (t v addr : Nat) (hit : EccHit), s.fieldOn → v < 4 → s.serving v = true →
    let recent := (s.subch v).errs.filter (fun e => decide (max s.now t < e + 10 ^ 7))
    ∃ u, exec (.uncorrectableRead t v addr hit) s = .next u ∧ raised u Ev.dramUncorrectable ∧
      u.nat (Obj.DramStatus.uncorrectable v) = (s.nat (Obj.DramStatus.uncorrectable v) + 1) % 2 ^ 32 ∧
      u.nat (Obj.DramStatus.lastErrorAddress v) = addr ∧
      (s.nat Obj.DramPolicy.ueLimit < recent.length + 1 → raised u Ev.dramTrainingLoss ∧ u.subState v = 5))

/-- DRAM training (R285, R293-R295, R301, R443, R455): at step 7 of the start, with a combination that R285 lists, each step within its bound and
every lane of every subchannel at least `MinEyeWidth` wide, all subchannels are READY with their eye maps, capacity and training time are shown and
the start goes on; a subchannel that fails is FAILED, with DramTrainingFailed, and the start stops there (that an unlisted combination fails training
is the model's choice, log entry 155); a due retrain starts in its window, one subchannel at a time; within 48 µs, windows within the limits replace
the eye map; one that is too narrow is a training loss; one that moved too far, or came late, is rejected and leaves the eye map (an edge at ±8 steps
counts as inside by log entry 156). -/
def Obligations.DramTrainsAndRetrains : Prop :=
  (∀ (s : State) (t : Nat) (inits : List Nat) (ok : List TrainResult), s.fieldOn → s.rst.fieldStep = 6 → s.rst.field.run = true →
    let good := fun (v : Nat) => match ok[v]? with
      | some r => dramSupported (s.nat Obj.DramConfig.ranks) (s.nat Obj.DramConfig.density) (s.nat Obj.DramConfig.dataRate) &&
          trainGood r (inits.getD (v / 2) 0) (s.nat Obj.DramPolicy.minEyeWidth)
      | none => false
    ∃ u, exec (.fullTraining t ok inits) s = .next u ∧ u.nat Obj.DramConfig.trainTime = trainTime ok inits ∧
      ((∀ v < 4, v < s.nSub → good v = true) → u.rst.fieldStep = 8 ∧ u.nat Obj.StartControl.startStage = 8 ∧
        u.nat Obj.DramConfig.channelBytes = s.channelCapacity ∧ (∀ v < 4, v < s.nSub → u.subState v = 3 ∧
          ∀ r, ok[v]? = some r → u.byt (Obj.DramStatus.eyeMap v) = (r.lanes.map trainedEye).flatten)) ∧
      (∀ v < 4, v < s.nSub → good v = false → u.rst.fieldStep = 7 ∧ u.subState v = 5 ∧ raised u Ev.dramTrainingFailed)) ∧
  (∀ (s : State) (t v fill : Nat), s.fieldOn → v < 4 → s.isDue 2 v = true → s.calFirst 2 v = true → s.subState v = 3 →
    (∀ j < 4, s.subState j ≠ 4) → (∀ e, s.cal.retrained = some e → e + 10 ^ 7 ≤ max s.now t) → (75 ≤ fill ∨ s.anyPlane = false) →
    ∃ u, exec (.dramRetrain t v fill) s = .next u ∧ u.subState v = 4 ∧ u.subch v = { s.subch v with retrain := max s.now t, fill := fill } ∧
      objectsKept s u [Obj.DramStatus.state v] ∧ partsKept (s.tickTo t) u [.dram, .net]) ∧
  (∀ (s : State) (t v : Nat) (lanes : List LaneSweep), s.fieldOn → v < 4 → s.subState v = 4 → lanes.length = 5 →
    let old := eyeMapOf (s.byt (Obj.DramStatus.eyeMap v))
    let within := fun (n : Nat) => lanes.zipIdx.all (fun p => windowOk (fld old (4 * p.2) 1) p.1.readLo p.1.readHi n
      && windowOk (fld old (4 * p.2 + 2) 1) p.1.writeLo p.1.writeHi n)
    let wide := lanes.all (fun x => laneWide x (s.nat Obj.DramPolicy.minEyeWidth))
    ∃ u, exec (.dramRetrainDone t v lanes) s = .next u ∧
      u.nat (Obj.DramStatus.retrains v) = (s.nat (Obj.DramStatus.retrains v) + 1) % 2 ^ 32 ∧
      (wide = false → u.subState v = 5 ∧ raised u Ev.dramTrainingLoss) ∧
      (wide = true → u.subState v = 3 ∧
        (max s.now t ≤ (s.subch v).retrain + 480000 → within (s.nat Obj.CalLimits.dramMaxShift) = true → within 255 = true → u.byt (Obj.DramStatus.eyeMap v) = (lanes.map laneEye).flatten ∧
          u.nat (Obj.CalSubject.lastResult 2) = 0) ∧
        ((s.subch v).retrain + 480000 < max s.now t ∨ within (s.nat Obj.CalLimits.dramMaxShift) = false ∨ within 255 = false → u.byt (Obj.DramStatus.eyeMap v) = s.byt (Obj.DramStatus.eyeMap v) ∧
          u.nat (Obj.CalSubject.lastResult 2) = 1 ∧ raised u Ev.calibrationRejected)))

/-- Compression jobs (R310, R313, R314, R317-R320, R323, R324): an accepted descriptor joins the end of its channel's queue and takes its archive
blocks; a bad one is refused and changes nothing; an idle channel starts its oldest job; an input block the read of which fails ends the job with
status 3; one that fails its check ends it with status 2; a block whose output fits its allotment is counted in `BytesIn`, a stored one in
`StoredBlocks`, and the last ends the job; Resume of a STOPPED job takes further blocks and goes on; a job STOPPED for `ResumeTimeout` ends with
CompressTimeout; Cancel takes a queued job out; Reset empties a channel with no block in progress. -/
def Obligations.CompressionJobsRun : Prop :=
  (∀ (s : State) (t ch : Nat) (a : Caller) (v b : Bytes), ch < 8 → s.accepts a (Obj.Channel.submit ch) v (.bytes b) →
    (s.submitAbort a.sess ch b = 0 →
      ∃ u j, exec (.compressionSubmit t a ch v) s = .next u ∧ u.chan ch = { s.chan ch with queue := (s.chan ch).queue ++ [j] } ∧
        j.id = fld b 0 4 ∧ j.sess = some a.sess ∧ j.mode = fld b 5 1 ∧ j.level = fld b 6 1 ∧ j.len = fld b 16 4 ∧ j.ring = fld b 24 2 ∧
        j.room = fld b 20 4 * archiveBlock ∧
        u.num Obj.CompressionControl.archiveBlocksFree = s.num Obj.CompressionControl.archiveBlocksFree - fld b 20 4 ∧ answered u a.sess 0 ∧
        objectsKeptFor a.sess s u [Obj.CompressionControl.archiveBlocksFree, Obj.Channel.state ch, Obj.Channel.queueDepth ch,
          Obj.Channel.currentJob ch] ∧ partsKept (s.tickTo t) u [.comp, .net, .dux]) ∧
    (s.submitAbort a.sess ch b ≠ 0 →
      ∃ u, exec (.compressionSubmit t a ch v) s = .next u ∧ answered u a.sess (s.submitAbort a.sess ch b) ∧ objectsKeptFor a.sess s u [] ∧
        partsKept (s.tickTo t) u [.net])) ∧
  (∀ (s : State) (t ch : Nat) (j : Job) (r : List Job), s.fieldOn → ch < 8 → (s.chan ch).run = none → (s.chan ch).queue = j :: r →
    ∃ u, exec (.jobStart t ch) s = .next u ∧ u.chan ch = { s.chan ch with run := some j, stopAt := none, queue := r } ∧
      u.nat (Obj.Channel.state ch) = 1 ∧ u.nat (Obj.Channel.queueDepth ch) = r.length ∧ u.nat (Obj.Channel.currentJob ch) = j.id ∧
      objectsKept s u [Obj.Channel.state ch, Obj.Channel.queueDepth ch, Obj.Channel.currentJob ch] ∧
      partsKept (s.tickTo t) u [.comp, .net]) ∧
  (∀ (s : State) (t ch : Nat) (j : Job), s.fieldOn → ch < 8 → (s.chan ch).run = some j → (s.chan ch).stopAt = none →
    (∃ u, exec (.inputBlock t ch .uncorrectable) s = .next u ∧ (u.chan ch).run = none ∧
      (s.waits .channel ch = false → u.nat (Obj.Channel.failures ch) = (s.nat (Obj.Channel.failures ch) + 1) % 2 ^ 32)) ∧
    (∀ data, data.length = min 32768 (j.len - j.consumed) → 0 < j.len →
      (j.frame = none ∨ data = sub j.input j.consumed (min 32768 (j.len - j.consumed))) →
      let last := decide (j.len ≤ j.consumed + data.length)
      let comp := deflated (deep ch) j.mode j.level j.hist data last
      comp.length < (storedBits j.bits.length last data).length → verifyBlock j.hist data last comp = false →
      ∃ u, exec (.inputBlock t ch (.data data)) s = .next u ∧ (u.chan ch).run = none ∧ raised u Ev.compressVerifyFail ∧
        u.nat Obj.CompressionControl.verifyFailures = (s.nat Obj.CompressionControl.verifyFailures + 1) % 2 ^ 32) ∧
    (∀ data, data.length = min 32768 (j.len - j.consumed) → 0 < j.len →
      (j.frame = none ∨ data = sub j.input j.consumed (min 32768 (j.len - j.consumed))) → j.fill.length < archiveBlock →
      let last := decide (j.len ≤ j.consumed + data.length)
      let store := storedBits j.bits.length last data
      let comp := deflated (deep ch) j.mode j.level j.hist data last
      (store.length ≤ comp.length ∨ verifyBlock j.hist data last comp = true) →
      (j.bits.length + min store.length comp.length + 7) / 8 ≤ j.room →
      ∃ u, exec (.inputBlock t ch (.data data)) s = .next u ∧
        u.nat (Obj.Channel.bytesIn ch) = (s.nat (Obj.Channel.bytesIn ch) + data.length) % 2 ^ 64 ∧
        (store.length ≤ comp.length → u.nat (Obj.Channel.storedBlocks ch) = (s.nat (Obj.Channel.storedBlocks ch) + 1) % 2 ^ 64) ∧
        (comp.length < store.length → u.nat (Obj.Channel.storedBlocks ch) = s.nat (Obj.Channel.storedBlocks ch)) ∧
        (last = true → (u.chan ch).run = none))) ∧
  (∀ (s : State) (t : Nat) (a : Caller) (v b : Bytes), s.accepts a Obj.CompressionControl.resume v (.bytes b) →
    fld b 0 4 ≠ 0 → 0 < fld b 4 4 → fld b 4 4 ≤ 16384 →
    (∀ ch j, s.stoppedChannel a.sess (fld b 0 4) = some ch → (s.chan ch).run = some j →
      (fld b 4 4 : Int) ≤ s.num Obj.CompressionControl.archiveBlocksFree → j.rest.length ≤ j.room + fld b 4 4 * archiveBlock →
      j.cancel = false → j.fill.length < archiveBlock →
      ∃ u, exec (.compressionResume t a v) s = .next u ∧ answered u a.sess 0 ∧ (u.chan ch).stopAt = none ∧
        (j.consumed + j.held < j.len → ∃ j', (u.chan ch).run = some j' ∧ j'.produced = j.produced + j.rest.length ∧
          j'.room = j.room + fld b 4 4 * archiveBlock - j.rest.length) ∧
        (j.len ≤ j.consumed + j.held → (u.chan ch).run = none ∧
          u.nat (Obj.Channel.jobsDone ch) = (s.nat (Obj.Channel.jobsDone ch) + 1) % 2 ^ 64)) ∧
    (s.stoppedChannel a.sess (fld b 0 4) = none →
      ∃ u, exec (.compressionResume t a v) s = .next u ∧ answered u a.sess 0x03010004 ∧ objectsKeptFor a.sess s u [] ∧
        partsKept (s.tickTo t) u [.net])) ∧
  (∀ (s : State) (t ch stop : Nat) (j : Job), s.fieldOn → ch < 8 → (s.chan ch).run = some j → (s.chan ch).stopAt = some stop →
    stop + 10 ^ 7 * s.nat Obj.CompressionControl.resumeTimeout ≤ max s.now t →
    ∃ u, exec (.resumeTimeout t ch) s = .next u ∧ (u.chan ch).run = none ∧ raised u Ev.compressTimeout ∧
      u.nat (Obj.Channel.failures ch) = (s.nat (Obj.Channel.failures ch) + 1) % 2 ^ 32) ∧
  (∀ (s : State) (t id : Nat) (a : Caller) (v : Bytes), s.accepts a Obj.CompressionControl.cancel v (.num id) →
    (id ∈ s.jobIds a.sess → ∃ u, exec (.compressionCancel t a v) s = .next u ∧ answered u a.sess 0 ∧
      ∀ ch < 8, (u.chan ch).queue = (s.chan ch).queue.filter (fun j => !(j.sess == some a.sess && j.id == id))) ∧
    (id ∉ s.jobIds a.sess → ∃ u, exec (.compressionCancel t a v) s = .next u ∧ answered u a.sess 0x03010004 ∧
      objectsKeptFor a.sess s u [] ∧ partsKept (s.tickTo t) u [.net])) ∧
  (∀ (s : State) (t ch : Nat) (a : Caller) (v : Bytes) (x : Val), ch < 8 → s.accepts a (Obj.Channel.reset ch) v x →
    ((s.chan ch).run = none ∨ (s.chan ch).stopAt.isSome = true →
      ∃ u, exec (.channelReset t a ch v) s = .next u ∧ answered u a.sess 0 ∧ (u.chan ch).run = none ∧ (u.chan ch).queue = []) ∧
    ((s.chan ch).run.isSome = true → (s.chan ch).stopAt = none →
      ∃ u, exec (.channelReset t a ch v) s = .next u ∧ answered u a.sess 0 ∧ u.waits .channel ch = true ∧ objectsKeptFor a.sess s u [] ∧
        partsKept (s.tickTo t) u [.rst, .net, .dux]))

/-- Reads and writes of plain objects (R12, R328, R333, R366): a write that passes the checks of R333 to a configuration object of block reset,
calibration limits, the SPS, position certainty, nozzle health, DRAM policy or fault control stores its value and nothing else; a write that names
another type is refused with 0x0202_0001 (a write of the SPS enable may also turn `SpsStatus.State` off, and it and the uncertainty policy act on the
web position); a read answers such an object's value, an absent object's zero, or the abort of the first check that fails. -/
def Obligations.ObjectsAreReadAndWritten : Prop :=
  (∀ (s : State) (t ix sub : Nat) (a : Caller) (v : Bytes) (n : Int) (d : Desc),
    ix ∈ [0x2203, 0x2308, 0x3020, 0x3030, 0x4400, 0x7001, 0xA000] → sub < 256 → descOf (ix * 256 + sub) = some d → d.acc = .rw →
    s.accepts a (ix * 256 + sub) v (.num n) → relatedOk (smSet objDefault s.dict (ix * 256 + sub) (.num n)) ix = true →
    ∃ u, exec (.objectWrite t a ix sub d.ty.code v) s = .next u ∧ u.val (ix * 256 + sub) = .num n ∧ answered u a.sess 0 ∧
      objectsKeptFor a.sess s u ((ix * 256 + sub) :: if ix * 256 + sub = Obj.SpsConfig.enable then [Obj.SpsStatus.state] else []) ∧
      partsKept (s.tickTo t) u ([.net, .dux] ++
        if ix * 256 + sub ∈ [Obj.SpsConfig.enable, Obj.PositionCertainty.uncertainPolicy] then [.web] else [])) ∧
  (∀ (s : State) (t ix sub ty : Nat) (a : Caller) (v : Bytes) (d : Desc), vendorAccess a.role ix = false → s.hostUp = true → a.sess ≤ 256 →
    descOf (ix * 256 + sub) = some d → s.permit a.role (ix * 256 + sub) true = 0 → d.ty.code ≠ ty →
    ∃ u, exec (.objectWrite t a ix sub ty v) s = .next u ∧ answered u a.sess 0x02020001 ∧ objectsKeptFor a.sess s u [] ∧
      partsKept (s.tickTo t) u [.net]) ∧
  (∀ (s : State) (t ix sub : Nat) (a : Caller) (d : Desc), vendorAccess a.role ix = false → s.hostUp = true → a.sess ≤ 256 →
    descOf (ix * 256 + sub) = some d → s.permit a.role (ix * 256 + sub) false = 0 →
    (s.absent (ix * 256 + sub) = true →
      ∃ u, exec (.read t a ix sub) s = .next u ∧ Emit.reply a.sess 0 (readBody d.ty.code (absentValue d.ty)) ∈ u.out ∧
        objectsKeptFor a.sess s u [] ∧ partsKept (s.tickTo t) u [.net]) ∧
    (ix ∈ [0x2203, 0x2308, 0x3020, 0x3030, 0x4400, 0x7001, 0xA000] → sub < 256 → s.absent (ix * 256 + sub) = false → d.ty ≠ .str → d.ty ≠ .dom →
      ∃ u, exec (.read t a ix sub) s = .next u ∧
        Emit.reply a.sess 0 (readBody d.ty.code (encodeVal d.ty (.num (s.num (ix * 256 + sub))))) ∈ u.out ∧
        objectsKeptFor a.sess s u [] ∧ partsKept (s.tickTo t) u [.net])) ∧
  (∀ (s : State) (t ix sub : Nat) (a : Caller), vendorAccess a.role ix = false → s.hostUp = true → a.sess ≤ 256 →
    s.permit a.role (ix * 256 + sub) false ≠ 0 →
    ∃ u, exec (.read t a ix sub) s = .next u ∧ answered u a.sess (s.permit a.role (ix * 256 + sub) false) ∧ objectsKeptFor a.sess s u [] ∧
      partsKept (s.tickTo t) u [.net])

/-- Commit groups (R335-R337): a write of an RWS object that no check refuses replaces its staged value in the session's group and leaves the value in
force; a commit that passes its check empties the group, counts, and puts the staged values in force, shown here for the image pipeline's; one that
fails keeps them and reports its abort; Discard empties the group; an empty group may be rebound, another is refused with 0x0301_000A. -/
def Obligations.GroupsStageAndCommit : Prop :=
  (∀ (s : State) (t ix sub : Nat) (a : Caller) (v : Bytes) (x : Val) (d : Desc), vendorAccess a.role ix = false → sub < 256 →
    descOf (ix * 256 + sub) = some d → d.acc = .rws → s.accepts a (ix * 256 + sub) v x →
    let g := s.groupFor (s.sess a.sess).staging (ix * 256 + sub)
    g < 256 → (s.stage g (ix * 256 + sub) x).2 = 0 →
    ∃ u, exec (.stagingWrite t a ix sub d.ty.code v) s = .next u ∧ answered u a.sess 0 ∧
      u.staged g = smIns (smErase (s.staged g) (ix * 256 + sub)) (ix * 256 + sub) (s.normal (ix * 256 + sub) x) ∧
      u.nat (Obj.CommitGroup.stagedCount g) = (u.staged g).length ∧
      objectsKeptFor a.sess s u [Obj.CommitGroup.stagedCount g] ∧ partsKept (s.tickTo t) u [.groups, .net, .dux]) ∧
  (∀ (s : State) (t g : Nat) (a : Caller) (v : Bytes) (x : Val), g < 256 → s.accepts a (Obj.CommitGroup.commit g) v x → s.staged g ≠ [] →
    (s.commitCheck (s.staged g) = 0 →
      ∃ u, exec (.groupCommit t a g v) s = .next u ∧ answered u a.sess 0 ∧ u.staged g = [] ∧ u.nat (Obj.CommitGroup.lastOutcome g) = 0 ∧
        ((∀ e ∈ s.staged g, e.1 ≠ Obj.CommitGroup.commitCount g) →
          u.nat (Obj.CommitGroup.commitCount g) = (s.nat (Obj.CommitGroup.commitCount g) + 1) % 2 ^ 32) ∧
        u.num (Obj.CommitGroup.lastCommitLine g) = s.commitLine g ∧
        ((s.staged g).Pairwise (fun e f => e.1 ≠ f.1) → ∀ e ∈ s.staged g, 0x6100 ≤ e.1 / 256 → e.1 / 256 < 0x6138 → u.val e.1 = e.2)) ∧
    (s.commitCheck (s.staged g) ≠ 0 →
      ∃ u, exec (.groupCommit t a g v) s = .next u ∧ answered u a.sess (s.commitCheck (s.staged g)) ∧ raised u Ev.commitFailed ∧
        u.groups = s.groups ∧ u.nat (Obj.CommitGroup.lastOutcome g) = 2 ∧
        u.nat (Obj.CommitGroup.lastAbort g) = s.commitCheck (s.staged g) ∧
        objectsKeptFor a.sess s u ([Obj.CommitGroup.lastOutcome g, Obj.CommitGroup.lastAbort g] ++ (List.range 64).map Obj.HeadRecord.state))) ∧
  (∀ (s : State) (t g : Nat) (a : Caller) (v : Bytes) (x : Val), g < 256 → s.accepts a (Obj.CommitGroup.discard g) v x →
    ∃ u, exec (.groupDiscard t a g v) s = .next u ∧ answered u a.sess 0 ∧ u.staged g = [] ∧
      objectsKeptFor a.sess s u [Obj.CommitGroup.stagedCount g] ∧ partsKept (s.tickTo t) u [.groups, .net, .dux]) ∧
  (∀ (s : State) (t g n : Nat) (a : Caller) (v : Bytes), g < 256 → s.accepts a (Obj.CommitGroup.binding g) v (.num n) →
    (s.staged g = [] → ∃ u, exec (.bindingWrite t a g v) s = .next u ∧ answered u a.sess 0 ∧ u.nat (Obj.CommitGroup.binding g) = n ∧
      objectsKeptFor a.sess s u [Obj.CommitGroup.binding g] ∧ partsKept (s.tickTo t) u [.net, .dux]) ∧
    (s.staged g ≠ [] → ∃ u, exec (.bindingWrite t a g v) s = .next u ∧ answered u a.sess 0x0301000A ∧ objectsKeptFor a.sess s u [] ∧
      partsKept (s.tickTo t) u [.net]))

/-- DOMAIN transfers and the Renvos image (R340-R342, R346, R349, R352): a read block answers its part of the value with the length and ChangeCount; a
First block of 4,096 bytes that is not the last opens a transfer and is answered; a block that does not fit ends the transfer with 0x0203_0001; a
transfer silent for more than 1 s ends; a save erases the copy that is not selected, and its end stores the image there or leaves it erased;
ImageInvalidate erases a header, and is refused with 0x0301_000B while a save runs. -/
def Obligations.TransfersAndImages : Prop :=
  (∀ (s : State) (t : Nat) (a : Caller) (block : Bytes) (d : Desc), vendorAccess a.role (fld block 0 2) = false → s.hostUp = true → a.sess ≤ 256 →
    let key := blockKey block
    descOf key = some d → d.ty = .dom → s.permit a.role key false = 0 → s.absent key = false → block.length = 16 →
    bit (fld block 3 1) 2 = true → fld block 3 1 < 8 → fld block 12 2 ≤ 4096 →
    let b := ((s.tickTo t).readObject a key .dom).1
    let off := fld block 4 4
    let part := sub b off (fld block 12 2)
    let flags := (if off = 0 then 1 else 0) + (if b.length ≤ off + fld block 12 2 then 2 else 0) + 4
    ∃ u, exec (.domainReadBlock t a block) s = .next u ∧
      Emit.reply a.sess 0 (blockHead key flags off b.length part.length (smGet (fun _ => 0) s.chg key) ++ part) ∈ u.out) ∧
  (∀ (s : State) (t : Nat) (a : Caller) (block : Bytes) (d : Desc), vendorAccess a.role (fld block 0 2) = false → s.hostUp = true → a.sess ≤ 256 →
    let key := blockKey block
    descOf key = some d → d.ty = .dom → s.permit a.role key true = 0 → 16 ≤ block.length →
    fld block 14 2 = 0 →
    (fld block 3 1 = 1 → fld block 4 4 = 0 → fld block 12 2 = 4096 → block.length = 16 + 4096 → 4096 < fld block 8 4 →
      d.fits (fld block 8 4) = true → (s.groups.transfers.filter (fun y => y.sess == a.sess && y.key != key)).length < 8 →
      ∃ u, exec (.domainWriteBlock t a block) s = .next u ∧ answered u a.sess 0 ∧
        u.groups = { s.groups with transfers := s.groups.transfers.filter (fun x => !(x.sess == a.sess && x.key == key)) ++
          [{ sess := a.sess, key := key, data := block.drop 16, total := fld block 8 4, last := max s.now t }] } ∧
        objectsKeptFor a.sess s u [] ∧ partsKept (s.tickTo t) u [.groups, .net]) ∧
    (∀ x, fld block 3 1 = 0 → s.transfer a.sess key = some x → max s.now t ≤ x.last + oneSec → x.take (max s.now t) block = none →
      ∃ u, exec (.domainWriteBlock t a block) s = .next u ∧ answered u a.sess 0x02030001 ∧ u.transfer a.sess key = none ∧
        objectsKeptFor a.sess s u [] ∧ partsKept (s.tickTo t) u [.groups, .net])) ∧
  (∀ (s : State) (t i ix sub : Nat) (x : Transfer), s.transfer i (ix * 256 + sub) = some x → x.last + oneSec < max s.now t →
    ∃ u, exec (.domainTransferTimeout t i ix sub) s = .next u ∧ u.transfer i (ix * 256 + sub) = none ∧ objectsKept s u [] ∧
      partsKept (s.tickTo t) u [.groups, .net]) ∧
  (∀ (s : State) (t : Nat) (a : Caller) (v : Bytes) (x : Val), s.accepts a Obj.ImageControl.imageSave v x → s.flash.saving = none →
    s.rst.recovery = false →
    let sel := s.selectCopy
    let seq := fld (s.flash.copy sel) 8 4
    let b := (s.tickTo t).image (if sel = 0 then 0 else seq + 1)
    (sel ≠ 0 → seq ≠ 0xFFFFFFFE) → b.length ≤ 2 ^ 22 →
    ∃ u, exec (.imageSave t a v) s = .next u ∧ answered u a.sess 0 ∧ u.nat Obj.ImageControl.saveState = 1 ∧
      u.flash = { s.flash.setCopy (if sel = 1 then 2 else 1) [] with saving := some (if sel = 1 then 2 else 1, b) } ∧
      objectsKeptFor a.sess s u [Obj.ImageControl.saveState] ∧ partsKept (s.tickTo t) u [.flash, .net, .dux]) ∧
  (∀ (s : State) (t c : Nat) (b : Bytes), s.hostOn → s.flash.saving = some (c, b) →
    (∃ u, exec (.imageSaved t true) s = .next u ∧ raised u Ev.imageSaved ∧ u.nat Obj.ImageControl.saveState = 2 ∧
      u.flash = { s.flash.setCopy c b with saving := none }) ∧
    (∃ u, exec (.imageSaved t false) s = .next u ∧ raised u Ev.imageSaveFailed ∧ u.nat Obj.ImageControl.saveState = 3 ∧
      u.flash = { s.flash with saving := none })) ∧
  (∀ (s : State) (t c : Nat) (a : Caller) (v : Bytes), s.accepts a Obj.ImageControl.imageInvalidate v (.num c) →
    (s.flash.saving = none → ∃ u, exec (.imageInvalidate t a v) s = .next u ∧ answered u a.sess 0 ∧
      u.flash = s.flash.setCopy c (eraseHeader (s.flash.copy c)) ∧ objectsKeptFor a.sess s u [] ∧
      partsKept (s.tickTo t) u [.flash, .net, .dux]) ∧
    (s.flash.saving.isSome = true → ∃ u, exec (.imageInvalidate t a v) s = .next u ∧ answered u a.sess 0x0301000B ∧
      objectsKeptFor a.sess s u [] ∧ partsKept (s.tickTo t) u [.net]))

/-- Host ports and rings (R353, R355, R357-R360, R367, R368, R373-R376, R393): a well-formed HELLO datagram joins the control path and a frame the
port does not accept is counted as dropped; a message whose tag fails is counted and does nothing; an incomplete message goes 10 ms after its first
part; an access that waited `ReorderHold` passes; a STRIP leaves its ring as a deposit, or is answered LINK while the Span is lost; a ring's owner
empties it, another is refused; a due descriptor leaves its egress ring; a link change is shown and reported. -/
def Obligations.MessagesAndRingsMove : Prop :=
  (∀ (s : State) (t port : Nat) (hd : FrameHead) (peer data : Bytes), s.hostUp = true → s.portOn port = true →
    (s.frameOk port hd = false → ∃ u, exec (.datagram t port hd peer data) s = .next u ∧
      u.nat (Obj.HostPort.rxFrames port) = (s.nat (Obj.HostPort.rxFrames port) + 1) % 2 ^ 64 ∧
      u.nat (Obj.HostPort.rxDropped port) = (s.nat (Obj.HostPort.rxDropped port) + 1) % 2 ^ 32 ∧
      objectsKept s u [Obj.HostPort.rxFrames port, Obj.HostPort.rxDropped port] ∧ partsKept (s.tickTo t) u [.net]) ∧
    (s.frameOk port hd = true → hd.proto ≠ 1 → hd.proto ≠ 2 → hd.sumOk = true → s.listens hd.dport = true → hd.dport ≠ 319 → hd.dport ≠ 320 →
      24 ≤ data.length → fld data 0 2 = 0x474E → fld data 18 2 ≤ 65519 →
      (fld data 3 1 = 1 → fld data 4 4 = 0 → bit (fld data 16 2) 0 = false → hd.dport = s.nat Obj.Ngalis.udpPort → fld data 20 2 = 0 →
        data.length = 24 + fld data 18 2 → fld data 2 1 = 1 →
        ∃ u, exec (.datagram t port hd peer data) s = .next u ∧ u.net.hellos = s.net.hellos ++ [(port, peer, data.drop 24)] ∧
          objectsKept s u [Obj.HostPort.rxFrames port] ∧ partsKept (s.tickTo t) u [.net]) ∧
      (let i := fld data 4 4
       fld data 3 1 ≠ 1 → fld data 2 1 = 1 → i < 256 → s.sessState i ≠ 0 → hd.dport = (s.sess i).udp → (s.sess i).parts = [] →
        fld data 20 2 = 0 → data.length = 24 + fld data 18 2 + 16 →
        Config.gcmOk ((s.sess i).key.take 32) (hostNonce (s.sess i).key (fld data 8 8)) (data.take 20) (data.drop 24) = false →
        ∃ u, exec (.datagram t port hd peer data) s = .next u ∧
          u.nat (Obj.Session.authFailures i) = (s.nat (Obj.Session.authFailures i) + 1) % 2 ^ 32 ∧
          (u.sess i).wait = (s.sess i).wait ∧ (u.sess i).low = (s.sess i).low ∧ (u.sess i).recvd = (s.sess i).recvd ∧
          objectsKept s u [Obj.HostPort.rxFrames port, Obj.Session.authFailures i] ∧ partsKept (s.tickTo t) u [.net, .flt]))) ∧
  (∀ (s : State) (t i seq : Nat), s.hostUp = true → (∃ m ∈ (s.sess i).parts, m.seq = seq ∧ m.first + 100000000 ≤ max s.now t) →
    ∃ u, exec (.reassemblyTimeout t i seq) s = .next u ∧ (u.sess i).parts = (s.sess i).parts.filter (fun m => m.seq != seq) ∧
      u.nat Obj.Ngalis.incomplete = (s.nat Obj.Ngalis.incomplete + 1) % 2 ^ 32 ∧ objectsKept s u [Obj.Ngalis.incomplete] ∧
      partsKept (s.tickTo t) u [.net]) ∧
  (∀ (s : State) (t i : Nat) (m : NetMsg), s.hostUp = true →
    ((s.sess i).wait.filter (fun m => decide ((s.sess i).low < m.seq) &&
      decide (m.at_ + s.nat Obj.Ngalis.reorderHold * 10000 ≤ max s.now t))).getLast? = some m →
    ∃ u, exec (.accessPassed t i) s = .next u ∧ (u.sess i).low = ((s.sess i).pass m.seq).low ∧
      (u.sess i).passed = ((s.sess i).pass m.seq).passed ∧ (u.sess i).wait = (s.sess i).wait ∧ objectsKept s u [] ∧
      partsKept (s.tickTo t) u [.net]) ∧
  (∀ (s : State) (t i seq r : Nat) (body : Bytes) (l : List Nat), s.hostUp = true → i < 256 → s.ringsOf i 0 = r :: l →
    (s.span.lostH = false → ∃ u, exec (.strip t i seq body) s = .next u ∧
      Emit.span .host 0x02 (leBytes 2 i ++ leBytes 2 0 ++ leBytes 4 s.net.nextDeposit ++ body) ∈ u.out ∧
      u.net.nextDeposit = (s.net.nextDeposit + 1) % 2 ^ 32 ∧ (∃ w, (u.sess i).strips = (s.sess i).strips ++ [w] ∧ w.seq = seq ∧
        w.deposit = s.net.nextDeposit) ∧ objectsKept s u [] ∧ partsKept (s.tickTo t) u [.net]) ∧
    (s.span.lostH = true → ∃ u b, exec (.strip t i seq body) s = .next u ∧ Emit.message i 9 b ∈ u.out ∧ b.take 9 = leBytes 8 seq ++ leBytes 1 7 ∧
      u.net.nextDeposit = s.net.nextDeposit)) ∧
  (∀ (s : State) (t r : Nat) (a : Caller) (v : Bytes) (x : Val), r < 64 → s.hostEv = [] → s.accepts a (Obj.Ring.reset r) v x →
    (s.nat (Obj.Ring.session r) = a.sess → ∃ u, exec (.ringReset t a r v) s = .next u ∧ answered u a.sess 0 ∧ u.ring r = [] ∧
      objectsKeptFor a.sess s u [] ∧ partsKept (s.tickTo t) u [.net, .rst, .dux]) ∧
    (s.nat (Obj.Ring.session r) ≠ a.sess → ∃ u, exec (.ringReset t a r v) s = .next u ∧ answered u a.sess 0x01010003 ∧
      objectsKeptFor a.sess s u [] ∧ partsKept (s.tickTo t) u [.net])) ∧
  (∀ (s : State) (t r port : Nat) (d : Descr) (rest : List Descr), s.hostUp = true → r < 64 → s.hostEv = [] → s.ring r = d :: rest →
    s.nat (Obj.Ring.direction r) = 1 → s.nat (Obj.Ring.session r) < 256 → s.ringPort r = port →
    (s.sess (s.nat (Obj.Ring.session r))).txSeq ≤ 2 ^ 48 →
    ((s.tickTo t).launchTime r d).1 ≤ (s.tickTo t).islandNs .host →
    s.lowerDue r port ((s.tickTo t).launchTime r d).1 = false →
    let i := s.nat (Obj.Ring.session r)
    let late := (s.launchTime r d).2 || decide ((s.launchTime r d).1 + 16 < (s.tickTo t).islandNs .host)
    ∃ u, exec (.descriptorLaunch t r port) s = .next u ∧ Emit.launch r i late d.typ d.body ∈ u.out ∧ u.ring r = rest ∧
      (u.sess i).txSeq = (s.sess i).txSeq + 1 ∧ (late = true → port < 5 →
        u.nat (Obj.Ring.lateLaunches r) = (s.nat (Obj.Ring.lateLaunches r) + 1) % 2 ^ 32) ∧ partsKept (s.tickTo t) u [.net]) ∧
  (∀ (s : State) (t port speed fec : Nat), s.hostOn → port < 5 →
    (s.portOn port = true → s.flag (Obj.HostPort.linkState port) = false → ∃ u, exec (.hostLinkChange t port true speed fec) s = .next u ∧
      raised u Ev.hostLinkUp ∧ u.flag (Obj.HostPort.linkState port) = true ∧ u.nat (Obj.HostPort.linkSpeed port) = speed ∧
      u.nat (Obj.HostPort.fecInUse port) = fec ∧
      objectsKept s u [Obj.HostPort.linkState port, Obj.HostPort.linkSpeed port, Obj.HostPort.fecInUse port] ∧
      partsKept (s.tickTo t) u [.net, .flt]) ∧
    (s.flag (Obj.HostPort.linkState port) = true → ∃ u, exec (.hostLinkChange t port false speed fec) s = .next u ∧ raised u Ev.hostLinkDown ∧
      u.flag (Obj.HostPort.linkState port) = false ∧ u.nat (Obj.HostPort.linkSpeed port) = 0 ∧
      u.nat (Obj.HostPort.linkDrops port) = (s.nat (Obj.HostPort.linkDrops port) + 1) % 2 ^ 32 ∧
      objectsKept s u [Obj.HostPort.linkState port, Obj.HostPort.linkSpeed port, Obj.HostPort.fecInUse port, Obj.HostPort.linkDrops port] ∧
      partsKept (s.tickTo t) u [.net, .flt]))

/-- Sessions (R361-R363, R370, R371, R378, R500): a HELLO with a free context reserves it and is answered, with none it is refused with NOCONTEXT; a
KEYX whose credential is good is accepted, another frees the context; an OPEN with a role that the credential grants opens the session, another frees
it; a handshake ends at `HandshakeTimeout`; a PING is answered with its Token; the AZ9 pings a session to which it sent nothing for `HeartbeatPeriod`,
and closes one silent for `SessionTimeout`; CLOSE and a write of `Close` free the context. -/
def Obligations.SessionsOpenAndClose : Prop :=
  (∀ (s : State) (t port : Nat) (peer body : Bytes), s.hostUp = true → port < 5 → body.length = 130 → fld body 0 1 = 1 →
    (∀ i, s.freeCtx = some i → s.nat Obj.Ngalis.handshaking < 32 →
      ∃ u b, exec (.hello t port peer body) s = .next u ∧ Emit.toPeer port peer 1 b ∈ u.out ∧ b.take 16 = respPrefix 0 0 0 ∧ u.sessState i = 1 ∧
        u.nat Obj.Ngalis.handshaking = s.nat Obj.Ngalis.handshaking + 1 ∧ partsKept (s.tickTo t) u [.net]) ∧
    (s.freeCtx = none ∨ 32 ≤ s.nat Obj.Ngalis.handshaking →
      ∃ u, exec (.hello t port peer body) s = .next u ∧ Emit.toPeer port peer 1 (respPrefix 0 3 0) ∈ u.out ∧
        u.nat Obj.Ngalis.noContextRefusals = (s.nat Obj.Ngalis.noContextRefusals + 1) % 2 ^ 32 ∧ partsKept (s.tickTo t) u [.net, .flt])) ∧
  (∀ (s : State) (t i seq : Nat) (body : Bytes), s.hostUp = true → i < 256 → s.sessState i = 1 → (s.sess i).cred = none →
    (∀ m iss, (s.tickTo t).judgeKeyx i body = some (m, iss) →
      ∃ u, exec (.keyx t i seq body) s = .next u ∧ Emit.message i 2 (respPrefix seq 0 0) ∈ u.out ∧ (u.sess i).cred = some m ∧
        u.issuer i = iss ∧ u.sessState i = 1 ∧ partsKept (s.tickTo t) u [.net, .sec]) ∧
    ((s.tickTo t).judgeKeyx i body = none →
      ∃ u, exec (.keyx t i seq body) s = .next u ∧ Emit.message i 2 (respPrefix seq 5 0) ∈ u.out ∧ u.sessState i = 0 ∧
        u.nat Obj.Ngalis.handshaking = s.nat Obj.Ngalis.handshaking - 1 ∧ partsKept (s.tickTo t) u [.net, .sec, .groups, .rst])) ∧
  (∀ (s : State) (t i seq m : Nat) (body : Bytes), s.hostUp = true → i < 256 → s.sessState i = 1 → (s.sess i).cred = some m →
    let role := fld body 0 1
    (bit m role = true → admitsIssuer s.lifecycle (s.issuer i) role s.ownerGrant = true →
      ∃ u b, exec (.openSession t i seq body) s = .next u ∧ Emit.message i 3 b ∈ u.out ∧ b.take 16 = respPrefix seq 0 0 ∧ u.sessState i = 2 ∧
        u.nat (Obj.Session.role i) = role ∧ raised u Ev.sessionOpened ∧
        u.nat Obj.Ngalis.openSessions = s.nat Obj.Ngalis.openSessions + 1 ∧ partsKept (s.tickTo t) u [.net, .flt]) ∧
    (bit m role = false → ∃ u, exec (.openSession t i seq body) s = .next u ∧ Emit.message i 3 (respPrefix seq 6 0) ∈ u.out ∧ u.sessState i = 0 ∧
      partsKept (s.tickTo t) u [.net, .sec, .groups, .rst])) ∧
  (∀ (s : State) (t i : Nat), s.hostUp = true → i < 256 → s.sessState i = 1 →
    (s.sess i).hsAt + s.nat Obj.Ngalis.handshakeTimeout * 10000000 ≤ max s.now t →
    ∃ u, exec (.handshakeTimeout t i) s = .next u ∧ u.sessState i = 0 ∧ (u.sess i).cred = none ∧
      u.nat Obj.Ngalis.handshaking = s.nat Obj.Ngalis.handshaking - 1 ∧ partsKept (s.tickTo t) u [.net, .sec, .groups, .rst]) ∧
  (∀ (s : State) (t i seq : Nat) (body : Bytes), s.hostUp = true → i < 256 → s.sessState i = 2 →
    ∃ u, exec (.ping t i seq body) s = .next u ∧
      Emit.message i 12 (respPrefix seq 0 0 ++ (leBytes 8 (fld body 0 8) ++ time80Bytes (s.tickTo t).masterNs)) ∈ u.out ∧
      u.sessState i = 2 ∧ partsKept (s.tickTo t) u [.net]) ∧
  (∀ (s : State) (t i : Nat), s.hostUp = true → i < 256 → s.sessState i = 2 →
    (s.sess i).lastTx + s.nat Obj.Ngalis.heartbeatPeriod * 10000000 ≤ max s.now t → (s.sess i).txSeq ≤ 2 ^ 48 →
    ∃ u b, exec (.heartbeat t i) s = .next u ∧ Emit.message i 12 b ∈ u.out ∧ b.length = 16 ∧ (u.sess i).lastTx = max s.now t ∧
      (u.sess i).txSeq = (s.sess i).txSeq + 1 ∧ partsKept (s.tickTo t) u [.net]) ∧
  (∀ (s : State) (t i : Nat), s.hostUp = true → i < 256 → s.sessState i = 2 →
    (s.sess i).lastRx + s.nat Obj.Ngalis.sessionTimeout * 10000000 ≤ max s.now t →
    ∃ u, exec (.sessionTimeout t i) s = .next u ∧ raised u Ev.sessionTimeout ∧ Emit.message i 13 (leBytes 1 1 ++ leBytes 3 0) ∈ u.out ∧
      u.sessState i = 0 ∧ partsKept (s.tickTo t) u [.net, .sec, .groups, .rst, .flt]) ∧
  (∀ (s : State) (t i : Nat) (body : Bytes), s.hostUp = true → i < 256 → s.sessState i = 2 →
    ∃ u, exec (.close t i body) s = .next u ∧ raised u Ev.sessionClosed ∧ u.sessState i = 0 ∧
      (∀ x ∈ u.groups.transfers, x.sess ≠ i) ∧ partsKept (s.tickTo t) u [.net, .sec, .groups, .rst, .flt]) ∧
  (∀ (s : State) (t i : Nat) (a : Caller) (v : Bytes) (x : Val), i < 256 → s.accepts a (Obj.Session.close i) v x →
    ∃ u, exec (.sessionClose t a i v) s = .next u ∧ answered u a.sess 0 ∧ u.sessState i = 0 ∧
      (s.sessState i = 2 → raised u Ev.sessionClosed ∧ Emit.message i 13 (leBytes 1 2 ++ leBytes 3 0) ∈ u.out) ∧
      partsKept (s.tickTo t) u [.net, .sec, .groups, .rst, .flt, .dux])

/-- The crossing channels (R380-R384, R386, R389-R394): block lock brings a channel into use, its loss fails it, a retest sends LINK_TEST as one cell
on it once `RetestInterval` has passed, and 16 good ones in a row return it; LINK_STATE takes a channel that is badly received out of use, and ends a
loss; a cell is counted, a bad Check is a cell error, and a whole message waits at its island; a missing CellSeq is given up after 100 ns; every
millisecond an island sends TIME or FIELD_STATUS, and LINK_STATE; each island judges the Span lost after `LossTimeout`. -/
def Obligations.SpanChannelsCarry : Prop :=
  (∀ (s : State) (t c : Nat), c < 12 → s.nat (Obj.SpanChannel.state c) < 2 → s.chanOpen c = true →
    ∃ u, exec (.spanBlockLock t c) s = .next u ∧ u.nat (Obj.SpanChannel.state c) = 2 ∧
      bit (if c < 6 then u.span.useH2F else u.span.useF2H) (c % 6) = true ∧ bit (if c < 6 then u.span.goodH2F else u.span.goodF2H) (c % 6) = true ∧
      objectsKept s u [Obj.SpanChannel.state c, Obj.SpanControl.channelsInUse, Obj.SpanControl.capacityH2F, Obj.SpanControl.capacityF2H] ∧
      partsKept (s.tickTo t) u [.span, .net]) ∧
  (∀ (s : State) (t c : Nat), c < 12 → 2 ≤ s.nat (Obj.SpanChannel.state c) →
    ∃ u, exec (.spanChannelLockLoss t c) s = .next u ∧ u.nat (Obj.SpanChannel.state c) = 3 ∧
      bit (if c < 6 then u.span.goodH2F else u.span.goodF2H) (c % 6) = false ∧
      u.nat (Obj.SpanChannel.lockLosses c) = (s.nat (Obj.SpanChannel.lockLosses c) + 1) % 2 ^ 32 ∧
      objectsKept s u [Obj.SpanChannel.state c, Obj.SpanChannel.lockLosses c] ∧ partsKept (s.tickTo t) u [.span, .net]) ∧
  (∀ (s : State) (t c : Nat), c < 12 → 3 ≤ s.nat (Obj.SpanChannel.state c) → s.chanOpen c = true → (s.tickTo t).testDue c = true →
    ∃ u b ctrl, exec (.spanChannelRetest t c) s = .next u ∧ Emit.span (chanSender c) 0x82 b ∈ u.out ∧ b.length = 252 ∧ fld b 0 1 = c % 6 ∧
      Emit.cell c (max s.now t) ctrl b (crc32 b) ∈ u.out ∧ objectsKept s u [] ∧ partsKept (s.tickTo t) u [.span, .net]) ∧
  (∀ (s : State) (t : Nat) (side : Side) (body : Bytes), body.length = 252 →
    (match side with | .host => s.hostOn | .field => s.fieldOn) →
    let c := (match side with | .host => 6 | .field => 0) + fld body 0 1 % 6
    3 ≤ s.nat (Obj.SpanChannel.state c) →
    (∃ u, exec (.linkTest t side body true) s = .next u ∧ u.nat (Obj.SpanChannel.state c) = 4 ∧
      (u.spanChan c).tests = (s.spanChan c).tests + 1 ∧
      (16 ≤ (s.spanChan c).tests + 1 → bit (if c < 6 then u.span.goodH2F else u.span.goodF2H) (c % 6) = true) ∧
      objectsKept s u [Obj.SpanChannel.state c, Obj.SpanControl.state] ∧ partsKept (s.tickTo t) u [.span, .net]) ∧
    (∃ u, exec (.linkTest t side body false) s = .next u ∧ u.nat (Obj.SpanChannel.state c) = 3 ∧ (u.spanChan c).tests = 0 ∧
      objectsKept s u [Obj.SpanChannel.state c] ∧ partsKept (s.tickTo t) u [.span, .net])) ∧
  (∀ (s : State) (t : Nat) (side : Side) (body : Bytes), body.length = 56 →
    (match side with | .host => s.hostOn | .field => s.fieldOn) →
    ∃ u, exec (.linkState t side body) s = .next u ∧
      (∀ i < 6, bit (match side with | .host => s.span.useH2F | .field => s.span.useF2H) i = true → bit (fld body 0 1) i = false →
        bit (match side with | .host => u.span.useH2F | .field => u.span.useF2H) i = false ∧ raised u Ev.spanChannelFail) ∧
      (s.span.lostH = true ∨ s.span.lostF = true → (match side with | .host => s.span.linkF | .field => s.span.linkH) = true →
        u.span.lostH = false ∧ u.span.lostF = false ∧ raised u Ev.spanRestored ∧ u.nat Obj.SpanControl.state = 1)) ∧
  (∀ (s : State) (t c crc : Nat) (ctrl : Block) (data : Bytes), c < 12 → s.chanOpen c = true → s.nat (Obj.SpanChannel.state c) = 2 →
    (checkOk ctrl = false → bits ctrl.toNat 7 0 ≠ 0x1E → ∃ u, exec (.spanCell t c ctrl data crc) s = .next u ∧
      u.nat (Obj.SpanChannel.cellsCarried c) = (s.nat (Obj.SpanChannel.cellsCarried c) + 1) % 2 ^ 64 ∧
      (u.spanChan c).bad = ((s.spanChan c).bad + 1) % 2 ^ 32 ∧ u.span.rx = s.span.rx ∧ partsKept (s.tickTo t) u [.span, .net]) ∧
    (let x := cellOf ctrl data crc c (max s.now t)
     let r := s.cellRx (rxIx (chanSender c) (bits ctrl.toNat 18 18))
     checkOk ctrl = true → bits ctrl.toNat 7 0 = 0x5A → x.bad = false → x.first = true → x.last = true → x.seq = r.next → r.held = [] →
       r.msg = none → (c < 6 → s.firewall x.typ x.data = 0) → (6 ≤ c → shapeReason (fieldBody x.typ) x.data.length = 0) →
       ∃ u, exec (.spanCell t c ctrl data crc) s = .next u ∧
         (c < 6 → u.span.inF = s.span.inF ++ [(x.typ, x.data)] ∧ u.span.validF = max s.now t) ∧
         (6 ≤ c → u.span.inH = s.span.inH ++ [(x.typ, x.data)] ∧ u.span.validH = max s.now t) ∧
         objectsKept s u [Obj.SpanChannel.cellsCarried c] ∧ partsKept (s.tickTo t) u [.span, .net])) ∧
  (∀ (s : State) (t cls : Nat) (dir : Side),
    let ix := rxIx dir cls
    let r := s.cellRx ix
    (∃ c ∈ r.held, c.at_ + 1000 ≤ max s.now t) → (∀ c ∈ r.held, c.seq ≠ (r.next + 1) % 65536) →
    ∃ u, exec (.cellMissing t dir cls) s = .next u ∧
      u.cellRx ix = { r with next := (r.next + 1) % 65536, msg := r.msg.map (fun m => (m.1, m.2.1, true)) } ∧
      objectsKept s u ((List.range 12).flatMap (fun i => [Obj.SpanChannel.state i, Obj.SpanChannel.cellErrors i])) ∧
      partsKept (s.tickTo t) u [.span, .net]) ∧
  (∀ (s : State) (t : Nat), (∀ a, s.span.sentAt = some a → a + 10000000 ≤ max s.now t) →
    let n := (s.span.counts + 1) % 2 ^ 32
    ∃ u, exec (.spanPeriodicSend t) s = .next u ∧ u.span.counts = n ∧
      (s.hostOn → s.span.useH2F ≠ 0 → Emit.span .host 0x04 (leBytes 4 n ++ spanTimeBytes (s.tickTo t).tim.master.val ++
        leBytes 8 s.tim.master.inc) ∈ u.out ∧ ∃ b, Emit.span .host 0x81 b ∈ u.out) ∧
      (s.fieldOn → s.span.useF2H ≠ 0 → (∃ b, Emit.span .field 0x48 b ∈ u.out ∧ fld b 0 4 = n) ∧ ∃ b, Emit.span .field 0x81 b ∈ u.out) ∧
      objectsKept s u [] ∧ partsKept (s.tickTo t) u [.span, .net]) ∧
  (∀ (s : State) (t : Nat), s.fieldOn → s.rst.field.run = true → s.span.lostF = false → s.span.validF + s.span.fieldLoss * 10000000 ≤ max s.now t →
    ∃ u, exec (.spanLostField t) s = .next u ∧ u.span.lostF = true ∧ raised u Ev.spanLost ∧
      (s.span.lostH = false → u.nat Obj.SpanControl.losses = (s.nat Obj.SpanControl.losses + 1) % 2 ^ 32)) ∧
  (∀ (s : State) (t : Nat), s.hostUp = true → s.span.lostH = false → s.nat Obj.SpanControl.state = 1 →
    s.span.validH + s.nat Obj.SpanControl.lossTimeout * 10000000 ≤ max s.now t →
    ∃ u, exec (.spanLostHost t) s = .next u ∧ u.span.lostH = true ∧ u.nat Obj.SpanControl.state = 2 ∧ raised u Ev.spanLost ∧
      (∀ i < 256, s.sessState i = 2 → (u.sess i).strips = []))

/-- Messages to the host island (R345, R369, R385, R386, R388, R425, R443): DICT_RESP answers its access, DEPOSIT_ACK its STRIP; an EVENT record
enters the ring of a session that selects it, a STREAM its ring or `Drops`; BOOT_REQ is answered with BOOT_DATA; a valid BOOT_STATUS starts the field
firmware's boot; DEBUG_RESP goes to the holder of the grant; FIELD_STATUS shows the power state; TIME_ECHO and CONTROL_RESP restart the loss timeout;
a message of the wrong length is counted and discarded. -/
def Obligations.SpanMessagesReachHost : Prop :=
  (∀ (s : State) (t : Nat) (body : Bytes) (m : NetMsg), s.hostOn → shapeReason (fieldBody 0x41) body.length = 0 →
    let i := fld body 0 2
    let q := fld body 4 8
    i < 256 → s.sessState i = 2 → (s.sess i).wait.find? (fun m => m.seq == q) = some m →
    ∃ u, exec (.dictResp t body) s = .next u ∧ Emit.reply i (fld body 12 4) (body.drop 16) ∈ u.out ∧
      Emit.message i m.typ (respPrefix q 0 (fld body 12 4) ++ body.drop 16) ∈ u.out ∧
      (u.sess i).wait = (s.sess i).wait.filter (fun m => m.seq != q) ∧ partsKept (s.tickTo t) u [.span, .net]) ∧
  (∀ (s : State) (t : Nat) (body : Bytes) (w : StripWait), s.hostOn → body.length = 28 →
    let i := fld body 0 2
    (s.sess i).strips.find? (fun w => w.deposit == fld body 4 4) = some w →
    ∃ u b, exec (.depositAck t body) s = .next u ∧ Emit.message i 9 b ∈ u.out ∧ b.take 9 = leBytes 8 w.seq ++ leBytes 1 (fld body 2 1) ∧
      (u.sess i).strips = (s.sess i).strips.filter (fun v => v.deposit != w.deposit) ∧ partsKept (s.tickTo t) u [.span, .net]) ∧
  (∀ (s : State) (t i r bitN : Nat) (body : Bytes), s.hostOn → s.hostEv = [] → body.length = 36 → fld body 0 1 = 1 →
    let b := sub body 4 32
    s.openSessions = [i] → (s.sess i).selects (fld b 0 2) (fld b 2 1) = some bitN → s.ringFor i bitN = some r → s.ring r = [] →
    0 < s.nat (Obj.Ring.depth r) → i ∉ s.span.gaps →
    ∃ u d, exec (.event t body) s = .next u ∧ u.ring r = [d] ∧ d.typ = 10 ∧ d.body = gapRec b (s.sess i).gap ∧
      partsKept (s.tickTo t) u [.span, .net]) ∧
  (∀ (s : State) (t : Nat) (body : Bytes), s.hostOn → s.hostEv = [] → 24 ≤ body.length → body.length ≤ 4 + 65519 →
    let r := fld body 0 1
    r < 64 → s.nat (Obj.Ring.session r) ≠ 0xFFFF → s.nat (Obj.Ring.direction r) = 1 →
    ((s.ring r).length < s.nat (Obj.Ring.depth r) → ∃ u d, exec (.stream t body) s = .next u ∧ u.ring r = s.ring r ++ [d] ∧ d.typ = 11 ∧
      d.body = body.drop 4 ∧ objectsKept s u [Obj.SpanControl.state] ∧ partsKept (s.tickTo t) u [.span, .net]) ∧
    (s.nat (Obj.Ring.depth r) ≤ (s.ring r).length → ∃ u, exec (.stream t body) s = .next u ∧ u.ring r = s.ring r ∧
      u.nat (Obj.Ring.drops r) = (s.nat (Obj.Ring.drops r) + 1) % 2 ^ 32)) ∧
  (∀ (s : State) (t k : Nat) (body : Bytes), s.hostOn → body.length = 12 → s.bootSlot (fld body 0 1) = some k →
    let d := sub (s.slotBytes k) (fld body 4 4) (fld body 8 4)
    d ≠ [] →
    ∃ u, exec (.bootReq t body) s = .next u ∧ (fld body 0 1, fld body 1 1, fld body 4 4, fld body 8 4) ∈ u.span.bootReq ∧
      Emit.span .host 0x05 (leBytes 1 (fld body 0 1) ++ leBytes 3 0 ++ leBytes 4 (fld body 4 4) ++ d.take 32768) ∈ u.out ∧
      objectsKept s u [Obj.SpanControl.state] ∧ partsKept (s.tickTo t) u [.span, .net]) ∧
  (∀ (s : State) (t : Nat) (body : Bytes), s.hostUp = true → body.length = 8 → fld body 0 1 = 0 → fld body 1 1 = 0 → s.fieldOn →
    s.rst.field.run = false → s.sec.activateAt = none → s.bootBytes 0 ≠ [] →
    ∃ u, exec (.bootStatus t body) s = .next u ∧ u.rst.fieldStep = 6 ∧ u.nat Obj.StartControl.startStage = 6) ∧
  (∀ (s : State) (t : Nat) (body : Bytes), s.hostOn → shapeReason (fieldBody 0x47) body.length = 0 →
    ∃ u, exec (.debugResp t body) s = .next u ∧
      Emit.reply (if s.nat Obj.Debug.holder = 2 then s.nat Obj.Debug.holderSession else jtagPath) 0 body ∈ u.out ∧
      objectsKept s u [Obj.SpanControl.state] ∧ partsKept (s.tickTo t) u [.span, .net]) ∧
  (∀ (s : State) (t : Nat) (body : Bytes), s.hostOn → body.length = 8 → s.rst.recovery = false → bit (fld body 5 1) 0 = false →
    s.nat Obj.PowerControl.powerState ≠ fld body 4 1 →
    ∃ u, exec (.fieldStatus t body) s = .next u ∧ u.nat Obj.PowerControl.powerState = fld body 4 1 ∧ raised u Ev.powerStateChanged ∧
      u.nat Obj.PowerControl.transitions = (s.nat Obj.PowerControl.transitions + 1) % 2 ^ 32 ∧
      objectsKept s u [Obj.PowerControl.powerState, Obj.PowerControl.transitions, Obj.SpanControl.state] ∧
      partsKept (s.tickTo t) u [.span, .net, .flt]) ∧
  (∀ (s : State) (t : Nat) (body : Bytes), s.hostOn →
    (body.length = 20 → ∃ u, exec (.timeEcho t body) s = .next u ∧ u.span.validH = max s.now t ∧
      u.span.inH = dropFirst (0x49, body) s.span.inH ∧ objectsKept s u [Obj.SpanControl.state] ∧ partsKept (s.tickTo t) u [.span, .net]) ∧
    (body.length = 8 → ∃ u, exec (.controlResp t body) s = .next u ∧ u.span.validH = max s.now t ∧
      u.span.inH = dropFirst (0x4A, body) s.span.inH ∧ objectsKept s u [Obj.SpanControl.state] ∧ partsKept (s.tickTo t) u [.span, .net]) ∧
    (body.length ≠ 20 → ∃ u, exec (.timeEcho t body) s = .next u ∧ u.span.validH = s.span.validH ∧
      u.nat Obj.SpanFirewall.hostDiscards = (s.nat Obj.SpanFirewall.hostDiscards + 1) % 2 ^ 32 ∧
      objectsKept s u [Obj.SpanFirewall.hostDiscards] ∧ partsKept (s.tickTo t) u [.span, .net, .flt]))

/-- Messages to the field island (R331, R385-R387, R395, R427, R429, R432, R466, R498, R502): a message that the firewall bars is counted under its
reason and discarded; DICT_REQ is answered with DICT_RESP; BOOT_DATA fills the firmware region, BOOT_CTRL verifies, activates or gives it up;
SESSION_NOTE and STREAM_CREDIT are kept; a debug observation is answered, a halt acts with FULL in HOLD and is refused otherwise; CONTROL asserts a
reset, holds a power request during a transition, lowers the debug level, and sets the loss timeout within 2 to 1,000 ms. -/
def Obligations.SpanMessagesReachField : Prop :=
  (∀ (s : State) (t : Nat) (body : Bytes), s.fieldOn → s.firewall 0x09 body ≠ 0 →
    ∃ u, exec (.streamCredit t body) s = .next u ∧ u.span.credit = s.span.credit ∧
      u.nat (Obj.SpanFirewall.discards (s.firewall 0x09 body - 1)) =
        (s.nat (Obj.SpanFirewall.discards (s.firewall 0x09 body - 1)) + 1) % 2 ^ 32 ∧
      objectsKept s u [Obj.SpanFirewall.discards (s.firewall 0x09 body - 1)] ∧ partsKept (s.tickTo t) u [.span, .net, .flt]) ∧
  (∀ (s : State) (t ix sub_ : Nat) (body : Bytes) (d : Desc), s.fieldOn → s.firewall 0x01 body = 0 → fld body 3 1 = 4 → fld body 0 2 ≤ 256 →
    ix = fld body 12 2 → sub_ = fld body 14 1 → ix ∈ [0x2308, 0x3020, 0x3030, 0x4400, 0x7001, 0xA000] →
    descOf (ix * 256 + sub_) = some d → d.ty ≠ .str → d.ty ≠ .dom → s.permit (roleOf (fld body 2 1)) (ix * 256 + sub_) false = 0 →
    ∃ u, exec (.dictReq t body) s = .next u ∧
      Emit.span .field 0x41 (leBytes 2 (fld body 0 2) ++ leBytes 2 0 ++ leBytes 8 (fld body 4 8) ++ leBytes 4 0 ++
        readBody d.ty.code (encodeVal d.ty (.num (s.num (ix * 256 + sub_))))) ∈ u.out ∧
      objectsKept s u [] ∧ partsKept (s.tickTo t) u [.span, .net]) ∧
  (∀ (s : State) (t : Nat) (body : Bytes), s.fieldOn → s.firewall 0x05 body = 0 →
    ∃ u, exec (.bootData t body) s = .next u ∧
      u.bootBytes (fld body 0 1) = putBytes (s.bootBytes (fld body 0 1)) (fld body 4 4) (body.drop 8) ∧ objectsKept s u [] ∧
      partsKept (s.tickTo t) u [.span, .net]) ∧
  (∀ (s : State) (t : Nat) (body : Bytes), s.fieldOn → s.firewall 0x06 body = 0 →
    let i := fld body 0 1
    let b := s.bootBytes i
    (fld body 1 1 = 1 → ∃ u, exec (.bootCtrlVerify t body) s = .next u ∧
      let st := if s.span.badBoot.contains i then 3 else s.bootCheck b (fld body 4 4)
      Emit.span .field 0x46 (leBytes 1 i ++ leBytes 1 st ++ leBytes 2 0 ++ leBytes 4 (fld b 8 4)) ∈ u.out ∧
      (st ≠ 0 → u.bootAsked i = false) ∧ u.span.boot = s.span.boot ∧ objectsKept s u [] ∧
      partsKept (s.tickTo t) u [.span, .net]) ∧
    (fld body 1 1 = 2 → s.sec.armed = true → s.sec.activateAt = none → (∀ k < 4, ∀ p ∈ (s.plane k).pages, p.start = none) →
      ∃ u, exec (.bootCtrlActivate t body) s = .next u ∧ u.sec.activateAt = some (max s.now t) ∧ u.rst.field.run = false ∧
        u.nat Obj.Ageing.activationState = 2 ∧ u.bootAsked i = false ∧ objectsKept s u [Obj.Ageing.activationState] ∧
        partsKept (s.tickTo t) u [.span, .sec, .rst, .net]) ∧
    (fld body 1 1 = 3 → ∃ u, exec (.bootCtrlAbort t body) s = .next u ∧ u.bootBytes i = [] ∧ u.bootAsked i = false ∧ objectsKept s u [] ∧
      partsKept (s.tickTo t) u [.span, .net])) ∧
  (∀ (s : State) (t : Nat) (body : Bytes), s.fieldOn → s.firewall 0x08 body = 0 →
    ∃ u, exec (.sessionNote t body) s = .next u ∧
      (fld body 2 1 = 0 → u.notedRole (fld body 0 2) = some (fld body 3 1)) ∧ (fld body 2 1 = 1 → u.notedRole (fld body 0 2) = none) ∧
      objectsKept s u [] ∧ partsKept (s.tickTo t) u [.span, .net]) ∧
  (∀ (s : State) (t : Nat) (body : Bytes), s.fieldOn → s.firewall 0x09 body = 0 →
    ∃ u, exec (.streamCredit t body) s = .next u ∧ smGet (fun _ => 0) u.span.credit (fld body 0 1) = fld body 4 4 ∧ objectsKept s u [] ∧
      partsKept (s.tickTo t) u [.span, .net]) ∧
  (∀ (s : State) (t : Nat) (body : Bytes), s.fieldOn → s.firewall 0x07 body = 0 →
    (∃ u b, exec (.debugReq t body .observe) s = .next u ∧ Emit.span .field 0x47 b ∈ u.out ∧ fld b 0 2 = fld body 2 2 ∧ fld b 2 2 = 0 ∧
      objectsKept s u [] ∧ partsKept (s.tickTo t) u [.span, .net]) ∧
    (∃ u b, exec (.debugReq t body .halt) s = .next u ∧ Emit.span .field 0x47 b ∈ u.out ∧ fld b 0 2 = fld body 2 2 ∧
      (s.debugFull body = true → fld b 2 2 = 0 ∧ u.sec.halted = true) ∧ (s.debugFull body = false → fld b 2 2 = 1 ∧ u.sec = s.sec) ∧
      objectsKept s u [] ∧ partsKept (s.tickTo t) u [.span, .sec, .net])) ∧
  (∀ (s : State) (t : Nat) (body : Bytes), s.fieldOn → s.firewall 0x0A body = 0 →
    let answer := fun (op refused : Nat) => Emit.span .field 0x4A (leBytes 4 (fld body 4 4) ++ leBytes 1 op ++ leBytes 1 refused ++ leBytes 2 0)
    (fld body 0 1 = 1 → ∃ u, exec (.controlFieldReset t body) s = .next u ∧ answer 1 0 ∈ u.out ∧ u.rst.field.active = true ∧
      bit u.rst.field.seen 5 = true ∧ u.rst.field.reach = 2) ∧
    (fld body 0 1 = 2 → s.flag Obj.PowerControl.inTransition = true → s.pow.held = none →
      ∃ u, exec (.controlPowerState t body) s = .next u ∧ u.pow.held = some (8 * fld body 4 4 + fld body 1 1 % 8) ∧ objectsKept s u [] ∧
        partsKept (s.tickTo t) u [.span, .pow, .net]) ∧
    (fld body 0 1 = 2 → s.flag Obj.PowerControl.inTransition = false → fld body 1 1 = 0 → s.pow.state = 0 →
      ∃ u, exec (.controlPowerState t body) s = .next u ∧ answer 2 0 ∈ u.out ∧ objectsKept s u [] ∧ partsKept (s.tickTo t) u [.span, .net]) ∧
    (fld body 0 1 = 3 → ∃ u, exec (.controlCloseDebug t body) s = .next u ∧ answer 3 0 ∈ u.out ∧ u.sec = { s.sec with halted := false } ∧
      u.nat Obj.Debug.level = (if s.nat Obj.Debug.level = 2 then 1 else s.nat Obj.Debug.level) ∧ objectsKept s u [Obj.Debug.level] ∧
      partsKept (s.tickTo t) u [.span, .sec, .net]) ∧
    (fld body 0 1 = 4 → ∃ u, exec (.controlLossTimeout t body) s = .next u ∧ objectsKept s u [] ∧ partsKept (s.tickTo t) u [.span, .net] ∧
      (2 ≤ fld body 8 4 → fld body 8 4 ≤ 1000 → answer 4 0 ∈ u.out ∧ u.span.fieldLoss = fld body 8 4) ∧
      (fld body 8 4 < 2 ∨ 1000 < fld body 8 4 → answer 4 1 ∈ u.out ∧ u.span.fieldLoss = s.span.fieldLoss)))

/-- The time bases (R397, R398, R401-R405): `Increment`, `OffsetAdjust` and `TimeSet` take effect outside servo control and are refused with
0x0301_000D under it, a step is counted and reported; a TIME steps the slave by its error when the slave is unlocked or beyond `StepThreshold`, else
only trims it, and is echoed with its stamp; 3 ms without one is holdover; a PTP event message is stamped to 1 ns, corrected by its port's latency. -/
def Obligations.TimeBasesStepAndFollow : Prop :=
  (∀ (s : State) (t : Nat) (a : Caller) (v : Bytes) (n : Int), s.accepts a Obj.MasterTime.increment v (.num n) →
    (s.nat Obj.PtpServo.servoMode ≠ 1 → ∃ u, exec (.incrementWrite t a v) s = .next u ∧ answered u a.sess 0 ∧ u.num Obj.MasterTime.increment = n ∧
      u.tim = { (s.tickTo t).tim with master := { (s.tickTo t).tim.master with inc := n } } ∧
      objectsKeptFor a.sess s u [Obj.MasterTime.increment] ∧ partsKept (s.tickTo t) u [.tim, .net, .dux]) ∧
    (s.nat Obj.PtpServo.servoMode = 1 → ∃ u, exec (.incrementWrite t a v) s = .next u ∧ answered u a.sess 0x0301000D ∧
      objectsKeptFor a.sess s u [] ∧ partsKept (s.tickTo t) u [.net])) ∧
  (∀ (s : State) (t : Nat) (a : Caller) (v : Bytes) (n : Int), s.accepts a Obj.MasterTime.offsetAdjust v (.num n) →
    s.nat Obj.PtpServo.servoMode ≠ 1 →
    ∃ u, exec (.offsetAdjust t a v) s = .next u ∧ answered u a.sess 0 ∧ raised u Ev.timeStepped ∧
      u.tim.master.val = (s.tickTo t).tim.master.val + n * 2 ^ 32 ∧ u.tim.slave = (s.tickTo t).tim.slave ∧
      u.nat Obj.MasterTime.steps = (s.nat Obj.MasterTime.steps + 1) % 2 ^ 32 ∧ u.flag Obj.Security.timeTrusted = true ∧
      objectsKeptFor a.sess s u [Obj.MasterTime.steps, Obj.Security.timeTrusted] ∧ partsKept (s.tickTo t) u [.tim, .flt, .net, .dux]) ∧
  (∀ (s : State) (t : Nat) (a : Caller) (v : Bytes) (n : Int), s.accepts a Obj.MasterTime.timeSet v (.num n) →
    s.nat Obj.PtpServo.servoMode ≠ 1 →
    ∃ u, exec (.timeSet t a v) s = .next u ∧ answered u a.sess 0 ∧ raised u Ev.timeStepped ∧ u.tim.master.val = n * 2 ^ 32 ∧
      u.tim.slave = (s.tickTo t).tim.slave ∧ u.nat Obj.MasterTime.steps = (s.nat Obj.MasterTime.steps + 1) % 2 ^ 32 ∧
      objectsKeptFor a.sess s u [Obj.MasterTime.steps, Obj.Security.timeTrusted] ∧ partsKept (s.tickTo t) u [.tim, .flt, .net, .dux]) ∧
  (∀ (s : State) (t : Nat) (body : Bytes), s.fieldOn → s.firewall 0x04 body = 0 →
    let now := (s.tickTo t).tim.slave.val
    let seen := (s.span.timeAt.getD ((s.tickTo t).tim.slave.fine (max s.now t))) / 2 ^ 32 * 2 ^ 32
    let e := spanTime body 4 + 220 * 2 ^ 32 - seen
    let steps := s.nat Obj.SlaveTime.state = 0 ∨ s.nat Obj.SlaveTime.state = 3 ∨ e.natAbs > s.nat Obj.SlaveTime.stepThreshold * 2 ^ 32
    ∃ u, exec (.time t body) s = .next u ∧ Emit.span .field 0x49 (leBytes 4 (fld body 0 4) ++ spanTimeBytes seen) ∈ u.out ∧
      u.tim.lastTime = some (max s.now t) ∧ u.span.timeAt = none ∧
      u.nat Obj.SlaveTime.timesReceived = (s.nat Obj.SlaveTime.timesReceived + 1) % 2 ^ 32 ∧
      (steps → u.tim.slave.val = now + e ∧ raised u Ev.timeStepped ∧ u.nat Obj.SlaveTime.steps = (s.nat Obj.SlaveTime.steps + 1) % 2 ^ 32) ∧
      (¬steps → u.tim.slave.val = now ∧ u.nat Obj.SlaveTime.steps = s.nat Obj.SlaveTime.steps) ∧ u.tim.master = (s.tickTo t).tim.master) ∧
  (∀ (s : State) (t n : Nat), s.fieldOn → s.tim.lastTime = some n → n + 3 * 10000000 ≤ max s.now t →
    s.nat Obj.SlaveTime.state = 1 ∨ s.nat Obj.SlaveTime.state = 2 →
    ∃ u, exec (.timeHoldover t) s = .next u ∧ u.nat Obj.SlaveTime.state = 3 ∧ raised u Ev.timeHoldover ∧
      u.tim.slave = (s.tickTo t).tim.slave ∧ objectsKept s u [Obj.SlaveTime.state] ∧ partsKept (s.tickTo t) u [.tim, .flt, .net]) ∧
  (∀ (s : State) (t port : Nat) (m : PtpMessage), s.hostUp = true → s.portOn port = true →
    s.nat Obj.PtpServo.servoMode ≠ 1 ∨ s.nat Obj.PtpServo.ptpPort ≠ port ∨ m.domain ≠ s.nat Obj.PtpServo.ptpDomain →
    let ball : Int := (s.tickTo t).tim.master.fine (max s.now t) / 2 ^ 32
    let stamp : Int := if m.transmit then ball + s.num (Obj.PtpPort.egressLatency port) else ball - s.num (Obj.PtpPort.ingressLatency port)
    let one := m.transmit && s.nat (Obj.PtpPort.stepMode port) == 0
    ∃ u, exec (.ptpEventMessage t port m) s = .next u ∧
      Emit.ptp port (leBytes 1 m.kind ++ leBytes 1 (if m.transmit then 1 else 0) ++ leBytes 2 m.seq ++
        time80Bytes (if one && m.kind == 0 then stamp else m.origin) ++
        leBytes 8 (if one && m.kind == 3 then m.correction + (stamp - m.origin) else m.correction) ++ time80Bytes stamp) ∈ u.out ∧
      objectsKept s u [] ∧ partsKept (s.tickTo t) u [.net])

/-- Captures and time outputs (R408, R409): a selected edge on EVT_IN adds a record to its unit's FIFO, and is counted as lost when 16 are held; a
read of `Records` answers and removes them; PPS_OUT and EVT_OUT rise at their targets and fall after their widths. -/
def Obligations.CapturesAndTimeOutputs : Prop :=
  (∀ (s : State) (t n : Nat) (falling : Bool), s.hostOn → n < 4 → s.nat (Obj.Capture.source n) = 1 →
    (s.nat (Obj.Capture.edge n) = 2 ∨ (s.nat (Obj.Capture.edge n) = 1 ↔ falling = true)) →
    ((s.cap n).recs.length < 16 → ∃ u r, exec (.captureEvent t n falling) s = .next u ∧ (u.cap n).recs = (s.cap n).recs ++ [r] ∧
      fld r 0 4 = (s.tickTo t).stamp .host ∧ (u.cap n).seen = ((s.cap n).seen + 1) % 65536 ∧
      u.byt (Obj.Capture.records n) = (u.cap n).recs.flatten ∧ objectsKept s u [Obj.Capture.records n] ∧
      partsKept (s.tickTo t) u [.tim, .net]) ∧
    (16 ≤ (s.cap n).recs.length → ∃ u, exec (.captureEvent t n falling) s = .next u ∧ (u.cap n).recs = (s.cap n).recs ∧
      u.nat (Obj.Capture.lost n) = (s.nat (Obj.Capture.lost n) + 1) % 2 ^ 32 ∧ objectsKept s u [Obj.Capture.lost n] ∧
      partsKept (s.tickTo t) u [.tim, .net])) ∧
  (∀ (s : State) (t n : Nat) (a : Caller), n < 8 → s.hostUp = true → a.sess ≤ 256 → s.permit a.role (Obj.Capture.records n) false = 0 →
    ∃ u, exec (.captureRecordsRead t a n) s = .next u ∧ Emit.reply a.sess 0 (readBody 17 (s.byt (Obj.Capture.records n))) ∈ u.out ∧
      (u.cap n).recs = [] ∧ u.byt (Obj.Capture.records n) = [] ∧ objectsKeptFor a.sess s u [Obj.Capture.records n] ∧
      partsKept (s.tickTo t) u [.tim, .net]) ∧
  (∀ (s : State) (t : Nat), s.hostOn → s.flag Obj.TimeOutputs.ppsEnable = true →
    let target := (s.tickTo t).tim.master.ns / 1000000000 * 1000000000
    (∀ p, s.tim.ppsLast = some p → p < target) →
    ∃ u, exec (.ppsOut t) s = .next u ∧ Emit.pin .ppsOut true ∈ u.out ∧ u.tim.ppsHigh = true ∧ u.tim.ppsLast = some target ∧ objectsKept s u [] ∧
      partsKept (s.tickTo t) u [.tim, .net]) ∧
  (∀ (s : State) (t n : Nat) (target : Int), s.hostOn → n < 2 →
    evtTarget (s.nat (Obj.TimeOutputs.mode n)) (s.num (Obj.TimeOutputs.start n)) (s.num (Obj.TimeOutputs.period n)) (s.tickTo t).tim.master.ns
      = some target → smGet (fun _ => (-1 : Int)) s.tim.evtLast n < target →
    ∃ u, exec (.evtOut t n) s = .next u ∧ Emit.pin (.evtOut n) true ∈ u.out ∧ smGet (fun _ => (-1 : Int)) u.tim.evtLast n = target ∧
      n ∈ u.tim.evtHigh ∧ objectsKept s u [] ∧ partsKept (s.tickTo t) u [.tim, .net]) ∧
  (∀ (s : State) (t : Nat), s.hostOn → s.tim.ppsHigh = true →
    (s.tim.ppsLast.getD 0) + s.num Obj.TimeOutputs.ppsWidth ≤ (s.tickTo t).tim.master.ns →
    ∃ u, exec (.timeOutputEnd t 2) s = .next u ∧ Emit.pin .ppsOut false ∈ u.out ∧ u.tim.ppsHigh = false ∧ objectsKept s u [] ∧
      partsKept (s.tickTo t) u [.tim, .net]) ∧
  (∀ (s : State) (t n : Nat), s.hostOn → n < 2 → n ∈ s.tim.evtHigh →
    smGet (fun _ => (-1 : Int)) s.tim.evtLast n + s.num (Obj.TimeOutputs.width n) ≤ (s.tickTo t).tim.master.ns →
    ∃ u, exec (.timeOutputEnd t n) s = .next u ∧ Emit.pin (.evtOut n) false ∈ u.out ∧ n ∉ u.tim.evtHigh ∧ objectsKept s u [] ∧
      partsKept (s.tickTo t) u [.tim, .net])

/-- Crystals, domains, gates and meters (R411-R413, R415-R419): the sixteenth consistent good window accepts the crystal and moves both domains to it,
a bad one starts the series again; no acceptance within the timeout fails it; its loss moves the domains to the oscillator; a `Source` whose bit of
`Ready` is clear is refused with 0x0402_0001; a forced switch is taken and reported; gate writes are refused while the block is in use; a forced close
cuts the transfer behind it, and one that no transfer holds any more is over; a meter shows its count and frequency, 0 for a clock that has stopped.
-/
def Obligations.ClocksAndGatesSwitch : Prop :=
  (∀ (s : State) (t count : Nat) (isl : Side), (match isl with | .host => s.hostOn | .field => s.fieldOn) → s.nat (xtalState isl) = 0 →
    let good := 24250 ≤ count ∧ count ≤ 25750 ∧ consistent (s.xtal isl).series count = true
    (good → (s.xtal isl).series.length = 15 → ∃ u, exec (.xtalWindow t isl count) s = .next u ∧ u.nat (xtalState isl) = 1 ∧
      raised u Ev.xtalAccepted ∧ ∀ d ∈ domainsOf isl, u.nat (Obj.DomainSwitch.inUse d) = 1 ∧ u.nat (Obj.DomainSwitch.source d) = 1 ∧
        u.nat (Obj.DomainSwitch.ready d) = 3) ∧
    (good → (s.xtal isl).series.length < 15 → ∃ u, exec (.xtalWindow t isl count) s = .next u ∧ u.nat (xtalState isl) = 0 ∧
      (u.xtal isl).series = (s.xtal isl).series ++ [count] ∧ partsKept (s.tickTo t) u [.pow, .net]) ∧
    (¬good → ∃ u, exec (.xtalWindow t isl count) s = .next u ∧ u.nat (xtalState isl) = 0 ∧ (u.xtal isl).series = [] ∧
      u.nat (Obj.Clocks.goodWindows (sideIx isl)) = 0 ∧
      objectsKept s u [Obj.Clocks.lastCount (sideIx isl), Obj.Clocks.goodWindows (sideIx isl)] ∧ partsKept (s.tickTo t) u [.pow, .net])) ∧
  (∀ (s : State) (t : Nat) (isl : Side), (match isl with | .host => s.hostOn | .field => s.fieldOn) → s.nat (xtalState isl) = 0 →
    (s.episode isl).released + s.nat (Obj.Clocks.xtalTimeout (sideIx isl)) * 10000000 ≤ max s.now t →
    ∃ u, exec (.xtalFailed t isl) s = .next u ∧ u.nat (xtalState isl) = 2 ∧ raised u Ev.xtalFailed ∧ objectsKept s u [xtalState isl] ∧
      partsKept (s.tickTo t) u [.flt, .net]) ∧
  (∀ (s : State) (t : Nat) (isl : Side), (match isl with | .host => s.hostOn | .field => s.fieldOn) → s.nat (xtalState isl) = 1 →
    ∃ u, exec (.xtalLost t isl) s = .next u ∧ u.nat (xtalState isl) = 3 ∧ raised u Ev.xtalLost ∧
      (∀ d ∈ domainsOf isl, u.nat (Obj.DomainSwitch.ready d) = 1 ∧ u.nat (Obj.DomainSwitch.source d) = 0 ∧
        (s.nat (Obj.DomainSwitch.inUse d) = 1 → (d, 0) ∈ u.pow.muxWait))) ∧
  (∀ (s : State) (t d n : Nat) (a : Caller) (v : Bytes), d < 4 → s.accepts a (Obj.DomainSwitch.source d) v (.num n) →
    (bit (s.nat (Obj.DomainSwitch.ready d)) n = true → d < 2 ∨ (s.anyPlane = false ∧ s.anyCamera = false) →
      ∃ u, exec (.domainSourceSwitch t a d v) s = .next u ∧ answered u a.sess 0 ∧ u.nat (Obj.DomainSwitch.source d) = n ∧
        u.nat (Obj.DomainSwitch.inUse d) = n ∧ objectsKeptFor a.sess s u [Obj.DomainSwitch.source d, Obj.DomainSwitch.inUse d,
          Obj.DomainSwitch.switches d, Obj.MasterTime.source] ∧ partsKept (s.tickTo t) u [.net, .dux]) ∧
    (bit (s.nat (Obj.DomainSwitch.ready d)) n = false → ∃ u, exec (.domainSourceSwitch t a d v) s = .next u ∧ answered u a.sess 0x04020001 ∧
      objectsKeptFor a.sess s u [] ∧ partsKept (s.tickTo t) u [.net])) ∧
  (∀ (s : State) (t d : Nat) (w : Nat × Nat), d < 4 → (match domainSide d with | .host => s.hostOn | .field => s.fieldOn) →
    s.pow.muxWait.find? (fun w => w.1 == d) = some w →
    ∃ u, exec (.clockSwitchForced t d) s = .next u ∧ u.nat (Obj.DomainSwitch.inUse d) = w.2 ∧ u.flag (Obj.DomainSwitch.forced d) = true ∧
      raised u Ev.clockSwitchForced ∧ objectsKept s u [Obj.DomainSwitch.inUse d, Obj.DomainSwitch.switches d, Obj.DomainSwitch.forced d,
        Obj.MasterTime.source] ∧ partsKept (s.tickTo t) u [.pow, .flt, .net]) ∧
  (∀ (s : State) (t n : Nat) (a : Caller) (v : Bytes),
    (s.accepts a Obj.HostGates.enable v (.num n) → (5 ∈ closing (s.nat Obj.HostGates.enable) n 6 → s.flash.saving = none) →
      ∃ u, exec (.gateWrite t a .host v) s = .next u ∧ answered u a.sess 0 ∧ u.nat Obj.HostGates.enable = n ∧
        ∀ b < 5, b ∈ closing (s.nat Obj.HostGates.enable) n 6 → u.flag (Obj.HostPort.linkState b) = false) ∧
    (s.accepts a Obj.FieldGates.enable v (.num n) →
      ((∀ b ∈ closing (s.nat Obj.FieldGates.enable) n 31, s.closeAbort b = 0) →
        ∃ u, exec (.gateWrite t a .field v) s = .next u ∧ answered u a.sess 0 ∧ u.nat Obj.FieldGates.enable = n) ∧
      (∀ b, (closing (s.nat Obj.FieldGates.enable) n 31).find? (fun b => s.closeAbort b != 0) = some b →
        ∃ u, exec (.gateWrite t a .field v) s = .next u ∧ answered u a.sess (s.closeAbort b) ∧ objectsKeptFor a.sess s u [] ∧
          partsKept (s.tickTo t) u [.net]))) ∧
  (∀ (s : State) (t b i : Nat) (isl : Side), (match isl with | .host => s.hostOn | .field => s.fieldOn) → i < 256 →
    (sideIx isl, b) ∈ s.pow.gateWait →
    let cut := fun (x : Transfer) => x.sess == i && gateOf (x.key / 256) == some (isl == .host, b)
    (s.portBusy (isl == .host) b = true → ∃ u, exec (.gateForced t isl b i) s = .next u ∧ raised u Ev.gateForced ∧
      (sideIx isl, b) ∉ u.pow.gateWait ∧ u.groups.transfers = s.groups.transfers.filter (fun x => !cut x) ∧
      (s.groups.transfers.any cut = true → answered u i 0x04010002) ∧
      objectsKeptFor i s u [Obj.HostGates.gatesForced, Obj.FieldGates.gatesForced] ∧ partsKept (s.tickTo t) u [.pow, .groups, .flt, .net]) ∧
    (s.portBusy (isl == .host) b = false → ∃ u, exec (.gateForced t isl b i) s = .next u ∧
      u.pow = { s.pow with gateWait := s.pow.gateWait.filter (· != (sideIx isl, b)) } ∧ objectsKept s u [] ∧
      partsKept (s.tickTo t) u [.pow, .net])) ∧
  (∀ (s : State) (t : Nat) (a : Caller) (v : Bytes) (x : Val) (isl : Side), s.accepts a (Obj.Meter.start (sideIx isl)) v x →
    ∃ u, exec (.meterStart t a isl v) s = .next u ∧ answered u a.sess 0 ∧ u.flag (Obj.Meter.busy (sideIx isl)) = true ∧
      objectsKeptFor a.sess s u [Obj.Meter.busy (sideIx isl)] ∧ partsKept (s.tickTo t) u [.net, .dux]) ∧
  (∀ (s : State) (t count : Nat) (isl : Side), (match isl with | .host => s.hostOn | .field => s.fieldOn) →
    s.flag (Obj.Meter.busy (sideIx isl)) = true →
    let got := if s.clockStopped isl (s.nat (Obj.Meter.target (sideIx isl))) then 0 else count
    ∃ u, exec (.meterDone t isl count) s = .next u ∧ u.flag (Obj.Meter.busy (sideIx isl)) = false ∧ u.nat (Obj.Meter.count (sideIx isl)) = got ∧
      u.nat (Obj.Meter.frequency (sideIx isl)) =
        got * s.meterKhz isl (s.nat (Obj.Meter.reference (sideIx isl))) / max (s.nat (Obj.Meter.window (sideIx isl))) 1 ∧
      objectsKept s u [Obj.Meter.busy (sideIx isl), Obj.Meter.count (sideIx isl), Obj.Meter.frequency (sideIx isl)] ∧
      partsKept (s.tickTo t) u [.net])

/-- Operating points (R420-R424): an `OpTarget` that covers the need starts a raise with a voltage write, one that does not is refused; a good status
starts the voltage poll, a voltage within 10 mV the settle time; the point changes once that has passed with the PLL locked; a lowering switches at
the lock and writes the voltage after; a bad status or a late step fails the transition, a raise keeps its point and the writes that waited are
refused with 0x0402_0001. No write waits here but in that last case, and no power request is held. -/
def Obligations.OperatingPointsMove : Prop :=
  (∀ (s : State) (t n : Nat) (a : Caller) (v : Bytes), s.accepts a Obj.Dvfs.opTarget v (.num n) →
    (max s.needNow.1 s.needNow.2 ≤ s.opFreq n → s.pow.state ≠ 2 → s.pow.dvfs.step = .idle → s.nat Obj.Dvfs.opInForce < n →
      ∃ u, exec (.opTarget t a v) s = .next u ∧ answered u a.sess 0 ∧ u.nat Obj.Dvfs.opTarget = n ∧
        Emit.avs (s.opVolt (s.nat Obj.Dvfs.opInForce + 1)) ∈ u.out ∧
        u.pow.dvfs = { step := .raiseStatus, next := s.nat Obj.Dvfs.opInForce + 1, target := n, start := max s.now t, settle := none, locked := false } ∧
        objectsKeptFor a.sess s u [Obj.Dvfs.opTarget] ∧ partsKept (s.tickTo t) u [.pow, .net, .dux]) ∧
    (s.opFreq n < max s.needNow.1 s.needNow.2 → ∃ u, exec (.opTarget t a v) s = .next u ∧
      answered u a.sess (if s.needNow.2 ≤ s.needNow.1 then 0x03010001 else 0x03010005) ∧ objectsKeptFor a.sess s u [] ∧
      partsKept (s.tickTo t) u [.net])) ∧
  (∀ (s : State) (t : Nat), s.fieldOn → s.pow.dvfs.step = .raiseStatus →
    (∃ u, exec (.avsStatus t true) s = .next u ∧ u.pow = { s.pow with dvfs := { s.pow.dvfs with step := .raisePoll } } ∧ objectsKept s u [] ∧
      partsKept (s.tickTo t) u [.pow, .net]) ∧
    (s.nat Obj.Dvfs.opInForce ≤ s.pow.dvfs.target → s.pow.held = none → (∀ x ∈ s.pow.later, x.2.1 ≠ Obj.PowerControl.powerRequest) →
      ∃ u, exec (.avsStatus t false) s = .next u ∧ raised u Ev.dvfsFailed ∧ Emit.avs (s.opVolt (s.nat Obj.Dvfs.opInForce)) ∈ u.out ∧
        u.nat Obj.Dvfs.opInForce = s.nat Obj.Dvfs.opInForce ∧ u.pow.dvfs.step = .idle ∧ u.pow.later = [] ∧
        u.nat Obj.Dvfs.dvfsFailures = (s.nat Obj.Dvfs.dvfsFailures + 1) % 2 ^ 32 ∧
        ∀ x ∈ s.pow.later, x.1 ≤ 256 → answered u x.1 0x04020001)) ∧
  (∀ (s : State) (t : Nat), s.fieldOn → s.pow.dvfs.step = .lowerStatus → s.pow.later = [] → s.pow.held = none →
    (s.pow.dvfs.target = s.nat Obj.Dvfs.opInForce → ∃ u, exec (.avsStatus t true) s = .next u ∧ u.pow.dvfs.step = .idle ∧
      u.flag Obj.Dvfs.voltageError = false ∧ u.nat Obj.Dvfs.dvfsTransitions = (s.nat Obj.Dvfs.dvfsTransitions + 1) % 2 ^ 32 ∧
      objectsKept s u [Obj.Dvfs.voltageError, Obj.Dvfs.dvfsTransitions, Obj.PowerControl.inTransition] ∧ partsKept (s.tickTo t) u [.pow, .net]) ∧
    (s.pow.dvfs.target ≤ s.nat Obj.Dvfs.opInForce → ∃ u, exec (.avsStatus t false) s = .next u ∧ raised u Ev.dvfsFailed ∧
      u.flag Obj.Dvfs.voltageError = true ∧ u.nat Obj.Dvfs.opInForce = s.nat Obj.Dvfs.opInForce ∧ u.pow.dvfs.step = .idle ∧
      objectsKept s u [Obj.Dvfs.voltageError, Obj.Dvfs.dvfsFailures, Obj.PowerControl.inTransition] ∧ partsKept (s.tickTo t) u [.pow, .flt, .net])) ∧
  (∀ (s : State) (t mv : Nat), s.fieldOn → s.pow.dvfs.step = .raisePoll → mv ≤ s.opVolt s.pow.dvfs.next + 10 →
    s.opVolt s.pow.dvfs.next ≤ mv + 10 →
    ∃ u, exec (.avsVoltagePoll t mv) s = .next u ∧
      u.pow.dvfs = { s.pow.dvfs with step := .raiseSettle, settle := some (max s.now t + s.nat Obj.Dvfs.settleTime * 10000) } ∧ objectsKept s u [] ∧
      partsKept (s.tickTo t) u [.pow, .net]) ∧
  (∀ (s : State) (t : Nat), s.fieldOn →
    (s.pow.dvfs.step = .lowerLock → ∃ u, exec (.dvfsPllLock t) s = .next u ∧ u.nat Obj.Dvfs.opInForce = s.pow.dvfs.next ∧
      Emit.avs (s.opVolt s.pow.dvfs.next) ∈ u.out ∧ u.pow.dvfs = { s.pow.dvfs with step := .lowerStatus, locked := true, start := max s.now t } ∧
      objectsKept s u [Obj.Dvfs.opInForce] ∧ partsKept (s.tickTo t) u [.pow, .net]) ∧
    (s.pow.dvfs.step = .raiseStatus ∨ s.pow.dvfs.step = .raisePoll → ∃ u, exec (.dvfsPllLock t) s = .next u ∧
      u.pow.dvfs = { s.pow.dvfs with locked := true } ∧ objectsKept s u [] ∧ partsKept (s.tickTo t) u [.pow, .net])) ∧
  (∀ (s : State) (t e : Nat), s.fieldOn → s.pow.dvfs.step = .raiseSettle → s.pow.dvfs.settle = some e → e ≤ max s.now t →
    s.pow.dvfs.locked = true → s.pow.later = [] → s.pow.held = none → s.pow.dvfs.target = s.pow.dvfs.next →
    ∃ u, exec (.settleTimeEnd t) s = .next u ∧ u.nat Obj.Dvfs.opInForce = s.pow.dvfs.next ∧ u.pow.dvfs.step = .idle ∧
      u.flag Obj.Dvfs.voltageError = false ∧ u.nat Obj.Dvfs.dvfsTransitions = (s.nat Obj.Dvfs.dvfsTransitions + 1) % 2 ^ 32 ∧
      objectsKept s u [Obj.Dvfs.opInForce, Obj.Dvfs.voltageError, Obj.Dvfs.dvfsTransitions, Obj.PowerControl.inTransition] ∧
      partsKept (s.tickTo t) u [.pow, .net]) ∧
  (∀ (s : State) (t : Nat), s.fieldOn → s.pow.dvfs.step ≠ .idle → s.pow.dvfs.start + s.pow.dvfs.step.bound ≤ max s.now t →
    s.pow.later = [] → s.pow.held = none →
    ∃ u, exec (.dvfsStepTimeout t) s = .next u ∧ raised u Ev.dvfsFailed ∧ u.nat Obj.Dvfs.opInForce = s.nat Obj.Dvfs.opInForce ∧
      u.nat Obj.Dvfs.dvfsFailures = (s.nat Obj.Dvfs.dvfsFailures + 1) % 2 ^ 32 ∧
      objectsKept s u [Obj.Dvfs.dvfsFailures, Obj.Dvfs.voltageError, Obj.PowerControl.inTransition] ∧ partsKept (s.tickTo t) u [.pow, .flt, .net])

/-- Power requests (R427-R429): an accepted request is recorded and crosses in a CONTROL message; RUN is refused while the overrun latch is set, while
a subchannel has failed, or where the debug rules bar it; in RECOVERY and OFF all but OFF is refused with 0x0303_0002; a request for HOLD clears
`HoldCause`. -/
def Obligations.PowerRequestsCross : Prop :=
  (∀ (s : State) (t n : Nat) (a : Caller) (v : Bytes), s.accepts a Obj.PowerControl.powerRequest v (.num n) → n ≤ 3 →
    (s.nat Obj.PowerControl.powerState < 3 ∨ n = 3) →
    (n = 0 → s.flag Obj.FaultControl.overrunLatched = false ∧ (s.nat Obj.PowerControl.powerState = 0 ∨
      s.dramFailed = false ∧ s.debugBarsRun = false)) →
    let crosses := fun (u : State) => answered u a.sess 0 ∧ u.nat Obj.PowerControl.powerRequest = n ∧
      Emit.span .host 0x0A (leBytes 1 2 ++ leBytes 1 n ++ leBytes 2 0 ++ leBytes 4 s.span.counts ++ leBytes 4 0) ∈ u.out ∧
      u.num Obj.PowerControl.holdCause = (if n = 1 then 0 else s.num Obj.PowerControl.holdCause) ∧
      objectsKeptFor a.sess s u [Obj.PowerControl.powerRequest, Obj.PowerControl.holdCause] ∧
      partsKept (s.tickTo t) u [.net, .dux]
    (n = 0 → ∃ u, exec (.powerRequestRun t a v) s = .next u ∧ crosses u) ∧
    (n = 1 → ∃ u, exec (.powerRequestHold t a v) s = .next u ∧ crosses u) ∧
    (n = 2 → ∃ u, exec (.powerRequestStandby t a v) s = .next u ∧ crosses u) ∧
    (n = 3 → ∃ u, exec (.powerRequestOff t a v) s = .next u ∧ crosses u)) ∧
  (∀ (s : State) (t : Nat) (a : Caller) (v : Bytes), s.accepts a Obj.PowerControl.powerRequest v (.num 0) →
    (3 ≤ s.nat Obj.PowerControl.powerState → ∃ u, exec (.powerRequestRun t a v) s = .next u ∧ answered u a.sess 0x03030002 ∧
      objectsKeptFor a.sess s u [] ∧ partsKept (s.tickTo t) u [.net]) ∧
    (s.nat Obj.PowerControl.powerState < 3 → s.flag Obj.FaultControl.overrunLatched = true →
      ∃ u, exec (.powerRequestRun t a v) s = .next u ∧ answered u a.sess 0x03010002 ∧ objectsKeptFor a.sess s u [] ∧
      partsKept (s.tickTo t) u [.net]) ∧
    (0 < s.nat Obj.PowerControl.powerState → s.nat Obj.PowerControl.powerState < 3 → s.flag Obj.FaultControl.overrunLatched = false →
      s.dramFailed = true ∨ s.debugBarsRun = true →
      ∃ u, exec (.powerRequestRun t a v) s = .next u ∧ answered u a.sess (if s.dramFailed then 0x03030001 else 0x05010001) ∧
      objectsKeptFor a.sess s u [] ∧ partsKept (s.tickTo t) u [.net])) ∧
  (∀ (s : State) (t n : Nat) (a : Caller) (v : Bytes), s.accepts a Obj.PowerControl.powerRequest v (.num n) →
    3 ≤ s.nat Obj.PowerControl.powerState →
    (n = 1 → ∃ u, exec (.powerRequestHold t a v) s = .next u ∧ answered u a.sess 0x03030002 ∧ objectsKeptFor a.sess s u [] ∧
      partsKept (s.tickTo t) u [.net]) ∧
    (n = 2 → ∃ u, exec (.powerRequestStandby t a v) s = .next u ∧ answered u a.sess 0x03030002 ∧ objectsKeptFor a.sess s u [] ∧
      partsKept (s.tickTo t) u [.net]))

/-- Reset sources (R431-R436, R446, R503, R532, R536): power-on, a rail dip of more than 2 µs, a reset pin, the watchdogs, a thermal trip and the
software resets each open an episode with their number and reach (0 COLD, 1 WARM, 2 ISLAND) on their islands, and clear what the reach covers; the
boot watchdog counts a boot attempt. A source released leaves the episode to its release; a dip of 2 µs or less does nothing. A software reset answers
first. The lengths of pulses are those of log entries 75 to 79. -/
def Obligations.ResetSourcesAssert : Prop :=
  (∀ (s : State) (t dur : Nat) (isl : Side), s.noEpisode isl →
    (∃ u, exec (.powerOnReset t isl true) s = .next u ∧ u.episode isl = opened (s.episode isl) 0 0 none ∧ Emit.hiZ isl ∈ u.out ∧
      cleared (s.tickTo t) u isl) ∧
    (∃ u, exec (.resetPin t isl true) s = .next u ∧ u.episode isl = opened (s.episode isl) 1 2 none ∧ cleared (s.tickTo t) u isl) ∧
    (2000 < dur → ∃ u, exec (.railDip t isl dur) s = .next u ∧
      u.episode isl = opened (s.episode isl) 0 0 (some (max s.now t + 10 * dur + 100000000)) ∧ cleared (s.tickTo t) u isl)) ∧
  (∀ (s : State) (t dur : Nat) (isl : Side), dur ≤ 2000 →
    ∃ u, exec (.railDip t isl dur) s = .next u ∧ objectsKept s u [] ∧ partsKept (s.tickTo t) u [.net]) ∧
  (∀ (s : State) (t : Nat) (isl : Side),
    let rel := fun (u : State) (src hold : Nat) =>
      u.episode isl = { s.episode isl with asserted := setBit (s.episode isl).asserted src false, pulseEnd := max (s.episode isl).pulseEnd hold } ∧
      objectsKept s u [] ∧ partsKept (s.tickTo t) u [.rst, .net]
    (bit (s.episode isl).asserted 0 = true → ∃ u, exec (.powerOnReset t isl false) s = .next u ∧ rel u 0 (max s.now t + 100000000)) ∧
    (bit (s.episode isl).asserted 1 = true → ∃ u, exec (.resetPin t isl false) s = .next u ∧ rel u 1 (max s.now t))) ∧
  (∀ (s : State) (t : Nat) (isl : Side), (s.episode isl).active = false → (s.episode isl).run = true → isl = .host ∨ s.role ≠ 1 →
    ∃ u, exec (.islandWatchdog t isl) s = .next u ∧ u.episode isl = opened (s.episode isl) 2 2 (some (max s.now t + 1000000)) ∧
      cleared (s.tickTo t) u isl) ∧
  (∀ (s : State) (t w : Nat), s.noEpisode .host → s.noEpisode .field → s.rst.watchdog = some w → s.rst.recovery = false →
    w + s.nat Obj.StartControl.bootWatchdog * 10000000 ≤ max s.now t →
    ∃ u, exec (.bootWatchdog t) s = .next u ∧ u.nat Obj.StartControl.bootAttempts = min 255 (s.nat Obj.StartControl.bootAttempts + 1) ∧
      u.rst.watchdog = none ∧ raised u Ev.startFailed ∧
      ∀ isl, u.episode isl = opened (s.episode isl) 3 1 (some (max s.now t + 1000000))) ∧
  (∀ (s : State) (t : Nat) (temp : Int), s.noEpisode .host → s.noEpisode .field → 125 ≤ temp →
    ∃ u, exec (.thermalTrip t temp) s = .next u ∧ ∀ isl, u.episode isl = opened (s.episode isl) 6 1 none ∧ cleared (s.tickTo t) u isl) ∧
  (∀ (s : State) (t : Nat) (temp : Int), temp < 115 → bit s.rst.host.asserted 6 = true → bit s.rst.field.asserted 6 = true →
    ∃ u, exec (.thermalTrip t temp) s = .next u ∧ objectsKept s u [] ∧ partsKept (s.tickTo t) u [.rst, .net] ∧
      ∀ isl, u.episode isl = { s.episode isl with
        asserted := setBit (s.episode isl).asserted 6 false, pulseEnd := max (s.episode isl).pulseEnd (max s.now t) }) ∧
  (∀ (s : State) (t : Nat) (a : Caller) (v : Bytes),
    let soft := some (max s.now t + 11000000)
    (s.accepts a Obj.StartControl.warmReset v (.num 1) → s.noEpisode .field → ∃ u, exec (.warmReset t a v) s = .next u ∧ answered u a.sess 0 ∧
      ∀ isl, u.episode isl = opened (s.episode isl) 4 1 soft ∧ cleared (s.tickTo t) u isl) ∧
    (s.accepts a Obj.StartControl.warmReset v (.num 2) → ∃ u, exec (.hostIslandReset t a v) s = .next u ∧ answered u a.sess 0 ∧
      u.rst.host = opened s.rst.host 5 2 soft ∧ u.rst.field = s.rst.field ∧ cleared (s.tickTo t) u .host) ∧
    (s.accepts a Obj.StartControl.warmReset v (.num 3) → s.noEpisode .field → ∃ u, exec (.fieldIslandReset t a v) s = .next u ∧
      answered u a.sess 0 ∧ u.rst.field = opened s.rst.field 5 2 soft ∧ u.rst.host = s.rst.host ∧ cleared (s.tickTo t) u .field))

/-- Leaving reset and RECOVERY (R433, R434, R439-R441, R446-R449): when every source has released, a COLD sequence loads the fuses and any other
reaches its release point, where the cause is recorded and the boot watchdog starts; three failed starts, or a fuse fault that stands, enter RECOVERY,
before SCRAPPED. A load that fails is repeated up to three times. `RecoveryExit` resets both islands unless a fuse fault caused the RECOVERY. -/
def Obligations.ResetsReleaseOrRecover : Prop :=
  (∀ (s : State) (t : Nat) (isl : Side), (s.episode isl).active = true → (s.episode isl).seen ≠ 0 → (s.episode isl).loading = false →
    (s.episode isl).asserted = 0 → (s.episode isl).pulseEnd ≤ max s.now t →
    ((s.episode isl).reach = 0 → ∃ u, exec (.resetRelease t isl) s = .next u ∧
      u.episode isl = { s.episode isl with loading := true, failed := 0, released := max s.now t }) ∧
    ((s.episode isl).reach ≠ 0 → s.rst.recovery = false → s.lifecycle ≠ 4 →
      isl = .field ∨ s.fuseFault = false ∧ s.nat Obj.StartControl.bootAttempts < 3 →
      ∃ u, exec (.resetRelease t isl) s = .next u ∧ u.episode isl = atRelease (s.episode isl) (max s.now t) ∧
        u.nat (Obj.ResetCause.sources (sideIx isl)) = (s.episode isl).seen ∧ u.nat (Obj.ResetCause.reach (sideIx isl)) = (s.episode isl).reach ∧
        u.nat (Obj.ResetCause.releaseStamp (sideIx isl)) = (s.tickTo t).stamp isl ∧ u.rst.watchdog = some (max s.now t) ∧
        u.nat Obj.StartControl.startStage = 1 ∧
        objectsKept s u ([Obj.ResetCause.sources (sideIx isl), Obj.ResetCause.reach (sideIx isl), Obj.ResetCause.releaseStamp (sideIx isl),
          Obj.StartControl.startStage, Obj.StayLane.state 0, Obj.StayLane.state 1] ++ (List.range 12).map Obj.SpanChannel.state) ∧ partsKept (s.tickTo t) u [.rst, .net]) ∧
    ((s.episode isl).reach ≠ 0 → s.rst.recovery = false → isl = .host → s.lifecycle ≠ 4 →
      s.fuseFault = true ∨ 3 ≤ s.nat Obj.StartControl.bootAttempts →
      ∃ u, exec (.resetRelease t isl) s = .next u ∧ u.rst.host = atRelease s.rst.host (max s.now t) ∧ u.rst.recovery = true ∧
        u.rst.field.active = true ∧ u.nat Obj.StartControl.recoveryCause = (if s.fuseFault then 2 else 1) ∧ u.nat Obj.PowerControl.powerState = 3 ∧
        u.flag Obj.FaultControl.faultNState = true ∧ raised u Ev.recoveryEntered)) ∧
  (∀ (s : State) (t : Nat) (isl : Side) (fails : List Bool) (differ : Bool), (s.episode isl).active = true → (s.episode isl).seen ≠ 0 →
    (s.episode isl).loading = true → (s.episode isl).released + 400000 * ((s.episode isl).failed + 1) ≤ max s.now t →
    let mine := fails.take (match isl with | .host => 3 | .field => 2)
    (true ∉ mine → differ = false → (s.episode isl).reach = 0 → s.rst.recovery = false →
      isl = .field ∨ s.lifecycle ≠ 4 ∧ s.nat (Obj.FuseStatus.bankState 1) = 0 ∧ s.nat Obj.StartControl.bootAttempts < 3 →
      ∃ u, exec (.fuseLoadEnd t isl fails differ) s = .next u ∧ u.episode isl = atRelease (s.episode isl) (max s.now t) ∧
        u.nat (Obj.FuseStatus.bankState (sideIx isl)) = 0 ∧ u.nat (Obj.FuseStatus.loadAttempts (sideIx isl)) = (s.episode isl).failed + 1 ∧
        u.nat Obj.StartControl.startStage = 2 ∧ partsKept (s.tickTo t) u [.rst, .net]) ∧
    (true ∈ mine → (s.episode isl).failed < 2 → ∃ u, exec (.fuseLoadEnd t isl fails differ) s = .next u ∧
      u.episode isl = { s.episode isl with failed := (s.episode isl).failed + 1 } ∧ objectsKept s u [Obj.FuseStatus.loadAttempts (sideIx isl)] ∧
      partsKept (s.tickTo t) u [.rst, .net]) ∧
    (true ∈ mine → 2 ≤ (s.episode isl).failed → ∃ u, exec (.fuseLoadEnd t isl fails differ) s = .next u ∧ raised u Ev.fuseFault ∧
      u.rst.recovery = true ∧ u.nat Obj.StartControl.recoveryCause = 2)) ∧
  (∀ (s : State) (t : Nat) (a : Caller) (v : Bytes) (x : Val), s.accepts a Obj.StartControl.recoveryExit v x →
    (s.rst.recovery = true → s.nat Obj.StartControl.recoveryCause = 2 → ∃ u, exec (.recoveryExit t a v) s = .next u ∧
      answered u a.sess 0x03010002 ∧ objectsKeptFor a.sess s u [] ∧ partsKept (s.tickTo t) u [.net]) ∧
    (s.nat Obj.StartControl.recoveryCause ≠ 2 → s.noEpisode .field → ∃ u, exec (.recoveryExit t a v) s = .next u ∧ answered u a.sess 0 ∧
      u.nat Obj.StartControl.bootAttempts = 0 ∧ u.rst.recovery = false ∧
      ∀ isl, u.episode isl = opened (s.episode isl) 4 1 (some (max s.now t + 11000000))))

/-- Start-up (R443-R448, R497, R498): host firmware runs from the chosen slot and opens the gates of its ports (MGMT and the flash alone in RECOVERY);
the field island runs its image unless an image of a higher SecurityVersion ran before; with training and bring-up settled the gates of the present
blocks open, HOLD is entered and FAULT_N follows its latches; `StartComplete` then stops the boot watchdog, at once or when the host confirms. -/
def Obligations.StartUpRunsItsSteps : Prop :=
  (∀ (s : State) (t k : Nat), s.hostOn → s.rst.host.run = false → s.nat (xtalState .host) = 1 → s.chooseSlot 0 = some k →
    (s.rst.recovery = true → ∃ u, exec (.hostBoot t) s = .next u ∧ u.rst.host = { s.rst.host with run := true } ∧
      u.nat Obj.StartControl.startStage = 4 ∧ u.nat Obj.HostGates.enable = 0x30 ∧ u.flag (Obj.FirmwareSlot.inUse k) = true ∧
      partsKept (s.tickTo t) u [.rst, .net]) ∧
    (s.rst.recovery = false → s.flash.copyA = [] → s.flash.copyB = [] → ∃ u, exec (.hostBoot t) s = .next u ∧
      u.rst.host = { s.rst.host with run := true } ∧ u.nat Obj.StartControl.startStage = 4 ∧ u.nat Obj.HostGates.enable = 0x3F ∧
      u.flag (Obj.FirmwareSlot.inUse k) = true ∧ u.nat Obj.ImageStatus.loadedCopy = 0 ∧ raised u Ev.imageNone) ∧
    (s.rst.recovery = false → ∃ u, exec (.hostBoot t) s = .next u ∧ u.nat Obj.HostGates.enable = 0x3F)) ∧
  (∀ (s : State) (t k : Nat) (m : List PathMargin), s.fieldOn → s.hostUp = true → s.rst.recovery = false → s.rst.field.run = false →
    s.nat (xtalState .field) = 1 → s.inUseOf 0 ≠ [] → s.inUseOf 6 ≠ [] → s.chooseSlot 1 = some k →
    (fld (s.slotBytes k) 5 1 < s.sec.fieldRun → ∃ u, exec (.fieldBoot t m) s = .next u ∧ u.rst = s.rst ∧
      Emit.span .field 0x46 (leBytes 1 0 ++ leBytes 1 2 ++ leBytes 2 0 ++ leBytes 4 (fld (s.slotBytes k) 8 4 : Nat)) ∈ u.out ∧
      u.flag (Obj.FirmwareSlot.inUse k) = true ∧ partsKept (s.tickTo t) u [.net]) ∧
    (s.sec.fieldRun ≤ fld (s.slotBytes k) 5 1 → ∃ u, exec (.fieldBoot t m) s = .next u ∧ u.nat Obj.StartControl.startStage = 6 ∧
      u.rst.fieldStep = 6)) ∧
  (∀ (s : State) (t : Nat), s.fieldOn → s.rst.fieldStep = 8 → s.rst.field.run = true → s.portsSettled = true → s.hostUp = true →
    ∃ u, exec (.startComplete t) s = .next u ∧ u.rst.fieldStep = 10 ∧ u.nat Obj.FieldGates.enable = s.presentGates ∧ u.pow.state = 1 ∧
      u.nat Obj.PowerControl.powerState = 1 ∧ u.flag Obj.FaultControl.faultNState = s.faultHeld ∧ u.nat Obj.StartControl.startStage = 10 ∧
      (s.nat Obj.StartControl.startConfirmMode = 0 ∨ s.rst.confirmed = true → u.flag Obj.StartControl.startComplete = true ∧
        u.rst.watchdog = none ∧ u.nat Obj.StartControl.bootAttempts = 0 ∧ raised u Ev.startComplete) ∧
      (s.nat Obj.StartControl.startConfirmMode ≠ 0 → s.rst.confirmed = false →
        u.flag Obj.StartControl.startComplete = s.flag Obj.StartControl.startComplete ∧ u.rst.watchdog = s.rst.watchdog)) ∧
  (∀ (s : State) (t : Nat) (a : Caller) (v : Bytes) (x : Val), s.accepts a Obj.StartControl.confirmStart v x →
    (s.nat Obj.StartControl.startStage = 10 → s.flag Obj.StartControl.startComplete = false →
      ∃ u, exec (.confirmStart t a v) s = .next u ∧ answered u a.sess 0 ∧ u.flag Obj.StartControl.startComplete = true ∧
        u.rst.watchdog = none ∧ u.nat Obj.StartControl.bootAttempts = 0 ∧ raised u Ev.startComplete) ∧
    (s.nat Obj.StartControl.startStage ≠ 10 → ∃ u, exec (.confirmStart t a v) s = .next u ∧ answered u a.sess 0 ∧
      u.rst = { s.rst with confirmed := true } ∧ objectsKeptFor a.sess s u [] ∧ partsKept (s.tickTo t) u [.rst, .net, .dux]))

/-- Block resets by time and activation of a field image (R437, R466, R498): a block not idle within `IdleTimeout` is reset and counted; `Arm` arms
the image of the slot not in use; an activation that reports in time is done and pages may start again; one that does not within 400 ms marks its slot
and resets the field island. -/
def Obligations.TimeoutsResetAndActivate : Prop :=
  (∀ (s : State) (t inst : Nat) (kind : BlockKind) (w : BlockKind × Nat × Nat), inst < 64 →
    s.rst.waiting.find? (fun w => w.1 == kind && w.2.1 == inst) = some w →
    w.2.2 + s.nat (Obj.BlockReset.pierIdleTimeout + blockIx kind) * 10000 ≤ max s.now t →
    ∃ u, exec (.blockIdleTimeout t kind inst) s = .next u ∧ raised u Ev.blockIdleTimeout ∧ u.waits kind inst = false ∧
      u.nat (Obj.BlockReset.idleTimeouts (blockIx kind)) = (s.nat (Obj.BlockReset.idleTimeouts (blockIx kind)) + 1) % 2 ^ 32) ∧
  (∀ (s : State) (t : Nat) (a : Caller) (v : Bytes) (x : Val), s.accepts a Obj.Ageing.arm v x →
    ∃ u, exec (.activationArm t a v) s = .next u ∧ answered u a.sess 0 ∧ u.sec = { s.sec with armed := true } ∧
      u.nat Obj.Ageing.activationState = 1 ∧ objectsKeptFor a.sess s u [Obj.Ageing.activationState] ∧
      partsKept (s.tickTo t) u [.sec, .net, .dux]) ∧
  (∀ (s : State) (t began : Nat), s.fieldOn → s.sec.activateAt = some began →
    (max s.now t ≤ began + 4000000000 → ∃ u, exec (.activationDone t) s = .next u ∧ u.sec.armed = false ∧ u.sec.activateAt = none ∧
      u.rst = { s.rst with field := { s.rst.field with run := true } } ∧ u.nat Obj.Ageing.activationState = 3 ∧
      u.nat Obj.Ageing.lastGap = cdiv (max s.now t - began) 10000000 ∧ (∀ k, s.chooseSlot 1 = some k → u.flag (Obj.FirmwareSlot.inUse k) = true) ∧
      partsKept (s.tickTo t) u [.sec, .rst, .net]) ∧
    (began + 4000000000 ≤ max s.now t → ∃ u, exec (.activationTimeout t) s = .next u ∧ raised u Ev.activationFailed ∧
      u.rst.field = opened s.rst.field 5 2 (some (max s.now t + 1000000)) ∧ u.sec.activateAt = none ∧
      (∀ k, s.chooseSlot 1 = some k → bit u.flash.marked k = true)))

/-- Calibration and ageing (R451-R454, R461, R462): `RunNow` makes a run of a present instance due and is refused for another; a lane adaptation in an
idle window is accepted with its lanes' eye widths, rejected and reported, or aborted and still due; a run without a window is reported once;
ring-oscillator shifts are shown once a second; re-planning whose path margins meet the target keeps every point, and is refused while a plane or
camera is enabled. -/
def Obligations.CalibrationRuns : Prop :=
  let pend := (List.range 16).map Obj.PierCal.adaptPending
  let ended := fun (n : Nat) => [Obj.CalSubject.runs n, Obj.CalSubject.lastStamp n, Obj.CalSubject.lastTime n, Obj.CalSubject.lastInstance n,
    Obj.CalSubject.lastResult n]
  (∀ (s : State) (t subj i : Nat) (a : Caller) (v : Bytes), s.accepts a (Obj.CalSubject.runNow subj) v (.num i) →
    (i < s.calInstances subj → ∃ u, exec (.calRunNow t a subj v) s = .next u ∧ answered u a.sess 0 ∧
      u.isDue subj (if subj = 1 then (s.link i).headD i else i) = true ∧ (subj = 3 → (u.meas_ i).baseline = true) ∧
      (subj = 4 → (u.meas_ i).offset = true) ∧ objectsKeptFor a.sess s u pend ∧ partsKept (s.tickTo t) u [.cal, .meas, .net, .dux]) ∧
    (s.calInstances subj ≤ i → ∃ u, exec (.calRunNow t a subj v) s = .next u ∧ answered u a.sess 0x02010001 ∧
      objectsKeptFor a.sess s u [] ∧ partsKept (s.tickTo t) u [.net])) ∧
  (∀ (s : State) (t h : Nat) (w : List Nat), s.fieldOn → h < 64 → s.isDue 1 ((s.link h).headD h) = true → w.length = (s.link h).length →
    (∀ p ∈ s.link h, (s.portUp p = true ∨ s.owner = false ∧ s.portState p = 4) ∧ (s.meas_ p).chunk = none ∧
      (s.owner = false ∨ inUse s.dict p = false ∨ (s.tickTo t).headIdle p (2000000 * (s.link h).length) = true)) →
    let check := eyeCheck (s.nat Obj.CalLimits.pierMinEye) (((s.link h).zip w).map (fun x => ((s.port x.1).eye, x.2)))
    (check = none → ∃ u, exec (.laneAdaptation t h w) s = .next u ∧ (∀ x ∈ (s.link h).zip w, (u.port x.1).eye = some x.2) ∧
      u.isDue 1 ((s.link h).headD h) = false ∧ u.nat (Obj.CalSubject.lastResult 1) = 0 ∧
      u.nat (Obj.CalSubject.runs 1) = (s.nat (Obj.CalSubject.runs 1) + 1) % 2 ^ 32 ∧
      u.num (Obj.PierCal.adaptTemp (h / 4)) = s.num Obj.Ageing.dieTemp ∧
      objectsKept s u (Obj.PierCal.adaptTemp (h / 4) :: Obj.PierCal.eyeWidthMin (h / 4) :: (ended 1 ++ pend)) ∧
      partsKept (s.tickTo t) u [.cal, .ports, .net]) ∧
    (∀ c, check = some c → ∃ u, exec (.laneAdaptation t h w) s = .next u ∧ raised u Ev.calibrationRejected ∧
      u.isDue 1 ((s.link h).headD h) = false ∧ u.nat (Obj.CalSubject.lastResult 1) = 1 ∧
      u.nat (Obj.CalSubject.rejections 1) = (s.nat (Obj.CalSubject.rejections 1) + 1) % 2 ^ 32 ∧
      objectsKept s u (Obj.CalSubject.rejections 1 :: (ended 1 ++ pend)) ∧ partsKept (s.tickTo t) u [.cal, .flt, .net])) ∧
  (∀ (s : State) (t h : Nat) (w : List Nat), s.fieldOn → h < 64 → s.isDue 1 ((s.link h).headD h) = true → w.length < (s.link h).length →
    (∀ p ∈ s.link h, (s.portUp p = true ∨ s.owner = false ∧ s.portState p = 4) ∧ (s.meas_ p).chunk = none ∧
      (s.owner = false ∨ inUse s.dict p = false ∨ (s.tickTo t).headIdle p (2000000 * (s.link h).length) = true)) →
    ∃ u, exec (.laneAdaptation t h w) s = .next u ∧ u.nat (Obj.CalSubject.aborts 1) = (s.nat (Obj.CalSubject.aborts 1) + 1) % 2 ^ 32 ∧
      u.nat (Obj.CalSubject.lastResult 1) = 2 ∧ objectsKept s u [Obj.CalSubject.aborts 1, Obj.CalSubject.lastResult 1] ∧
      partsKept (s.tickTo t) u [.net]) ∧
  (∀ (s : State) (t subj inst : Nat) (d : CalDue), s.fieldOn → s.cal.due.find? (fun d => d.subj == subj && d.inst == inst) = some d →
    d.warned = false → d.since + 1000000000 * s.num Obj.CalLimits.deferWarn ≤ (s.tickTo t).tim.slave.ns →
    ∃ u, exec (.calibrationOverdue t subj inst) s = .next u ∧ raised u Ev.calibrationOverdue ∧
      u.cal.due = s.cal.due.map (fun x => if x.subj = subj ∧ x.inst = inst then { x with warned := true } else x) ∧ objectsKept s u pend ∧
      partsKept (s.tickTo t) u [.cal, .flt, .net]) ∧
  (∀ (s : State) (t : Nat) (l : List Int), s.fieldOn → (∀ a, s.cal.roAt = some a → a + 10000000000 ≤ max s.now t) →
    ∃ u, exec (.roMeasure t l) s = .next u ∧ u.cal = { s.cal with roAt := some (max s.now t) } ∧
    u.byt Obj.Ageing.roShift = ((List.range 16).map (fun i => leBytes 2 (l.getD i 0))).flatten ∧ objectsKept s u [Obj.Ageing.roShift] ∧
    partsKept (s.tickTo t) u [.cal, .net]) ∧
  (∀ (s : State) (t : Nat) (a : Caller) (v : Bytes) (x : Val) (m : List PathMargin), s.accepts a Obj.Ageing.replanNow v x →
    (s.anyPlane = false → (∀ c < 4, s.flag (Obj.CameraPort.enable c) = false) → s.pow.state = 1 →
      (∃ n < 4, s.num Obj.Dvfs.opTarget = (n : Nat)) → s.nat Obj.Dvfs.opInForce < 4 →
      (∀ n < 4, ∃ ps, leastMargin m (s.nat (Obj.OperatingPoint.nominalVoltage n) + s.nat (Obj.OperatingPoint.guardband n))
        (s.nat (Obj.OperatingPoint.frequency n)) = some ps ∧ (s.nat Obj.Ageing.marginTarget : Int) ≤ ps) →
      ∃ u, exec (.replanNow t a v m) s = .next u ∧ answered u a.sess 0 ∧ u.nat Obj.Ageing.replanState = 2 ∧
        u.num Obj.Dvfs.opInForce = s.num Obj.Dvfs.opTarget ∧
        (∀ n < 4, u.nat (Obj.OperatingPoint.guardband n) = s.nat (Obj.OperatingPoint.guardband n) ∧
          u.nat (Obj.OperatingPoint.frequency n) = s.nat (Obj.OperatingPoint.frequency n)) ∧
        objectsKeptFor a.sess s u ([Obj.Ageing.replanState, Obj.Ageing.pathMargin, Obj.Dvfs.opInForce, Obj.Dvfs.dvfsTransitions,
            Obj.OperatingPoint.derated 3] ++
          (List.range 4).flatMap (fun n => [Obj.OperatingPoint.guardband n, Obj.OperatingPoint.frequency n])) ∧
        partsKept (s.tickTo t) u [.net, .dux]) ∧
    (s.anyPlane = true → ∃ u, exec (.replanNow t a v m) s = .next u ∧ answered u a.sess 0x03010001 ∧ objectsKeptFor a.sess s u [] ∧
      partsKept (s.tickTo t) u [.net]) ∧
    (s.anyPlane = false → (∃ c < 4, s.flag (Obj.CameraPort.enable c) = true) → ∃ u, exec (.replanNow t a v m) s = .next u ∧
      answered u a.sess 0x03010005 ∧ objectsKeptFor a.sess s u [] ∧ partsKept (s.tickTo t) u [.net]))

/-- The control cycle (R33, R186, R217, R381, R407, R451) and trigger commitment (R82): a cycle begins at a multiple of 25,000 ns, falls due again at
the next and counts the IDLE blocks of the receivers; with nothing printing and no error handled it shows DieTemp, sends OWN with its claim to every
UP port, and runs the warming loop of each head in Normal; else it does nothing. An armed CameraTrigger predicted within 2 µs leaves the table, each
of its ports with a pulse at 2 µs, on a 4 ns step; the entries of one predicted instant execute together. -/
def Obligations.CyclesRunAndTriggersCommit : Prop :=
  (∀ (s : State) (t : Nat) (temps : List Nat) (idles : List IdleCount), s.fieldOn → (s.tickTo t).cycleDue = true →
    let tim' := { (s.tickTo t).tim with cycleAt := max s.now t, cycleNext := some (((s.tickTo t).tim.slave.ns / 25000 + 1) * 25000) }
    (s.rst.field.run = false → ∃ u, exec (.controlCycle t ⟨temps, idles⟩) s = .next u ∧ u.tim = tim' ∧ (∀ h < 64, (u.head h).heat = []) ∧
      (∀ c x y, 6 ≤ c → c < 12 → idles = [{ lane := .span c, ins := x, del := y }] →
        u.nat (Obj.SpanChannel.idleInserted c) = (s.nat (Obj.SpanChannel.idleInserted c) + x) % 2 ^ 32 ∧
        u.nat (Obj.SpanChannel.idleDeleted c) = (s.nat (Obj.SpanChannel.idleDeleted c) + y) % 2 ^ 32) ∧
      objectsKept s u ((List.range 64).flatMap (fun h => [Obj.PortStatus.idleInserted h, Obj.PortStatus.idleDeleted h]) ++
        (List.range 12).flatMap (fun c => [Obj.SpanChannel.idleInserted c, Obj.SpanChannel.idleDeleted c]) ++
        [0, 1].flatMap (fun l => [Obj.StayLane.idleInserted l, Obj.StayLane.idleDeleted l])) ∧
      partsKept (s.tickTo t) u [.tim, .heads, .span, .net]) ∧
    (s.rst.field.run = true → s.flt.fieldLog.overflow = false → s.flt.todo = [] → s.rst.waiting = [] → s.span.lostF = false →
      s.health.res = [] → s.health.reports = [] → s.health.probes = [] → s.health.dirty = [] → (∀ k < 4, s.flag (Obj.PlaneConfig.enable k) = false) →
      (s.tickTo t).disagrees = false → s.owner = true → ∃ u, exec (.controlCycle t ⟨temps, idles⟩) s = .next u ∧ u.tim = tim' ∧
        (temps ≠ [] → u.num Obj.Ageing.dieTemp = freeDiv (temps.sum : Nat) temps.length) ∧
        (∀ h < 64, ∀ e, s.portUp h = true → (s.port h).claim = some e → ∃ at_, Emit.pier h at_ [ownBlock e] ∈ u.out) ∧
        (∀ h < 64, s.portUp h = true → s.nat (Obj.HeadThermal.mode h) = 1 → s.nat (Obj.HeadThermal.state h) = 0 →
          let e := (s.num (Obj.HeadThermal.tset h) - s.num (Obj.HeadThermal.temperature h)) * 1024
          let r := warmStep (s.num (Obj.HeadThermal.kp h)) (s.num (Obj.HeadThermal.ki h)) (s.num (Obj.HeadThermal.integrator h))
            (heatSum s.dict h (s.head h).heat) e (s.nat (Obj.HeadThermal.maxWarmPulses h))
          u.num (Obj.HeadThermal.integrator h) = r.1 ∧ u.nat (Obj.HeadThermal.lastPulseCount h) = r.2.toNat ∧
            ∃ at_, Emit.pier h at_ [warmBlock r.2.toNat (s.nat (Obj.HeadThermal.warmEnergy h))] ∈ u.out))) ∧
  (∀ (s : State) (t : Nat) (temps : List Nat) (idles : List IdleCount), s.fieldOn → (s.tickTo t).cycleDue = false →
    ∃ u, exec (.controlCycle t ⟨temps, idles⟩) s = .next u ∧ objectsKept s u [] ∧ partsKept (s.tickTo t) u [.net]) ∧
  (∀ (s : State) (t seq p : Nat) (e : SchedEntry), s.fieldOn → s.sched.table.find? (fun e => e.seq == seq && e.action == 3) = some e →
    (s.tickTo t).predictKey e = some p →
    (p ≤ max s.now t + 20000 → ∃ u, exec (.cameraTriggerCommit t seq) s = .next u ∧
      let l := (s.tickTo t).inOrder (s.sched.table.filter (fun x => x.action == 3 && (s.tickTo t).predictKey x == some p))
      u.sched = { s.sched with
        table := s.sched.table.filter (fun x => l.all (fun y => x.seq != y.seq))
        trigs := s.sched.trigs ++ l.flatMap (fun x => (s.triggerPorts x).map (fun c =>
          { seq := x.seq, camera := c, key := x.key, lineKey := x.lineKey, plane := x.plane, phase := x.phase, tag := x.tag
            due := some (40 * (freeDiv ((max s.now t + 20000 : Nat) : Int) 40).toNat), committed := true
            delayed := decide (p < max s.now t + 20000), late := false, spaced := false })) } ∧
      objectsKept s u [Obj.ScheduleControl.armedEntries, Obj.scheduleTable, Obj.ScheduleControl.doneCount, Obj.ScheduleControl.noEffectCount] ∧
      partsKept (s.tickTo t) u [.sched, .flt, .net]) ∧
    (max s.now t + 20000 < p → ∃ u, exec (.cameraTriggerCommit t seq) s = .next u ∧ objectsKept s u [] ∧ partsKept (s.tickTo t) u [.net]))

/-- The controls of the pair (R469, R470, R484, R487, R488, R492): DuplexMode 1 makes the part a STANDBY, or ACTIVE where ports are UP, with the least
epoch of its side above all seen and OWN to every carrier that may be claimed; DuplexMode 0 makes it SOLO, an ACTIVE first telling its peer; each is
refused while a plane is enabled. ForceActive makes a STANDBY ACTIVE unless a recent STATUS shows the peer ACTIVE. SwitchOver relinquishes with cause
7 to a Synced peer and is refused otherwise. A lockstep mismatch or memory error makes an ACTIVE or STANDBY FAILED (no request for power is held by
the STANDBY here). -/
def Obligations.PairRolesChange : Prop :=
  let epochOf := fun (s : State) => nextEpoch (max s.dux.maxEpoch (max s.dux.peerEpoch (s.nat Obj.DuplexStatus.epoch)))
    (s.nat Obj.DuplexControl.pairSide)
  let active := fun (s u : State) => u.nat Obj.DuplexStatus.role = 1 ∧ u.nat Obj.DuplexStatus.epoch = epochOf s ∧
    u.flag Obj.DuplexStatus.synced = false ∧ ∀ h ∈ s.claimable, ∃ at_, Emit.pier h at_ [ownBlock (epochOf s)] ∈ u.out
  let given := fun (s u : State) (cause : Nat) => raised u Ev.relinquished ∧ u.nat Obj.DuplexStatus.lastCause = cause ∧
    u.flag Obj.DuplexStatus.synced = false ∧
    Emit.stay 0x02 (leBytes 1 cause ++ leBytes 3 0 ++ leBytes 4 (s.nat Obj.DuplexStatus.epoch) ++ leBytes 4 (((s.dux.cycle + 1) % 2 ^ 32 : Nat) : Int)) ∈ u.out
  (∀ (s : State) (t n : Nat) (a : Caller) (v : Bytes), s.accepts a Obj.DuplexControl.duplexMode v (.num n) → n = 1 →
    (s.anyPlane = true → ∃ u, exec (.duplexModePair t a v) s = .next u ∧ answered u a.sess 0x03010001 ∧ objectsKeptFor a.sess s u [] ∧
      partsKept (s.tickTo t) u [.net]) ∧
    (s.anyPlane = false → s.role ≠ 3 → s.num Obj.DuplexControl.duplexMode ≠ 1 →
      ((∀ h < 64, s.portUp h = false) → ∃ u, exec (.duplexModePair t a v) s = .next u ∧ answered u a.sess 0 ∧
        u.nat Obj.DuplexControl.duplexMode = 1 ∧ u.nat Obj.DuplexStatus.role = 2 ∧ u.dux = { s.dux with since := some (max s.now t) } ∧
        objectsKeptFor a.sess s u [Obj.DuplexControl.duplexMode, Obj.DuplexStatus.role] ∧ partsKept (s.tickTo t) u [.dux, .net]) ∧
      ((∃ h < 64, s.portUp h = true) → epochOf s < 2 ^ 32 → ∃ u, exec (.duplexModePair t a v) s = .next u ∧ answered u a.sess 0 ∧
        u.nat Obj.DuplexControl.duplexMode = 1 ∧ active s u ∧
        objectsKeptFor a.sess s u [Obj.DuplexControl.duplexMode, Obj.DuplexStatus.role, Obj.DuplexStatus.epoch, Obj.DuplexStatus.synced] ∧
        partsKept (s.tickTo t) u [.dux, .ports, .net]))) ∧
  (∀ (s : State) (t : Nat) (a : Caller) (v : Bytes), s.accepts a Obj.DuplexControl.duplexMode v (.num 0) →
    (s.anyPlane = true → ∃ u, exec (.duplexModeSolo t a v) s = .next u ∧ answered u a.sess 0x03010001 ∧ objectsKeptFor a.sess s u [] ∧
      partsKept (s.tickTo t) u [.net]) ∧
    (s.anyPlane = false → s.num Obj.DuplexControl.duplexMode ≠ 0 →
      (s.role = 2 → (s.tickTo t).peerActive = true → ∃ u, exec (.duplexModeSolo t a v) s = .next u ∧ answered u a.sess 0x03010002 ∧
        objectsKeptFor a.sess s u [] ∧ partsKept (s.tickTo t) u [.net]) ∧
      (s.role = 1 ∨ s.role = 2 ∧ (s.tickTo t).peerActive = false → ∃ u, exec (.duplexModeSolo t a v) s = .next u ∧ answered u a.sess 0 ∧
        u.nat Obj.DuplexControl.duplexMode = 0 ∧ u.nat Obj.DuplexStatus.role = 0 ∧ u.flag Obj.DuplexStatus.synced = false ∧ u.dux.journal = [] ∧
        u.dux.tail = [] ∧ (s.role = 1 → Emit.stay 0x03 (s.statusBody 0) ∈ u.out)))) ∧
  (∀ (s : State) (t : Nat) (a : Caller) (v : Bytes) (x : Val), s.accepts a Obj.DuplexControl.forceActive v x →
    ((s.tickTo t).peerActive = true ∨ s.role = 3 → ∃ u, exec (.forceActive t a v) s = .next u ∧ answered u a.sess 0x03010002 ∧
      objectsKeptFor a.sess s u [] ∧ partsKept (s.tickTo t) u [.net]) ∧
    ((s.tickTo t).peerActive = false → s.role = 2 → epochOf s < 2 ^ 32 → ∃ u, exec (.forceActive t a v) s = .next u ∧ answered u a.sess 0 ∧
      active s u ∧ objectsKeptFor a.sess s u [Obj.DuplexStatus.role, Obj.DuplexStatus.epoch, Obj.DuplexStatus.synced] ∧
      partsKept (s.tickTo t) u [.dux, .ports, .net])) ∧
  (∀ (s : State) (t : Nat) (a : Caller) (v : Bytes) (x : Val), s.accepts a Obj.DuplexControl.switchOver v x →
    (s.role = 1 → s.flag Obj.DuplexStatus.peerSynced = true → ∃ u, exec (.switchOver t a v) s = .next u ∧ answered u a.sess 0 ∧ given s u 7 ∧
      u.nat Obj.DuplexStatus.role = 2) ∧
    (s.role ≠ 1 ∨ s.flag Obj.DuplexStatus.peerSynced = false → ∃ u, exec (.switchOver t a v) s = .next u ∧ answered u a.sess 0x03010002 ∧
      objectsKeptFor a.sess s u [] ∧ partsKept (s.tickTo t) u [.net])) ∧
  (∀ (s : State) (t : Nat), s.fieldOn → s.role = 1 →
    (∃ u, exec (.lockstepMismatch t) s = .next u ∧ given s u 1 ∧ u.nat Obj.DuplexStatus.role = 3 ∧ u.pow.state ≠ 0) ∧
    (∃ u, exec (.deckMemoryEccError t) s = .next u ∧ given s u 2 ∧ u.nat Obj.DuplexStatus.role = 3 ∧ u.pow.state ≠ 0)) ∧
  (∀ (s : State) (t : Nat), s.fieldOn → s.role = 2 → s.pow.state ≠ 0 → (∀ x ∈ s.pow.later, x.2.1 ≠ Obj.PowerControl.powerRequest) →
    (∃ u, exec (.lockstepMismatch t) s = .next u ∧ u.nat Obj.DuplexStatus.lastCause = 1 ∧ u.nat Obj.DuplexStatus.role = 3 ∧
      objectsKept s u [Obj.DuplexStatus.lastCause, Obj.DuplexStatus.role] ∧ partsKept (s.tickTo t) u [.net]) ∧
    (∃ u, exec (.deckMemoryEccError t) s = .next u ∧ u.nat Obj.DuplexStatus.lastCause = 2 ∧ u.nat Obj.DuplexStatus.role = 3 ∧
      objectsKept s u [Obj.DuplexStatus.lastCause, Obj.DuplexStatus.role] ∧ partsKept (s.tickTo t) u [.net]))

/-- What the peer sends and how it falls silent (R469-R475, R478, R479, R482, R489, R491): lanes lock, fail and probe; a PROBE is echoed, an echo
gives the latency; a STATUS of a Synced STANDBY acknowledges items, and one that has fewer faulted piers takes over from an ACTIVE with too many; one
of a SOLO peer ends the pair; a valid record is noted and carries the position over; RELINQUISH makes a Synced STANDBY ACTIVE; 75 µs without a record,
or a start with no peer, does too. -/
def Obligations.PairMessagesAct : Prop :=
  let stayOn := fun (s : State) => s.fieldOn ∧ s.hasStay = true ∧ s.rst.field.run = true
  let fits := fun (s : State) (pe : Nat) => nextEpoch (max (max s.dux.maxEpoch pe) (max pe (s.nat Obj.DuplexStatus.epoch)))
    (s.nat Obj.DuplexControl.pairSide)
  (∀ (s : State) (t l : Nat), stayOn s → l < 2 →
    (s.nat (Obj.StayLane.state l) ≠ 2 → s.role ≠ 0 → ∃ u, exec (.stayLaneLock t l) s = .next u ∧ u.nat (Obj.StayLane.state l) = 2 ∧
      Emit.stay 0x04 (leBytes 4 ((s.dux.token + 1) % 2 ^ 32 : Nat) ++ leBytes 4 0) ∈ u.out ∧ objectsKept s u [Obj.StayLane.state l] ∧
      partsKept (s.tickTo t) u [.dux, .net]) ∧
    (s.nat (Obj.StayLane.state l) = 2 → ∃ u, exec (.stayLaneLockLoss t l) s = .next u ∧ u.nat (Obj.StayLane.state l) = 1 ∧
      raised u Ev.stayLaneFail ∧ u.nat (Obj.StayLane.lockLosses l) = (s.nat (Obj.StayLane.lockLosses l) + 1) % 2 ^ 32 ∧
      objectsKept s u [Obj.StayLane.state l, Obj.StayLane.lockLosses l] ∧ partsKept (s.tickTo t) u [.flt, .net])) ∧
  (∀ (s : State) (t : Nat) (b : Bytes), stayOn s → b.length = 8 →
    (s.role ≠ 0 → ∃ u n, exec (.probe t b) s = .next u ∧ Emit.stay 0x05 (b.take 4 ++ leBytes 4 (n : Nat)) ∈ u.out ∧ objectsKept s u [] ∧
      partsKept (s.tickTo t) u [.net]) ∧
    (∀ p, s.dux.probes.find? (fun p => p.1 == fld b 0 4) = some p → ∃ u, exec (.probeEcho t b) s = .next u ∧
      let lat := (((max s.now t - p.2) / 10 - fld b 4 4) :: s.dux.lat).take 8
      u.dux = { s.dux with probes := s.dux.probes.filter (fun q => q.1 != p.1), lat := lat } ∧
      u.num Obj.DuplexStatus.stayLatency = 2 * near (lat.sum : Nat) (4 * lat.length : Nat) ∧ objectsKept s u [Obj.DuplexStatus.stayLatency] ∧
      partsKept (s.tickTo t) u [.dux, .net])) ∧
  (∀ (s : State) (t : Nat) (b : Bytes), stayOn s → b.length = 16 →
    (s.role = 1 → fld b 0 1 = 2 → fld b 1 1 ≠ 0 → s.piersFail = true → fld b 3 1 < s.faultedPiers → ∃ u, exec (.status t b) s = .next u ∧
      raised u Ev.relinquished ∧ u.nat Obj.DuplexStatus.lastCause = 3 ∧ u.nat Obj.DuplexStatus.role = 2) ∧
    (s.role = 1 → fld b 0 1 = 2 → fld b 1 1 ≠ 0 → s.piersFail = false ∨ s.faultedPiers ≤ fld b 3 1 → ∃ u, exec (.status t b) s = .next u ∧ u.nat Obj.DuplexStatus.peerRole = 2 ∧
      u.flag Obj.DuplexStatus.peerSynced = true ∧ u.dux.tail = s.dux.tail.filter (fun x => !acked (fld b 4 4) x.2) ∧
      u.dux.journal = s.dux.journal.filter (fun x => !acked (fld b 4 4) x.sent) ∧
      u.dux.health = s.dux.health.filter (fun x => !acked (fld b 4 4) x.sent) ∧ u.dux.statusAt = some (max s.now t) ∧
      objectsKept s u [Obj.DuplexStatus.peerRole, Obj.DuplexStatus.peerSynced, Obj.DuplexStatus.backlog] ∧
      partsKept (s.tickTo t) u [.dux, .flt, .net]) ∧
    (s.role = 2 → fld b 0 1 = 0 → ∃ u, exec (.status t b) s = .next u ∧ raised u Ev.pairLost ∧ u.flag Obj.DuplexStatus.synced = false ∧
      u.nat Obj.DuplexStatus.peerRole = 0 ∧ objectsKept s u [Obj.DuplexStatus.peerRole, Obj.DuplexStatus.peerSynced, Obj.DuplexStatus.synced] ∧
      partsKept (s.tickTo t) u [.dux, .flt, .net])) ∧
  (∀ (s : State) (t : Nat) (rec : Bytes), stayOn s → s.role = 2 →
    (mirrorRecord rec = none → ∃ u, exec (.mirror t rec) s = .next u ∧ objectsKept s u [] ∧ partsKept (s.tickTo t) u [.net]) ∧
    (∀ l, mirrorRecord rec = some l → sectionOf l 2 = [] → sectionOf l 4 = [] → sectionOf l 5 = [] → s.sched.table = [] →
      (∀ k < 4, s.flag (Obj.PlaneConfig.enable k) = false) → ∃ u, exec (.mirror t rec) s = .next u ∧ u.dux.got = some (fld rec 4 4) ∧
        u.dux.mirrorAt = some (max s.now t) ∧ u.dux.peerEpoch = fld rec 8 4 ∧
        (∀ D, s.dux.dAdopted = some D → s.countOffset (sfld rec 16 6) = D →
          u.web.pos = sfld (sectionOf l 1) 0 6 * 2 ^ 48 + sext 48 (s.num (Obj.EncoderStatus.count s.source) - D - sfld rec 16 6) *
            (match s.web.scaled with | some c => c.ratio | none => 2 ^ 48)) ∧
        ∀ g, s.dux.got = some g →
          let missed := (fld rec 4 4 + 2 ^ 32 - g - 1) % 2 ^ 32
          u.nat Obj.DuplexStatus.recordsMissed =
            if missed = 0 then s.nat Obj.DuplexStatus.recordsMissed else (s.nat Obj.DuplexStatus.recordsMissed + missed) % 2 ^ 32)) ∧
  (∀ (s : State) (t : Nat) (b : Bytes), stayOn s → b.length = 12 → s.role = 2 →
    (s.flag Obj.DuplexStatus.synced = true → fits s (fld b 4 4) < 2 ^ 32 → ∃ u, exec (.relinquish t b) s = .next u ∧ raised u Ev.tookOver ∧
      u.nat Obj.DuplexStatus.role = 1 ∧ u.nat Obj.DuplexStatus.epoch = fits s (fld b 4 4) ∧
      u.nat Obj.DuplexStatus.switchovers = (s.nat Obj.DuplexStatus.switchovers + 1) % 2 ^ 32) ∧
    (s.flag Obj.DuplexStatus.synced = false → ∃ u, exec (.relinquish t b) s = .next u ∧ raised u Ev.pairLost ∧ objectsKept s u [] ∧
      partsKept (s.tickTo t) u [.dux, .flt, .net])) ∧
  (∀ (s : State) (t m : Nat), stayOn s → s.role = 2 → s.flag Obj.DuplexStatus.synced = true → s.dux.peerSolo = false → s.dux.mirrorAt = some m →
    m + 750000 ≤ max s.now t →
    (s.dux.lastLineAt + 750000 ≤ max s.now t → fits s s.dux.peerEpoch < 2 ^ 32 → ∃ u, exec (.silentTakeover t) s = .next u ∧
      raised u Ev.silentTakeover ∧ u.nat Obj.DuplexStatus.role = 1 ∧ u.nat Obj.DuplexStatus.epoch = fits s s.dux.peerEpoch ∧
      u.nat Obj.DuplexStatus.silentTakeovers = (s.nat Obj.DuplexStatus.silentTakeovers + 1) % 2 ^ 32) ∧
    (max s.now t < s.dux.lastLineAt + 750000 → ∃ u, exec (.silentTakeover t) s = .next u ∧ raised u Ev.stayLost ∧ raised u Ev.syncLost ∧
      u.flag Obj.DuplexStatus.synced = false ∧ objectsKept s u [Obj.DuplexStatus.synced] ∧ partsKept (s.tickTo t) u [.dux, .flt, .net])) ∧
  (∀ (s : State) (t m : Nat), stayOn s → s.role = 2 → s.dux.since = some m → m + s.nat Obj.DuplexControl.pairTimeout * 10000000 ≤ max s.now t →
    (∀ x, s.dux.statusAt = some x → x < m) → s.flag Obj.DuplexControl.aloneStart = true → s.ownedElsewhere = false →
    fits s s.dux.peerEpoch < 2 ^ 32 → ∃ u, exec (.pairTimeout t) s = .next u ∧ u.nat Obj.DuplexStatus.role = 1 ∧
      u.nat Obj.DuplexStatus.epoch = fits s s.dux.peerEpoch ∧
      objectsKept s u [Obj.DuplexStatus.role, Obj.DuplexStatus.epoch, Obj.DuplexStatus.synced] ∧ partsKept (s.tickTo t) u [.dux, .ports, .net])

/-- Lifecycle (R495, R506): `LifecycleAdvance` is accepted only for the steps of R495 and by their callers, one at a time, and blows the fuses of the
target state; once they are blown the state holds, the debug level is NONE, RETURN and SCRAPPED leave RUN, RETURN erases both image headers and
SCRAPPED closes every session. -/
def Obligations.LifecycleAdvances : Prop :=
  (∀ (s : State) (t n : Nat) (a : Caller) (v : Bytes), s.accepts a Obj.Security.lifecycleAdvance v (.num n) → s.sec.advance = none →
    let vendor := a.role = .v ∧ s.issuer a.sess = 0
    let takes := fun (u : State) => answered u a.sess 0 ∧ u.sec = { s.sec with advance := some n } ∧ objectsKeptFor a.sess s u [] ∧
      partsKept (s.tickTo t) u [.sec, .net, .dux]
    let refuses := fun (u : State) => answered u a.sess 0x05010001 ∧ objectsKeptFor a.sess s u [] ∧ partsKept (s.tickTo t) u [.net]
    (n = 1 → ∃ u, exec (.lifecycleProvisioned t a v) s = .next u ∧
      if s.lifecycle = 0 ∧ (s.byt Obj.Security.ownerKeyHash).length = 48 ∧ vendor then takes u else refuses u) ∧
    (n = 2 → ∃ u, exec (.lifecycleField t a v) s = .next u ∧
      if s.lifecycle = 1 ∧ (a.role = .s ∨ a.role = .v) ∧ s.issuer a.sess = 1 then takes u else refuses u) ∧
    (n = 3 → ∃ u, exec (.lifecycleReturn t a v) s = .next u ∧
      if s.lifecycle = 2 ∧ vendor ∧ s.ownerGrant = true then takes u else refuses u) ∧
    (n = 4 → ∃ u, exec (.lifecycleScrapped t a v) s = .next u ∧
      if s.lifecycle < 4 ∧ (vendor ∨ a.role = .s ∧ s.issuer a.sess = 1) then takes u else refuses u)) ∧
  (∀ (s : State) (t n : Nat), s.hostOn → s.sec.advance = some n →
    ∃ u, exec (.lifecycleFusesBlown t) s = .next u ∧ u.lifecycle = n ∧ u.nat Obj.Debug.level = 0 ∧ u.sec.advance = none ∧ u.sec.grantEnd = none ∧
      (n = 3 → u.flash.copyA = eraseHeader s.flash.copyA ∧ u.flash.copyB = eraseHeader s.flash.copyB) ∧ (n ≠ 3 → u.flash = s.flash) ∧
      (3 ≤ n → u.pow.state ≠ 0) ∧ (n = 4 → ∀ i < 256, u.sessState i ≠ 2))

/-- Debug (R503-R505): a challenge holds 32 free bytes, UniqueId, the lifecycle state and its number, and voids the one before; a valid response
grants its level to its path, an invalid one counts and is refused, after eight failures every one is; a grant ends when locked or when its time has
passed. A part scrapped and since reset answers no debug command on the JTAG path. -/
def Obligations.DebugUnlocks : Prop :=
  let tail := fun (s : State) => leBytes 8 s.ident.uniqueId ++ leBytes 1 s.lifecycle ++ leBytes 3 0 ++ leBytes 4 s.sec.seq
  let challenged := fun (s u : State) (now : Nat) (b : Bytes) => b.length = 48 ∧ b.drop 32 = tail s ∧
    u.sec = { s.sec with challenge := some (b, now), seq := s.sec.seq + 1 }
  let ended := [Obj.Debug.level, Obj.Debug.holder, Obj.Debug.holderSession, Obj.Debug.grantRemaining]
  let none_ := fun (u : State) => u.nat Obj.Debug.level = 0 ∧ u.nat Obj.Debug.holder = 0 ∧ u.nat Obj.Debug.holderSession = 0xFFFF ∧
    u.nat Obj.Debug.grantRemaining = 0 ∧ u.sec.grantEnd = none
  (∀ (s : State) (t : Nat) (a : Caller),
    (s.hostOn → s.scrapped = false → ∃ u b, exec (.debugChallenge t a true) s = .next u ∧ challenged s u (max s.now t) b ∧ Emit.reply 256 0 b ∈ u.out ∧
      objectsKept s u [] ∧ partsKept (s.tickTo t) u [.sec, .net]) ∧
    (s.hostOn → s.scrapped = true → ∃ u, exec (.debugChallenge t a true) s = .next u ∧ objectsKept s u [] ∧ partsKept (s.tickTo t) u [.net]) ∧
    (s.hostUp = true → a.sess ≤ 256 → s.permit a.role Obj.Debug.debugChallenge false = 0 → ∃ u b, exec (.debugChallenge t a false) s = .next u ∧
      challenged s u (max s.now t) b ∧ Emit.reply a.sess 0 (readBody 17 b) ∈ u.out ∧ objectsKeptFor a.sess s u [] ∧
      partsKept (s.tickTo t) u [.sec, .net])) ∧
  (∀ (s : State) (t : Nat) (a : Caller) (v b : Bytes) (jtag : Bool), (if jtag then s.hostOn ∧ s.scrapped = false ∧ v = b else s.accepts a Obj.Debug.debugResponse v (.bytes b)) →
    let who := if jtag then 256 else a.sess
    (8 ≤ s.nat Obj.Debug.failedUnlocks → ∃ u, exec (.debugResponse t a v jtag) s = .next u ∧ answered u who 0x05010001 ∧
      objectsKeptFor who s u [] ∧ partsKept (s.tickTo t) u [.net]) ∧
    (s.nat Obj.Debug.failedUnlocks < 8 → (s.tickTo t).responseOk b = false → ∃ u, exec (.debugResponse t a v jtag) s = .next u ∧
      answered u who 0x05010001 ∧ u.nat Obj.Debug.failedUnlocks = s.nat Obj.Debug.failedUnlocks + 1 ∧
      objectsKeptFor who s u [Obj.Debug.failedUnlocks] ∧ partsKept (s.tickTo t) u [.net]) ∧
    (s.nat Obj.Debug.failedUnlocks < 8 → (s.tickTo t).responseOk b = true → fld b 0 1 ≠ 2 → s.ownerGrant = false →
      openObserve s.lifecycle (fld b 0 1) = false → ∃ u, exec (.debugResponse t a v jtag) s = .next u ∧ answered u who 0 ∧
        u.nat Obj.Debug.level = fld b 0 1 ∧ u.nat Obj.Debug.holder = (if jtag then 1 else 2) ∧
        u.nat Obj.Debug.holderSession = (if jtag then 0xFFFF else a.sess) ∧
        u.sec.grantEnd = (if fld b 4 4 = 0 then none else some (max s.now t + fld b 4 4 * 10000000000)) ∧
        objectsKeptFor who s u ended ∧ partsKept (s.tickTo t) u [.sec, .net, .dux])) ∧
  (∀ (s : State) (t : Nat) (a : Caller) (v : Bytes), s.rejects a Obj.Debug.debugResponse v 0x05010001 →
    ∃ u, exec (.debugResponse t a v false) s = .next u ∧ answered u a.sess 0x05010001 ∧ objectsKeptFor a.sess s u [] ∧
      partsKept (s.tickTo t) u [.net]) ∧
  (∀ (s : State) (t : Nat) (a : Caller) (v : Bytes) (x : Val), s.accepts a Obj.Debug.debugLock v x → s.ownerGrant = false →
    ∃ u, exec (.debugLock t a v) s = .next u ∧ answered u a.sess 0 ∧ none_ u ∧ objectsKeptFor a.sess s u ended ∧
      partsKept (s.tickTo t) u [.sec, .net, .dux]) ∧
  (∀ (s : State) (t e : Nat), s.hostOn → s.sec.grantEnd = some e → s.ownerGrant = false →
    (e ≤ max s.now t → ∃ u, exec (.grantExpiry t) s = .next u ∧ none_ u ∧ objectsKept s u ended ∧ partsKept (s.tickTo t) u [.sec, .net]) ∧
    (max s.now t < e → ∃ u, exec (.grantExpiry t) s = .next u ∧ objectsKept s u [] ∧ partsKept (s.tickTo t) u [.net]))

/-- Firmware (R496-R499): an image written to a slot that is not in use is held there, and the slot's objects follow it; a slot in use refuses it with
0x0301_000B. `RollbackCommit` raises the counter of its kind to the SecurityVersion of the image that runs, at most 64, and never lowers it. -/
def Obligations.FirmwareIsKept : Prop :=
  (∀ (s : State) (t k : Nat) (a : Caller) (v b : Bytes), k < 4 → s.accepts a (Obj.FirmwareSlot.image k) v (.bytes b) →
    (s.flag (Obj.FirmwareSlot.inUse k) = false → ∃ u, exec (.firmwareImageWrite t a k v) s = .next u ∧ answered u a.sess 0 ∧
      u.slotBytes k = b ∧ u.nat (Obj.FirmwareSlot.state k) = u.slotState k ∧ u.nat (Obj.FirmwareSlot.securityVersion k) = fld b 5 1 ∧
      u.nat (Obj.FirmwareSlot.buildNumber k) = fld b 8 4 ∧ (∀ j, j ≠ k → u.slotBytes j = s.slotBytes j) ∧
      objectsKeptFor a.sess s u [Obj.FirmwareSlot.state k, Obj.FirmwareSlot.securityVersion k, Obj.FirmwareSlot.buildNumber k] ∧
      partsKept (s.tickTo t) u [.flash, .net, .dux]) ∧
    (s.flag (Obj.FirmwareSlot.inUse k) = true → ∃ u, exec (.firmwareImageWrite t a k v) s = .next u ∧ answered u a.sess 0x0301000B ∧
      objectsKeptFor a.sess s u [] ∧ partsKept (s.tickTo t) u [.net])) ∧
  (∀ (s : State) (t kind n : Nat) (a : Caller) (v : Bytes), kind < 2 → s.accepts a Obj.Security.rollbackCommit v (.num (kind + 1 : Nat)) →
    s.runningVersion kind = some n →
    (s.rollback kind < n → ∃ u, exec (.rollbackCommit t a v) s = .next u ∧ answered u a.sess 0 ∧ u.rollback kind = min n 64 ∧
      u.rollback (1 - kind) = s.rollback (1 - kind) ∧ partsKept (s.tickTo t) u [.net, .dux]) ∧
    (n ≤ s.rollback kind → ∃ u, exec (.rollbackCommit t a v) s = .next u ∧ answered u a.sess 0 ∧ objectsKeptFor a.sess s u [] ∧
      partsKept (s.tickTo t) u [.net, .dux]))

/-- The fault log and the machinery of faults (R510, R511, R513, R514, R518-R520): 256 ns after its writing began a queued entry is in its part, with
Gap after a loss, the oldest minor entry of a full part giving way, and asserts FAULT_N as `FaultNMask` says; handling ends after `QuietTime`; a
failure of the machinery latches and asks for HOLD, a second one is counted; `FaultAck` clears the latches unless a power cycle is asked for;
`LogClear` empties its parts. -/
def Obligations.FaultMachineryWorks : Prop :=
  (∀ (s : State) (t : Nat) (isl : Side) (e : EventRec) (q : List EventRec), (s.log isl).queue = e :: q →
    (s.log isl).begun + 2560 ≤ max s.now t →
    let e' := if (s.log isl).gap = true then { e with flags := setBit e.flags 0 true } else e
    let held := if partSize isl ≤ (s.log isl).entries.length then overwrite (s.log isl).entries else (s.log isl).entries
    ∃ u, exec (.faultLogWrite t isl) s = .next u ∧ (u.log isl).queue = q ∧ (u.log isl).entries = held ++ [e'] ∧ (u.log isl).gap = false ∧
      u.nat (match isl with | .host => Obj.HostLogStatus.hostEntries | .field => Obj.FieldLogStatus.fieldEntries) = held.length + 1 ∧
      (bit (s.nat Obj.FaultControl.faultNMask) e.cls = true → u.flag Obj.FaultControl.faultNState = true ∧ u.flt.latched = true) ∧
      objectsKept s u [Obj.HostLogStatus.hostEntries, Obj.FieldLogStatus.fieldEntries, Obj.HostLogStatus.hostOverwritten,
        Obj.FieldLogStatus.fieldOverwritten, Obj.FaultControl.faultNState] ∧ partsKept (s.tickTo t) u [.flt, .net]) ∧
  (∀ (s : State) (t : Nat) (isl : Side), max s.now t < (s.log isl).begun + 2560 →
    ∃ u, exec (.faultLogWrite t isl) s = .next u ∧ objectsKept s u [] ∧ partsKept (s.tickTo t) u [.net]) ∧
  (∀ (s : State) (t subsys inst : Nat), s.stepPending subsys inst = false →
    (∀ h ∈ s.flt.handling, h.subsys = subsys → h.inst = inst → h.last + s.nat Obj.FaultControl.quietTime * 10000000 ≤ max s.now t) →
    ∃ u, exec (.quietTime t subsys inst) s = .next u ∧
      u.flt = { s.flt with handling := s.flt.handling.filter (fun h => !(h.subsys == subsys && h.inst == inst)) } ∧
      u.byt Obj.handling = handlingBytes u.flt.handling ∧ objectsKept s u [] ∧ partsKept (s.tickTo t) u [.flt, .net]) ∧
  (∀ (s : State) (t : Nat) (isl : Side), (match isl with | .host => s.hostOn | .field => s.fieldOn) →
    (s.flag Obj.FaultControl.overrunLatched = false → ∃ u, exec (.handlerOverrun t isl) s = .next u ∧ raised u Ev.handlerOverrun ∧
      u.flag Obj.FaultControl.overrunLatched = true ∧ u.flag Obj.FaultControl.faultNState = true ∧ u.flt.latched = true ∧
      (isl = .host → u.nat Obj.PowerControl.powerRequest = 1 ∧ u.nat Obj.PowerControl.holdCause = 5) ∧
      (isl = .field → s.pow.state = 0 → u.pow.state = 1 ∧ u.nat Obj.PowerControl.powerRequest = 1 ∧ u.nat Obj.PowerControl.holdCause = 5)) ∧
    (s.flag Obj.FaultControl.overrunLatched = true → ∃ u, exec (.handlerOverrun t isl) s = .next u ∧
      u.nat Obj.FaultControl.overruns = (s.nat Obj.FaultControl.overruns + 1) % 2 ^ 32 ∧ objectsKept s u [Obj.FaultControl.overruns] ∧
      partsKept (s.tickTo t) u [.flt, .net])) ∧
  (∀ (s : State) (t : Nat) (a : Caller) (v : Bytes) (x : Val), s.accepts a Obj.FaultControl.faultAck v x →
    (s.flt.powerCycle = false → ∃ u, exec (.faultAck t a v) s = .next u ∧ answered u a.sess 0 ∧ raised u Ev.faultAcknowledged ∧
      u.flt.latched = false ∧ u.flag Obj.FaultControl.overrunLatched = false ∧
      u.flag Obj.FaultControl.faultNState = (s.rst.recovery || s.rst.fieldStep != 10) ∧
      objectsKeptFor a.sess s u [Obj.FaultControl.overrunLatched, Obj.FaultControl.faultNState] ∧ partsKept (s.tickTo t) u [.flt, .net, .dux]) ∧
    (s.flt.powerCycle = true → ∃ u, exec (.faultAck t a v) s = .next u ∧ answered u a.sess 0x03010002 ∧ objectsKeptFor a.sess s u [] ∧
      partsKept (s.tickTo t) u [.net])) ∧
  (∀ (s : State) (t : Nat) (a : Caller) (v : Bytes) (x : Val), s.accepts a Obj.FaultControl.powerCycleRequest v x →
    ∃ u, exec (.powerCycleRequest t a v) s = .next u ∧ answered u a.sess 0 ∧ raised u Ev.powerCycleRequested ∧ u.flt.powerCycle = true ∧
      u.flt.latched = true ∧ u.flag Obj.FaultControl.faultNState = true ∧
      (s.pow.state = 0 → u.pow.state = 1 ∧ u.nat Obj.PowerControl.powerRequest = 1 ∧ u.nat Obj.PowerControl.holdCause = 6)) ∧
  (∀ (s : State) (t n : Nat) (a : Caller) (v : Bytes), s.accepts a Obj.FaultControl.logClear v (.num n) →
    ∃ u, exec (.logClear t a v) s = .next u ∧ answered u a.sess 0 ∧
      u.flt.hostLog = (if n = 2 then s.flt.hostLog else { s.flt.hostLog with entries := [], gap := true }) ∧
      u.flt.fieldLog = (if n = 1 then s.flt.fieldLog else { s.flt.fieldLog with entries := [], gap := true }) ∧
      objectsKeptFor a.sess s u [Obj.HostLogStatus.hostEntries, Obj.FieldLogStatus.fieldEntries] ∧ partsKept (s.tickTo t) u [.flt, .net, .dux])

/-- A write to an object that the part lacks, by any message that can carry it, returns abort 0x0701_0001 and changes nothing: it is not staged, what
is staged stays, and a DOMAIN transfer aborts on its block (R13). -/
def Obligations.AbsentWritesAreRefused : Prop :=
  ∀ (s : State) (t ix sub ty : Nat) (a : Caller) (v b : Bytes) (d : Desc), s.hostUp = true → a.sess ≤ 256 →
    let refused := fun (o : Host.Outcome State Fault Refusal) => ∃ u, o = .next u ∧ answered u a.sess 0x07010001 ∧ u.groups = s.groups ∧
      objectsKeptFor a.sess s u [] ∧ partsKept (s.tickTo t) u [.net]
    (vendorAccess a.role ix = false → descOf (ix * 256 + sub) = some d → s.absent (ix * 256 + sub) = true →
      refused (exec (.objectWrite t a ix sub ty v) s) ∧ refused (exec (.stagingWrite t a ix sub ty v) s) ∧
        refused (exec (.rwlWrite t a ix sub ty v) s)) ∧
    (vendorAccess a.role (fld b 0 2) = false → descOf (blockKey b) = some d → s.absent (blockKey b) = true →
      refused (exec (.domainWriteBlock t a b) s))

/-- On a STANDBY or FAILED part a write to a mirrored object, or to 0x4402, returns abort 0x0101_0001 and changes nothing, by whichever message it
comes; a read of a number among them answers it as ever (R483). -/
def Obligations.MirroredObjectsCloseOnStandby : Prop :=
  ∀ (s : State) (t ix sub ty : Nat) (a : Caller) (v b : Bytes) (d : Desc), s.hostUp = true → a.sess ≤ 256 →
    s.nat Obj.DuplexStatus.role = 2 ∨ s.nat Obj.DuplexStatus.role = 3 → mirrored ix = true ∨ ix = 0x4402 → sub < 256 →
    descOf (ix * 256 + sub) = some d →
    let refused := fun (o : Host.Outcome State Fault Refusal) => ∃ u, o = .next u ∧ answered u a.sess 0x01010001 ∧
      objectsKeptFor a.sess s u [] ∧ partsKept (s.tickTo t) u [.net]
    (s.absent (ix * 256 + sub) = false →
      (vendorAccess a.role ix = false → refused (exec (.objectWrite t a ix sub ty v) s) ∧ refused (exec (.stagingWrite t a ix sub ty v) s) ∧
        refused (exec (.rwlWrite t a ix sub ty v) s)) ∧
      (blockKey b = ix * 256 + sub → vendorAccess a.role (fld b 0 2) = false → refused (exec (.domainWriteBlock t a b) s))) ∧
    (s.permit a.role (ix * 256 + sub) false = 0 → vendorAccess a.role ix = false → s.absent (ix * 256 + sub) = false → d.ty ≠ .str → d.ty ≠ .dom →
      ∃ u, exec (.read t a ix sub) s = .next u ∧
        Emit.reply a.sess 0 (readBody d.ty.code (encodeVal d.ty (.num ((s.tickTo t).number a.sess (ix * 256 + sub))))) ∈ u.out)

/-- An island held in reset does nothing but wait: its pins, links, lines and timers have no effect while it is (R431, R436; read from them, log entry
72), and while host firmware does not run no access is answered. -/
def Obligations.IslandsInResetDoNothing : Prop :=
  let nothing := fun (s : State) (t : Nat) (c : Instr) => ∃ u, exec c s = .next u ∧ objectsKept s u [] ∧ partsKept (s.tickTo t) u [.net]
  (∀ (s : State) (t i : Nat) (b : Bool) (w : Bytes) (l : List Nat) (idles : List IdleCount), s.rst.field.active = true →
    nothing s t (.encoderEdge t i b b b) ∧ nothing s t (.spsRequest t) ∧ nothing s t (.screenLine t i) ∧ nothing s t (.frameSend t i) ∧
      nothing s t (.hrxLock t i b) ∧ nothing s t (.triggerPulseEnd t i) ∧ nothing s t (.controlCycle t ⟨l, idles⟩) ∧ nothing s t (.mirror t w) ∧
      nothing s t (.startComplete t) ∧ nothing s t (.lockstepMismatch t)) ∧
  (∀ (s : State) (t i : Nat), s.rst.host.active = true → nothing s t (.hostBoot t) ∧ nothing s t (.lifecycleFusesBlown t) ∧
    nothing s t (.grantExpiry t) ∧ nothing s t (.meterDone t .host i)) ∧
  (∀ (s : State) (t ix sub ty : Nat) (a : Caller) (v : Bytes), s.hostUp = false → vendorAccess a.role ix = false →
    nothing s t (.read t a ix sub) ∧ nothing s t (.objectWrite t a ix sub ty v) ∧ nothing s t (.warmReset t a v) ∧
      nothing s t (.powerRequestRun t a v))

/-- The part right after power-on reset: every object reads its default, among them those named here (R75, R120, R395, R430, R450, R493, R521); no
command waits, nothing is armed, deposited, staged or open; both islands stand in a COLD episode of the power-on source whose fuses load (R431-R434;
that it has released is log entry 71, the model's choice). -/
def Obligations.ResetIsTheSpecs : Prop :=
  let s := State.reset
  (∀ key, s.val key = objDefault key) ∧ s.dictWf = true ∧ s.partWf = true ∧ s.pending = [] ∧ s.sched.table = [] ∧ s.strips.held = [] ∧ s.groups.staged = [] ∧
  s.net.sess = [] ∧ s.rst.host.seen = 1 ∧ s.rst.field.seen = 1 ∧ s.rst.host.reach = 0 ∧ s.rst.field.reach = 0 ∧ s.rst.host.active = true ∧
  s.rst.field.active = true ∧ s.nat (Obj.EncoderConfig.minSpacing 0) = 3 ∧ s.nat Obj.PositionCertainty.standstillTimeout = 10 ∧
  s.nat (Obj.HeadRecord.minPeriod 0) = 10000 ∧ s.nat Obj.SpanControl.lossTimeout = 10 ∧ s.nat Obj.SpanControl.errorLimit = 16 ∧
  s.nat (Obj.Clocks.xtalTimeout 0) = 500 ∧ s.nat Obj.Dvfs.settleTime = 20 ∧ s.nat Obj.StartControl.bootWatchdog = 10000 ∧
  s.nat Obj.CalLimits.pierMinEye = 16 ∧ s.nat Obj.DuplexControl.pairTimeout = 2000 ∧ s.nat Obj.FaultControl.quietTime = 100 ∧
  s.nat Obj.FaultControl.escalationCeiling = 2 ∧ s.nat Obj.FaultControl.handlerTimeout = 1000 ∧ s.nat Obj.FaultControl.faultNMask = 0x18

/-- Numbers of the value types of R327 survive their containers (R21, R22): what a type can hold is encoded in its width and decoded as it was, and
the bytes of a container that decode encode to themselves. -/
def Obligations.ValuesSurviveTheirContainers : Prop :=
  (∀ (ty : Ty) (n : Int), ty ≠ .str → ty ≠ .dom →
    (match ty with
      | .bool => 0 ≤ n ∧ n ≤ 1
      | .u14 => 0 ≤ n ∧ n < 0x4000
      | .s14 => -0x2000 ≤ n ∧ n < 0x2000
      | .i16 => -(2 ^ 15) ≤ n ∧ n < 2 ^ 15
      | .i32 => -(2 ^ 31) ≤ n ∧ n < 2 ^ 31
      | .i64 => -(2 ^ 63) ≤ n ∧ n < 2 ^ 63
      | .time => 0 ≤ n ∧ n < 2 ^ 48 * 1000000000
      | ty => 0 ≤ n ∧ n < 2 ^ (8 * ty.bytes)) →
    (encodeVal ty (.num n)).length = ty.bytes ∧ decodeVal ty (encodeVal ty (.num n)) = some (.num n)) ∧
  (∀ (ty : Ty) (b : Bytes) (n : Int), ty ≠ .str → ty ≠ .dom → decodeVal ty b = some (.num n) → encodeVal ty (.num n) = b)

/-- Every command completes but the accesses to the vendor range and a debug write, whose effects the spec leaves out (R343, R502); it moves time on,
never back, leaves the queue and the part's identity as they were, and leaves no event waiting to set out (R344). -/
def Obligations.EveryCommandCompletes : Prop :=
  ∀ (c : Instr) (s : State),
    (∃ u, exec c s = .next u ∧ u.pending = s.pending ∧ u.ident = s.ident ∧ s.now ≤ u.now ∧ u.hostEv = [] ∧ u.fieldEv = []) ∨
    exec c s = .refused .vendorObject ∨ exec c s = .refused .debugWrite

/-- The dictionary keeps its canonical form (keys strictly rising, no entry at its default; log entry 4) through every step, whatever the command and
the state. -/
def Obligations.DictionaryStaysCanonical : Prop :=
  ∀ s u : State, s.dictWf = true → step s = .next u → u.dictWf = true
end

