-- ==== Sys2Proof/Laws/Maps.lean ====
section
/-! SUPPORT. Sparse maps: reading after setting, and the canonical form kept (log entry 4). -/

namespace Sys2Proof.Machine

variable {α : Type}

theorem smGet_smErase_self (d : Nat → α) (m : List (Nat × α)) (k : Nat) : smGet d (smErase m k) k = d k := by
  induction m with
  | nil => rfl
  | cons p r ih => by_cases h : p.1 = k <;> simp [smErase, smGet, h, ih]

theorem smGet_smErase_ne (d : Nat → α) (m : List (Nat × α)) {k j : Nat} (h : j ≠ k) :
    smGet d (smErase m k) j = smGet d m j := by
  induction m with
  | nil => rfl
  | cons p r ih =>
    by_cases hp : p.1 = k
    · have : p.1 ≠ j := fun e => h (e ▸ hp)
      simp [smErase, smGet, hp, ih, hp ▸ this]
    · by_cases hj : p.1 = j <;> simp [smErase, smGet, hp, hj, ih, h]

theorem smGet_smIns_self (d : Nat → α) (m : List (Nat × α)) (k : Nat) (v : α) (h : smGet d m k = d k)
    (hn : ∀ p ∈ m, p.1 ≠ k) : smGet d (smIns m k v) k = v := by
  induction m with
  | nil => simp [smIns, smGet]
  | cons p r ih =>
    have hp := hn p (by simp)
    by_cases hk : k < p.1
    · simp [smIns, smGet, hk]
    · simp only [smIns, hk, if_false, smGet, hp]
      exact ih (by simpa [smGet, hp] using h) (fun q hq => hn q (by simp [hq]))

theorem smGet_smIns_ne (d : Nat → α) (m : List (Nat × α)) {k j : Nat} (v : α) (h : j ≠ k) :
    smGet d (smIns m k v) j = smGet d m j := by
  induction m with
  | nil => simp [smIns, smGet, Ne.symm h]
  | cons p r ih =>
    by_cases hk : k < p.1
    · simp [smIns, smGet, hk, Ne.symm h]
    · simp [smIns, hk, smGet, ih]

theorem smErase_ne {m : List (Nat × α)} {k : Nat} : ∀ p ∈ smErase m k, p.1 ≠ k := by
  induction m with
  | nil => simp [smErase]
  | cons p r ih =>
    intro q hq
    by_cases hp : p.1 = k
    · exact ih q (by simpa [smErase, hp] using hq)
    · simp only [smErase, hp, if_false, List.mem_cons] at hq
      rcases hq with rfl | hq
      · exact hp
      · exact ih q hq

/-- The value just set is read. -/
@[simp] theorem smGet_smSet_self [DecidableEq α] (d : Nat → α) (m : List (Nat × α)) (k : Nat) (v : α) :
    smGet d (smSet d m k v) k = v := by
  unfold smSet
  split
  · next h => rw [smGet_smErase_self, h]
  · exact smGet_smIns_self d _ k v (smGet_smErase_self d m k) smErase_ne

/-- Setting one key leaves every other. -/
theorem smGet_smSet_ne [DecidableEq α] (d : Nat → α) (m : List (Nat × α)) {k j : Nat} (v : α) (h : j ≠ k) :
    smGet d (smSet d m k v) j = smGet d m j := by
  unfold smSet
  split
  · exact smGet_smErase_ne d m h
  · rw [smGet_smIns_ne d _ v h, smGet_smErase_ne d m h]

/-- Reading after setting. -/
theorem smGet_smSet [DecidableEq α] (d : Nat → α) (m : List (Nat × α)) (k j : Nat) (v : α) :
    smGet d (smSet d m k v) j = if j = k then v else smGet d m j := by
  by_cases h : j = k
  · simp [h]
  · simp [h, smGet_smSet_ne d m v h]

/-! ### The canonical form -/

/-- The canonical form as two facts: keys strictly rising, no value equal to its default. -/
theorem smWf_iff [DecidableEq α] (d : Nat → α) (m : List (Nat × α)) :
    smWf d m = true ↔ m.Pairwise (fun p q => p.1 < q.1) ∧ ∀ p ∈ m, p.2 ≠ d p.1 := by
  induction m with
  | nil => simp [smWf]
  | cons p r ih =>
    cases r with
    | nil => simp [smWf]
    | cons q r =>
      simp only [smWf, Bool.and_eq_true, decide_eq_true_eq] at ih ⊢
      constructor
      · rintro ⟨⟨h1, h2⟩, h3⟩
        obtain ⟨hp, hd⟩ := ih.1 h3
        refine ⟨List.pairwise_cons.2 ⟨?_, hp⟩, ?_⟩
        · intro x hx
          rcases List.mem_cons.1 hx with rfl | hx
          · exact h2
          · exact Nat.lt_trans h2 ((List.pairwise_cons.1 hp).1 x hx)
        · intro x hx
          rcases List.mem_cons.1 hx with rfl | hx
          · exact h1
          · exact hd x hx
      · rintro ⟨hp, hd⟩
        obtain ⟨ha, hb⟩ := List.pairwise_cons.1 hp
        exact ⟨⟨hd p (by simp), ha q (by simp)⟩, ih.2 ⟨hb, fun x hx => hd x (by simp [hx])⟩⟩

theorem smErase_sublist (m : List (Nat × α)) (k : Nat) : (smErase m k).Sublist m := by
  induction m with
  | nil => exact List.Sublist.slnil
  | cons p r ih =>
    by_cases h : p.1 = k
    · simpa [smErase, h] using ih.cons p
    · simpa [smErase, h] using ih.cons_cons p

/-- A part of a canonical map, in order, is canonical. -/
theorem smWf_sublist [DecidableEq α] {d : Nat → α} {m m' : List (Nat × α)} (h : m'.Sublist m) (w : smWf d m = true) :
    smWf d m' = true := by
  rw [smWf_iff] at w ⊢
  exact ⟨w.1.sublist h, fun p hp => w.2 p (h.subset hp)⟩

theorem mem_smIns {m : List (Nat × α)} {k : Nat} {v : α} {p : Nat × α} (h : p ∈ smIns m k v) : p = (k, v) ∨ p ∈ m := by
  induction m with
  | nil => simpa [smIns] using h
  | cons q r ih =>
    by_cases hk : k < q.1
    · simp only [smIns, hk, if_true, List.mem_cons] at h
      rcases h with h | h | h
      · exact .inl h
      · exact .inr (by simp [h])
      · exact .inr (by simp [h])
    · simp only [smIns, hk, if_false, List.mem_cons] at h
      rcases h with h | h
      · exact .inr (by simp [h])
      · rcases ih h with h | h
        · exact .inl h
        · exact .inr (by simp [h])

theorem smIns_pairwise {m : List (Nat × α)} {k : Nat} (v : α) (h : m.Pairwise (fun p q => p.1 < q.1))
    (hn : ∀ p ∈ m, p.1 ≠ k) : (smIns m k v).Pairwise (fun p q => p.1 < q.1) := by
  induction m with
  | nil => simp [smIns]
  | cons q r ih =>
    obtain ⟨ha, hb⟩ := List.pairwise_cons.1 h
    by_cases hk : k < q.1
    · simp only [smIns, hk, if_true]
      refine List.pairwise_cons.2 ⟨?_, h⟩
      intro x hx
      rcases List.mem_cons.1 hx with rfl | hx
      · exact hk
      · exact Nat.lt_trans hk (ha x hx)
    · simp only [smIns, hk, if_false]
      refine List.pairwise_cons.2 ⟨?_, ih hb (fun p hp => hn p (by simp [hp]))⟩
      intro x hx
      have hq := hn q (by simp)
      rcases mem_smIns hx with rfl | hx
      · show q.1 < k
        omega
      · exact ha x hx

/-- Setting a key keeps the canonical form. -/
theorem smWf_smSet [DecidableEq α] {d : Nat → α} {m : List (Nat × α)} (k : Nat) (v : α) (w : smWf d m = true) :
    smWf d (smSet d m k v) = true := by
  have we := smWf_sublist (smErase_sublist m k) w
  unfold smSet
  split
  · exact we
  · next hv =>
    rw [smWf_iff] at we ⊢
    refine ⟨smIns_pairwise v we.1 smErase_ne, fun p hp => ?_⟩
    rcases mem_smIns hp with rfl | hp
    · exact hv
    · exact we.2 p hp

/-- Filtering keeps the canonical form. -/
theorem smWf_filter [DecidableEq α] {d : Nat → α} {m : List (Nat × α)} (p : Nat × α → Bool) (w : smWf d m = true) :
    smWf d (m.filter p) = true := smWf_sublist List.filter_sublist w

/-- A function applied to every value keeps the canonical form. -/
theorem smWf_smMap [DecidableEq α] {d : Nat → α} {m : List (Nat × α)} (f : α → α) (w : smWf d m = true) :
    smWf d (smMap d f m) = true := by
  rw [smWf_iff] at w ⊢
  refine ⟨?_, ?_⟩
  · refine List.Pairwise.sublist List.filter_sublist ?_
    exact List.pairwise_map.2 w.1
  · intro p hp
    have := (List.mem_filter.1 hp).2
    simpa using this

end Sys2Proof.Machine
end

