-- ==== Sys2Proof/Laws/State.lean ====
section
/-! SUPPORT. What each update of the state leaves in each field. -/

namespace Sys2Proof.Machine

variable (s : State)

/-! ### With an object set -/

@[simp] theorem State.setVal_pending (key : Nat) (v : Val) : (s.setVal key v).pending = s.pending := rfl
@[simp] theorem State.setVal_now (key : Nat) (v : Val) : (s.setVal key v).now = s.now := rfl
@[simp] theorem State.setVal_ident (key : Nat) (v : Val) : (s.setVal key v).ident = s.ident := rfl
@[simp] theorem State.setVal_out (key : Nat) (v : Val) : (s.setVal key v).out = s.out := rfl
@[simp] theorem State.setVal_free (key : Nat) (v : Val) : (s.setVal key v).free = s.free := rfl
@[simp] theorem State.setVal_flt (key : Nat) (v : Val) : (s.setVal key v).flt = s.flt := rfl
@[simp] theorem State.setVal_hostEv (key : Nat) (v : Val) : (s.setVal key v).hostEv = s.hostEv := rfl
@[simp] theorem State.setVal_fieldEv (key : Nat) (v : Val) : (s.setVal key v).fieldEv = s.fieldEv := rfl
@[simp] theorem State.setVal_tim (key : Nat) (v : Val) : (s.setVal key v).tim = s.tim := rfl
@[simp] theorem State.setVal_web (key : Nat) (v : Val) : (s.setVal key v).web = s.web := rfl
@[simp] theorem State.setVal_sched (key : Nat) (v : Val) : (s.setVal key v).sched = s.sched := rfl
@[simp] theorem State.setVal_planes (key : Nat) (v : Val) : (s.setVal key v).planes = s.planes := rfl
@[simp] theorem State.setVal_strips (key : Nat) (v : Val) : (s.setVal key v).strips = s.strips := rfl
@[simp] theorem State.setVal_screen (key : Nat) (v : Val) : (s.setVal key v).screen = s.screen := rfl
@[simp] theorem State.setVal_heads (key : Nat) (v : Val) : (s.setVal key v).heads = s.heads := rfl
@[simp] theorem State.setVal_ports (key : Nat) (v : Val) : (s.setVal key v).ports = s.ports := rfl
@[simp] theorem State.setVal_health (key : Nat) (v : Val) : (s.setVal key v).health = s.health := rfl
@[simp] theorem State.setVal_meas (key : Nat) (v : Val) : (s.setVal key v).meas = s.meas := rfl
@[simp] theorem State.setVal_cal (key : Nat) (v : Val) : (s.setVal key v).cal = s.cal := rfl
@[simp] theorem State.setVal_cams (key : Nat) (v : Val) : (s.setVal key v).cams = s.cams := rfl
@[simp] theorem State.setVal_ana (key : Nat) (v : Val) : (s.setVal key v).ana = s.ana := rfl
@[simp] theorem State.setVal_dram (key : Nat) (v : Val) : (s.setVal key v).dram = s.dram := rfl
@[simp] theorem State.setVal_comp (key : Nat) (v : Val) : (s.setVal key v).comp = s.comp := rfl
@[simp] theorem State.setVal_groups (key : Nat) (v : Val) : (s.setVal key v).groups = s.groups := rfl
@[simp] theorem State.setVal_net (key : Nat) (v : Val) : (s.setVal key v).net = s.net := rfl
@[simp] theorem State.setVal_span (key : Nat) (v : Val) : (s.setVal key v).span = s.span := rfl
@[simp] theorem State.setVal_pack (key : Nat) (v : Val) : (s.setVal key v).pack = s.pack := rfl
@[simp] theorem State.setVal_pow (key : Nat) (v : Val) : (s.setVal key v).pow = s.pow := rfl
@[simp] theorem State.setVal_rst (key : Nat) (v : Val) : (s.setVal key v).rst = s.rst := rfl
@[simp] theorem State.setVal_flash (key : Nat) (v : Val) : (s.setVal key v).flash = s.flash := rfl
@[simp] theorem State.setVal_sec (key : Nat) (v : Val) : (s.setVal key v).sec = s.sec := rfl
@[simp] theorem State.setVal_dux (key : Nat) (v : Val) : (s.setVal key v).dux = s.dux := rfl

/-! ### With a change count raised -/

@[simp] theorem State.touch_pending (key : Nat) : (s.touch key).pending = s.pending := rfl
@[simp] theorem State.touch_now (key : Nat) : (s.touch key).now = s.now := rfl
@[simp] theorem State.touch_ident (key : Nat) : (s.touch key).ident = s.ident := rfl
@[simp] theorem State.touch_dict (key : Nat) : (s.touch key).dict = s.dict := rfl
@[simp] theorem State.touch_out (key : Nat) : (s.touch key).out = s.out := rfl
@[simp] theorem State.touch_free (key : Nat) : (s.touch key).free = s.free := rfl
@[simp] theorem State.touch_flt (key : Nat) : (s.touch key).flt = s.flt := rfl
@[simp] theorem State.touch_hostEv (key : Nat) : (s.touch key).hostEv = s.hostEv := rfl
@[simp] theorem State.touch_fieldEv (key : Nat) : (s.touch key).fieldEv = s.fieldEv := rfl
@[simp] theorem State.touch_tim (key : Nat) : (s.touch key).tim = s.tim := rfl
@[simp] theorem State.touch_web (key : Nat) : (s.touch key).web = s.web := rfl
@[simp] theorem State.touch_sched (key : Nat) : (s.touch key).sched = s.sched := rfl
@[simp] theorem State.touch_planes (key : Nat) : (s.touch key).planes = s.planes := rfl
@[simp] theorem State.touch_strips (key : Nat) : (s.touch key).strips = s.strips := rfl
@[simp] theorem State.touch_screen (key : Nat) : (s.touch key).screen = s.screen := rfl
@[simp] theorem State.touch_heads (key : Nat) : (s.touch key).heads = s.heads := rfl
@[simp] theorem State.touch_ports (key : Nat) : (s.touch key).ports = s.ports := rfl
@[simp] theorem State.touch_health (key : Nat) : (s.touch key).health = s.health := rfl
@[simp] theorem State.touch_meas (key : Nat) : (s.touch key).meas = s.meas := rfl
@[simp] theorem State.touch_cal (key : Nat) : (s.touch key).cal = s.cal := rfl
@[simp] theorem State.touch_cams (key : Nat) : (s.touch key).cams = s.cams := rfl
@[simp] theorem State.touch_ana (key : Nat) : (s.touch key).ana = s.ana := rfl
@[simp] theorem State.touch_dram (key : Nat) : (s.touch key).dram = s.dram := rfl
@[simp] theorem State.touch_comp (key : Nat) : (s.touch key).comp = s.comp := rfl
@[simp] theorem State.touch_groups (key : Nat) : (s.touch key).groups = s.groups := rfl
@[simp] theorem State.touch_net (key : Nat) : (s.touch key).net = s.net := rfl
@[simp] theorem State.touch_span (key : Nat) : (s.touch key).span = s.span := rfl
@[simp] theorem State.touch_pack (key : Nat) : (s.touch key).pack = s.pack := rfl
@[simp] theorem State.touch_pow (key : Nat) : (s.touch key).pow = s.pow := rfl
@[simp] theorem State.touch_rst (key : Nat) : (s.touch key).rst = s.rst := rfl
@[simp] theorem State.touch_flash (key : Nat) : (s.touch key).flash = s.flash := rfl
@[simp] theorem State.touch_sec (key : Nat) : (s.touch key).sec = s.sec := rfl
@[simp] theorem State.touch_dux (key : Nat) : (s.touch key).dux = s.dux := rfl

/-! ### With an emission -/

@[simp] theorem State.emit_pending (e : Emit) : (s.emit e).pending = s.pending := rfl
@[simp] theorem State.emit_now (e : Emit) : (s.emit e).now = s.now := rfl
@[simp] theorem State.emit_ident (e : Emit) : (s.emit e).ident = s.ident := rfl
@[simp] theorem State.emit_dict (e : Emit) : (s.emit e).dict = s.dict := rfl
@[simp] theorem State.emit_chg (e : Emit) : (s.emit e).chg = s.chg := rfl
@[simp] theorem State.emit_free (e : Emit) : (s.emit e).free = s.free := rfl
@[simp] theorem State.emit_flt (e : Emit) : (s.emit e).flt = s.flt := rfl
@[simp] theorem State.emit_hostEv (e : Emit) : (s.emit e).hostEv = s.hostEv := rfl
@[simp] theorem State.emit_fieldEv (e : Emit) : (s.emit e).fieldEv = s.fieldEv := rfl
@[simp] theorem State.emit_tim (e : Emit) : (s.emit e).tim = s.tim := rfl
@[simp] theorem State.emit_web (e : Emit) : (s.emit e).web = s.web := rfl
@[simp] theorem State.emit_sched (e : Emit) : (s.emit e).sched = s.sched := rfl
@[simp] theorem State.emit_planes (e : Emit) : (s.emit e).planes = s.planes := rfl
@[simp] theorem State.emit_strips (e : Emit) : (s.emit e).strips = s.strips := rfl
@[simp] theorem State.emit_screen (e : Emit) : (s.emit e).screen = s.screen := rfl
@[simp] theorem State.emit_heads (e : Emit) : (s.emit e).heads = s.heads := rfl
@[simp] theorem State.emit_ports (e : Emit) : (s.emit e).ports = s.ports := rfl
@[simp] theorem State.emit_health (e : Emit) : (s.emit e).health = s.health := rfl
@[simp] theorem State.emit_meas (e : Emit) : (s.emit e).meas = s.meas := rfl
@[simp] theorem State.emit_cal (e : Emit) : (s.emit e).cal = s.cal := rfl
@[simp] theorem State.emit_cams (e : Emit) : (s.emit e).cams = s.cams := rfl
@[simp] theorem State.emit_ana (e : Emit) : (s.emit e).ana = s.ana := rfl
@[simp] theorem State.emit_dram (e : Emit) : (s.emit e).dram = s.dram := rfl
@[simp] theorem State.emit_comp (e : Emit) : (s.emit e).comp = s.comp := rfl
@[simp] theorem State.emit_groups (e : Emit) : (s.emit e).groups = s.groups := rfl
@[simp] theorem State.emit_net (e : Emit) : (s.emit e).net = s.net := rfl
@[simp] theorem State.emit_span (e : Emit) : (s.emit e).span = s.span := rfl
@[simp] theorem State.emit_pack (e : Emit) : (s.emit e).pack = s.pack := rfl
@[simp] theorem State.emit_pow (e : Emit) : (s.emit e).pow = s.pow := rfl
@[simp] theorem State.emit_rst (e : Emit) : (s.emit e).rst = s.rst := rfl
@[simp] theorem State.emit_flash (e : Emit) : (s.emit e).flash = s.flash := rfl
@[simp] theorem State.emit_sec (e : Emit) : (s.emit e).sec = s.sec := rfl
@[simp] theorem State.emit_dux (e : Emit) : (s.emit e).dux = s.dux := rfl

/-! ### With time passed -/

@[simp] theorem State.tickTo_pending (t : Nat) : (s.tickTo t).pending = s.pending := rfl
@[simp] theorem State.tickTo_ident (t : Nat) : (s.tickTo t).ident = s.ident := rfl
@[simp] theorem State.tickTo_dict (t : Nat) : (s.tickTo t).dict = s.dict := rfl
@[simp] theorem State.tickTo_chg (t : Nat) : (s.tickTo t).chg = s.chg := rfl
@[simp] theorem State.tickTo_free (t : Nat) : (s.tickTo t).free = s.free := rfl
@[simp] theorem State.tickTo_flt (t : Nat) : (s.tickTo t).flt = s.flt := rfl
@[simp] theorem State.tickTo_hostEv (t : Nat) : (s.tickTo t).hostEv = s.hostEv := rfl
@[simp] theorem State.tickTo_fieldEv (t : Nat) : (s.tickTo t).fieldEv = s.fieldEv := rfl
@[simp] theorem State.tickTo_web (t : Nat) : (s.tickTo t).web = s.web := rfl
@[simp] theorem State.tickTo_sched (t : Nat) : (s.tickTo t).sched = s.sched := rfl
@[simp] theorem State.tickTo_planes (t : Nat) : (s.tickTo t).planes = s.planes := rfl
@[simp] theorem State.tickTo_strips (t : Nat) : (s.tickTo t).strips = s.strips := rfl
@[simp] theorem State.tickTo_screen (t : Nat) : (s.tickTo t).screen = s.screen := rfl
@[simp] theorem State.tickTo_heads (t : Nat) : (s.tickTo t).heads = s.heads := rfl
@[simp] theorem State.tickTo_ports (t : Nat) : (s.tickTo t).ports = s.ports := rfl
@[simp] theorem State.tickTo_health (t : Nat) : (s.tickTo t).health = s.health := rfl
@[simp] theorem State.tickTo_meas (t : Nat) : (s.tickTo t).meas = s.meas := rfl
@[simp] theorem State.tickTo_cal (t : Nat) : (s.tickTo t).cal = s.cal := rfl
@[simp] theorem State.tickTo_cams (t : Nat) : (s.tickTo t).cams = s.cams := rfl
@[simp] theorem State.tickTo_ana (t : Nat) : (s.tickTo t).ana = s.ana := rfl
@[simp] theorem State.tickTo_dram (t : Nat) : (s.tickTo t).dram = s.dram := rfl
@[simp] theorem State.tickTo_comp (t : Nat) : (s.tickTo t).comp = s.comp := rfl
@[simp] theorem State.tickTo_groups (t : Nat) : (s.tickTo t).groups = s.groups := rfl
@[simp] theorem State.tickTo_net (t : Nat) : (s.tickTo t).net = s.net := rfl
@[simp] theorem State.tickTo_span (t : Nat) : (s.tickTo t).span = s.span := rfl
@[simp] theorem State.tickTo_pack (t : Nat) : (s.tickTo t).pack = s.pack := rfl
@[simp] theorem State.tickTo_pow (t : Nat) : (s.tickTo t).pow = s.pow := rfl
@[simp] theorem State.tickTo_rst (t : Nat) : (s.tickTo t).rst = s.rst := rfl
@[simp] theorem State.tickTo_flash (t : Nat) : (s.tickTo t).flash = s.flash := rfl
@[simp] theorem State.tickTo_sec (t : Nat) : (s.tickTo t).sec = s.sec := rfl
@[simp] theorem State.tickTo_dux (t : Nat) : (s.tickTo t).dux = s.dux := rfl

/-! ### With the fault machinery replaced -/

@[simp] theorem State.setFlt_pending (x : Flt) : (s.setFlt x).pending = s.pending := rfl
@[simp] theorem State.setFlt_now (x : Flt) : (s.setFlt x).now = s.now := rfl
@[simp] theorem State.setFlt_ident (x : Flt) : (s.setFlt x).ident = s.ident := rfl
@[simp] theorem State.setFlt_dict (x : Flt) : (s.setFlt x).dict = s.dict := rfl
@[simp] theorem State.setFlt_chg (x : Flt) : (s.setFlt x).chg = s.chg := rfl
@[simp] theorem State.setFlt_out (x : Flt) : (s.setFlt x).out = s.out := rfl
@[simp] theorem State.setFlt_free (x : Flt) : (s.setFlt x).free = s.free := rfl
@[simp] theorem State.setFlt_hostEv (x : Flt) : (s.setFlt x).hostEv = s.hostEv := rfl
@[simp] theorem State.setFlt_fieldEv (x : Flt) : (s.setFlt x).fieldEv = s.fieldEv := rfl
@[simp] theorem State.setFlt_tim (x : Flt) : (s.setFlt x).tim = s.tim := rfl
@[simp] theorem State.setFlt_web (x : Flt) : (s.setFlt x).web = s.web := rfl
@[simp] theorem State.setFlt_sched (x : Flt) : (s.setFlt x).sched = s.sched := rfl
@[simp] theorem State.setFlt_planes (x : Flt) : (s.setFlt x).planes = s.planes := rfl
@[simp] theorem State.setFlt_strips (x : Flt) : (s.setFlt x).strips = s.strips := rfl
@[simp] theorem State.setFlt_screen (x : Flt) : (s.setFlt x).screen = s.screen := rfl
@[simp] theorem State.setFlt_heads (x : Flt) : (s.setFlt x).heads = s.heads := rfl
@[simp] theorem State.setFlt_ports (x : Flt) : (s.setFlt x).ports = s.ports := rfl
@[simp] theorem State.setFlt_health (x : Flt) : (s.setFlt x).health = s.health := rfl
@[simp] theorem State.setFlt_meas (x : Flt) : (s.setFlt x).meas = s.meas := rfl
@[simp] theorem State.setFlt_cal (x : Flt) : (s.setFlt x).cal = s.cal := rfl
@[simp] theorem State.setFlt_cams (x : Flt) : (s.setFlt x).cams = s.cams := rfl
@[simp] theorem State.setFlt_ana (x : Flt) : (s.setFlt x).ana = s.ana := rfl
@[simp] theorem State.setFlt_dram (x : Flt) : (s.setFlt x).dram = s.dram := rfl
@[simp] theorem State.setFlt_comp (x : Flt) : (s.setFlt x).comp = s.comp := rfl
@[simp] theorem State.setFlt_groups (x : Flt) : (s.setFlt x).groups = s.groups := rfl
@[simp] theorem State.setFlt_net (x : Flt) : (s.setFlt x).net = s.net := rfl
@[simp] theorem State.setFlt_span (x : Flt) : (s.setFlt x).span = s.span := rfl
@[simp] theorem State.setFlt_pack (x : Flt) : (s.setFlt x).pack = s.pack := rfl
@[simp] theorem State.setFlt_pow (x : Flt) : (s.setFlt x).pow = s.pow := rfl
@[simp] theorem State.setFlt_rst (x : Flt) : (s.setFlt x).rst = s.rst := rfl
@[simp] theorem State.setFlt_flash (x : Flt) : (s.setFlt x).flash = s.flash := rfl
@[simp] theorem State.setFlt_sec (x : Flt) : (s.setFlt x).sec = s.sec := rfl
@[simp] theorem State.setFlt_dux (x : Flt) : (s.setFlt x).dux = s.dux := rfl

/-! ### With a log part replaced -/

@[simp] theorem State.setLog_pending (i : Side) (x : LogPart) : (s.setLog i x).pending = s.pending := by cases i <;> rfl
@[simp] theorem State.setLog_now (i : Side) (x : LogPart) : (s.setLog i x).now = s.now := by cases i <;> rfl
@[simp] theorem State.setLog_ident (i : Side) (x : LogPart) : (s.setLog i x).ident = s.ident := by cases i <;> rfl
@[simp] theorem State.setLog_dict (i : Side) (x : LogPart) : (s.setLog i x).dict = s.dict := by cases i <;> rfl
@[simp] theorem State.setLog_chg (i : Side) (x : LogPart) : (s.setLog i x).chg = s.chg := by cases i <;> rfl
@[simp] theorem State.setLog_out (i : Side) (x : LogPart) : (s.setLog i x).out = s.out := by cases i <;> rfl
@[simp] theorem State.setLog_free (i : Side) (x : LogPart) : (s.setLog i x).free = s.free := by cases i <;> rfl
@[simp] theorem State.setLog_hostEv (i : Side) (x : LogPart) : (s.setLog i x).hostEv = s.hostEv := by cases i <;> rfl
@[simp] theorem State.setLog_fieldEv (i : Side) (x : LogPart) : (s.setLog i x).fieldEv = s.fieldEv := by cases i <;> rfl
@[simp] theorem State.setLog_tim (i : Side) (x : LogPart) : (s.setLog i x).tim = s.tim := by cases i <;> rfl
@[simp] theorem State.setLog_web (i : Side) (x : LogPart) : (s.setLog i x).web = s.web := by cases i <;> rfl
@[simp] theorem State.setLog_sched (i : Side) (x : LogPart) : (s.setLog i x).sched = s.sched := by cases i <;> rfl
@[simp] theorem State.setLog_planes (i : Side) (x : LogPart) : (s.setLog i x).planes = s.planes := by cases i <;> rfl
@[simp] theorem State.setLog_strips (i : Side) (x : LogPart) : (s.setLog i x).strips = s.strips := by cases i <;> rfl
@[simp] theorem State.setLog_screen (i : Side) (x : LogPart) : (s.setLog i x).screen = s.screen := by cases i <;> rfl
@[simp] theorem State.setLog_heads (i : Side) (x : LogPart) : (s.setLog i x).heads = s.heads := by cases i <;> rfl
@[simp] theorem State.setLog_ports (i : Side) (x : LogPart) : (s.setLog i x).ports = s.ports := by cases i <;> rfl
@[simp] theorem State.setLog_health (i : Side) (x : LogPart) : (s.setLog i x).health = s.health := by cases i <;> rfl
@[simp] theorem State.setLog_meas (i : Side) (x : LogPart) : (s.setLog i x).meas = s.meas := by cases i <;> rfl
@[simp] theorem State.setLog_cal (i : Side) (x : LogPart) : (s.setLog i x).cal = s.cal := by cases i <;> rfl
@[simp] theorem State.setLog_cams (i : Side) (x : LogPart) : (s.setLog i x).cams = s.cams := by cases i <;> rfl
@[simp] theorem State.setLog_ana (i : Side) (x : LogPart) : (s.setLog i x).ana = s.ana := by cases i <;> rfl
@[simp] theorem State.setLog_dram (i : Side) (x : LogPart) : (s.setLog i x).dram = s.dram := by cases i <;> rfl
@[simp] theorem State.setLog_comp (i : Side) (x : LogPart) : (s.setLog i x).comp = s.comp := by cases i <;> rfl
@[simp] theorem State.setLog_groups (i : Side) (x : LogPart) : (s.setLog i x).groups = s.groups := by cases i <;> rfl
@[simp] theorem State.setLog_net (i : Side) (x : LogPart) : (s.setLog i x).net = s.net := by cases i <;> rfl
@[simp] theorem State.setLog_span (i : Side) (x : LogPart) : (s.setLog i x).span = s.span := by cases i <;> rfl
@[simp] theorem State.setLog_pack (i : Side) (x : LogPart) : (s.setLog i x).pack = s.pack := by cases i <;> rfl
@[simp] theorem State.setLog_pow (i : Side) (x : LogPart) : (s.setLog i x).pow = s.pow := by cases i <;> rfl
@[simp] theorem State.setLog_rst (i : Side) (x : LogPart) : (s.setLog i x).rst = s.rst := by cases i <;> rfl
@[simp] theorem State.setLog_flash (i : Side) (x : LogPart) : (s.setLog i x).flash = s.flash := by cases i <;> rfl
@[simp] theorem State.setLog_sec (i : Side) (x : LogPart) : (s.setLog i x).sec = s.sec := by cases i <;> rfl
@[simp] theorem State.setLog_dux (i : Side) (x : LogPart) : (s.setLog i x).dux = s.dux := by cases i <;> rfl

/-! ### With an encoder channel replaced -/

@[simp] theorem State.setEnc_pending (e : Nat) (x : Enc) : (s.setEnc e x).pending = s.pending := rfl
@[simp] theorem State.setEnc_now (e : Nat) (x : Enc) : (s.setEnc e x).now = s.now := rfl
@[simp] theorem State.setEnc_ident (e : Nat) (x : Enc) : (s.setEnc e x).ident = s.ident := rfl
@[simp] theorem State.setEnc_dict (e : Nat) (x : Enc) : (s.setEnc e x).dict = s.dict := rfl
@[simp] theorem State.setEnc_chg (e : Nat) (x : Enc) : (s.setEnc e x).chg = s.chg := rfl
@[simp] theorem State.setEnc_out (e : Nat) (x : Enc) : (s.setEnc e x).out = s.out := rfl
@[simp] theorem State.setEnc_free (e : Nat) (x : Enc) : (s.setEnc e x).free = s.free := rfl
@[simp] theorem State.setEnc_flt (e : Nat) (x : Enc) : (s.setEnc e x).flt = s.flt := rfl
@[simp] theorem State.setEnc_hostEv (e : Nat) (x : Enc) : (s.setEnc e x).hostEv = s.hostEv := rfl
@[simp] theorem State.setEnc_fieldEv (e : Nat) (x : Enc) : (s.setEnc e x).fieldEv = s.fieldEv := rfl
@[simp] theorem State.setEnc_tim (e : Nat) (x : Enc) : (s.setEnc e x).tim = s.tim := rfl
@[simp] theorem State.setEnc_sched (e : Nat) (x : Enc) : (s.setEnc e x).sched = s.sched := rfl
@[simp] theorem State.setEnc_planes (e : Nat) (x : Enc) : (s.setEnc e x).planes = s.planes := rfl
@[simp] theorem State.setEnc_strips (e : Nat) (x : Enc) : (s.setEnc e x).strips = s.strips := rfl
@[simp] theorem State.setEnc_screen (e : Nat) (x : Enc) : (s.setEnc e x).screen = s.screen := rfl
@[simp] theorem State.setEnc_heads (e : Nat) (x : Enc) : (s.setEnc e x).heads = s.heads := rfl
@[simp] theorem State.setEnc_ports (e : Nat) (x : Enc) : (s.setEnc e x).ports = s.ports := rfl
@[simp] theorem State.setEnc_health (e : Nat) (x : Enc) : (s.setEnc e x).health = s.health := rfl
@[simp] theorem State.setEnc_meas (e : Nat) (x : Enc) : (s.setEnc e x).meas = s.meas := rfl
@[simp] theorem State.setEnc_cal (e : Nat) (x : Enc) : (s.setEnc e x).cal = s.cal := rfl
@[simp] theorem State.setEnc_cams (e : Nat) (x : Enc) : (s.setEnc e x).cams = s.cams := rfl
@[simp] theorem State.setEnc_ana (e : Nat) (x : Enc) : (s.setEnc e x).ana = s.ana := rfl
@[simp] theorem State.setEnc_dram (e : Nat) (x : Enc) : (s.setEnc e x).dram = s.dram := rfl
@[simp] theorem State.setEnc_comp (e : Nat) (x : Enc) : (s.setEnc e x).comp = s.comp := rfl
@[simp] theorem State.setEnc_groups (e : Nat) (x : Enc) : (s.setEnc e x).groups = s.groups := rfl
@[simp] theorem State.setEnc_net (e : Nat) (x : Enc) : (s.setEnc e x).net = s.net := rfl
@[simp] theorem State.setEnc_span (e : Nat) (x : Enc) : (s.setEnc e x).span = s.span := rfl
@[simp] theorem State.setEnc_pack (e : Nat) (x : Enc) : (s.setEnc e x).pack = s.pack := rfl
@[simp] theorem State.setEnc_pow (e : Nat) (x : Enc) : (s.setEnc e x).pow = s.pow := rfl
@[simp] theorem State.setEnc_rst (e : Nat) (x : Enc) : (s.setEnc e x).rst = s.rst := rfl
@[simp] theorem State.setEnc_flash (e : Nat) (x : Enc) : (s.setEnc e x).flash = s.flash := rfl
@[simp] theorem State.setEnc_sec (e : Nat) (x : Enc) : (s.setEnc e x).sec = s.sec := rfl
@[simp] theorem State.setEnc_dux (e : Nat) (x : Enc) : (s.setEnc e x).dux = s.dux := rfl

/-! ### With the web position unit replaced -/

@[simp] theorem State.setWeb_pending (x : Web) : (s.setWeb x).pending = s.pending := rfl
@[simp] theorem State.setWeb_now (x : Web) : (s.setWeb x).now = s.now := rfl
@[simp] theorem State.setWeb_ident (x : Web) : (s.setWeb x).ident = s.ident := rfl
@[simp] theorem State.setWeb_dict (x : Web) : (s.setWeb x).dict = s.dict := rfl
@[simp] theorem State.setWeb_chg (x : Web) : (s.setWeb x).chg = s.chg := rfl
@[simp] theorem State.setWeb_out (x : Web) : (s.setWeb x).out = s.out := rfl
@[simp] theorem State.setWeb_free (x : Web) : (s.setWeb x).free = s.free := rfl
@[simp] theorem State.setWeb_flt (x : Web) : (s.setWeb x).flt = s.flt := rfl
@[simp] theorem State.setWeb_hostEv (x : Web) : (s.setWeb x).hostEv = s.hostEv := rfl
@[simp] theorem State.setWeb_fieldEv (x : Web) : (s.setWeb x).fieldEv = s.fieldEv := rfl
@[simp] theorem State.setWeb_tim (x : Web) : (s.setWeb x).tim = s.tim := rfl
@[simp] theorem State.setWeb_sched (x : Web) : (s.setWeb x).sched = s.sched := rfl
@[simp] theorem State.setWeb_planes (x : Web) : (s.setWeb x).planes = s.planes := rfl
@[simp] theorem State.setWeb_strips (x : Web) : (s.setWeb x).strips = s.strips := rfl
@[simp] theorem State.setWeb_screen (x : Web) : (s.setWeb x).screen = s.screen := rfl
@[simp] theorem State.setWeb_heads (x : Web) : (s.setWeb x).heads = s.heads := rfl
@[simp] theorem State.setWeb_ports (x : Web) : (s.setWeb x).ports = s.ports := rfl
@[simp] theorem State.setWeb_health (x : Web) : (s.setWeb x).health = s.health := rfl
@[simp] theorem State.setWeb_meas (x : Web) : (s.setWeb x).meas = s.meas := rfl
@[simp] theorem State.setWeb_cal (x : Web) : (s.setWeb x).cal = s.cal := rfl
@[simp] theorem State.setWeb_cams (x : Web) : (s.setWeb x).cams = s.cams := rfl
@[simp] theorem State.setWeb_ana (x : Web) : (s.setWeb x).ana = s.ana := rfl
@[simp] theorem State.setWeb_dram (x : Web) : (s.setWeb x).dram = s.dram := rfl
@[simp] theorem State.setWeb_comp (x : Web) : (s.setWeb x).comp = s.comp := rfl
@[simp] theorem State.setWeb_groups (x : Web) : (s.setWeb x).groups = s.groups := rfl
@[simp] theorem State.setWeb_net (x : Web) : (s.setWeb x).net = s.net := rfl
@[simp] theorem State.setWeb_span (x : Web) : (s.setWeb x).span = s.span := rfl
@[simp] theorem State.setWeb_pack (x : Web) : (s.setWeb x).pack = s.pack := rfl
@[simp] theorem State.setWeb_pow (x : Web) : (s.setWeb x).pow = s.pow := rfl
@[simp] theorem State.setWeb_rst (x : Web) : (s.setWeb x).rst = s.rst := rfl
@[simp] theorem State.setWeb_flash (x : Web) : (s.setWeb x).flash = s.flash := rfl
@[simp] theorem State.setWeb_sec (x : Web) : (s.setWeb x).sec = s.sec := rfl
@[simp] theorem State.setWeb_dux (x : Web) : (s.setWeb x).dux = s.dux := rfl

/-! ### With the schedule replaced -/

@[simp] theorem State.setSched_pending (x : Sched) : (s.setSched x).pending = s.pending := rfl
@[simp] theorem State.setSched_now (x : Sched) : (s.setSched x).now = s.now := rfl
@[simp] theorem State.setSched_ident (x : Sched) : (s.setSched x).ident = s.ident := rfl
@[simp] theorem State.setSched_dict (x : Sched) : (s.setSched x).dict = s.dict := rfl
@[simp] theorem State.setSched_chg (x : Sched) : (s.setSched x).chg = s.chg := rfl
@[simp] theorem State.setSched_out (x : Sched) : (s.setSched x).out = s.out := rfl
@[simp] theorem State.setSched_free (x : Sched) : (s.setSched x).free = s.free := rfl
@[simp] theorem State.setSched_flt (x : Sched) : (s.setSched x).flt = s.flt := rfl
@[simp] theorem State.setSched_hostEv (x : Sched) : (s.setSched x).hostEv = s.hostEv := rfl
@[simp] theorem State.setSched_fieldEv (x : Sched) : (s.setSched x).fieldEv = s.fieldEv := rfl
@[simp] theorem State.setSched_tim (x : Sched) : (s.setSched x).tim = s.tim := rfl
@[simp] theorem State.setSched_web (x : Sched) : (s.setSched x).web = s.web := rfl
@[simp] theorem State.setSched_planes (x : Sched) : (s.setSched x).planes = s.planes := rfl
@[simp] theorem State.setSched_strips (x : Sched) : (s.setSched x).strips = s.strips := rfl
@[simp] theorem State.setSched_screen (x : Sched) : (s.setSched x).screen = s.screen := rfl
@[simp] theorem State.setSched_heads (x : Sched) : (s.setSched x).heads = s.heads := rfl
@[simp] theorem State.setSched_ports (x : Sched) : (s.setSched x).ports = s.ports := rfl
@[simp] theorem State.setSched_health (x : Sched) : (s.setSched x).health = s.health := rfl
@[simp] theorem State.setSched_meas (x : Sched) : (s.setSched x).meas = s.meas := rfl
@[simp] theorem State.setSched_cal (x : Sched) : (s.setSched x).cal = s.cal := rfl
@[simp] theorem State.setSched_cams (x : Sched) : (s.setSched x).cams = s.cams := rfl
@[simp] theorem State.setSched_ana (x : Sched) : (s.setSched x).ana = s.ana := rfl
@[simp] theorem State.setSched_dram (x : Sched) : (s.setSched x).dram = s.dram := rfl
@[simp] theorem State.setSched_comp (x : Sched) : (s.setSched x).comp = s.comp := rfl
@[simp] theorem State.setSched_groups (x : Sched) : (s.setSched x).groups = s.groups := rfl
@[simp] theorem State.setSched_net (x : Sched) : (s.setSched x).net = s.net := rfl
@[simp] theorem State.setSched_span (x : Sched) : (s.setSched x).span = s.span := rfl
@[simp] theorem State.setSched_pack (x : Sched) : (s.setSched x).pack = s.pack := rfl
@[simp] theorem State.setSched_pow (x : Sched) : (s.setSched x).pow = s.pow := rfl
@[simp] theorem State.setSched_rst (x : Sched) : (s.setSched x).rst = s.rst := rfl
@[simp] theorem State.setSched_flash (x : Sched) : (s.setSched x).flash = s.flash := rfl
@[simp] theorem State.setSched_sec (x : Sched) : (s.setSched x).sec = s.sec := rfl
@[simp] theorem State.setSched_dux (x : Sched) : (s.setSched x).dux = s.dux := rfl

/-! ### With a plane replaced -/

@[simp] theorem State.setPlane_pending (k : Nat) (x : Plane) : (s.setPlane k x).pending = s.pending := rfl
@[simp] theorem State.setPlane_now (k : Nat) (x : Plane) : (s.setPlane k x).now = s.now := rfl
@[simp] theorem State.setPlane_ident (k : Nat) (x : Plane) : (s.setPlane k x).ident = s.ident := rfl
@[simp] theorem State.setPlane_dict (k : Nat) (x : Plane) : (s.setPlane k x).dict = s.dict := rfl
@[simp] theorem State.setPlane_chg (k : Nat) (x : Plane) : (s.setPlane k x).chg = s.chg := rfl
@[simp] theorem State.setPlane_out (k : Nat) (x : Plane) : (s.setPlane k x).out = s.out := rfl
@[simp] theorem State.setPlane_free (k : Nat) (x : Plane) : (s.setPlane k x).free = s.free := rfl
@[simp] theorem State.setPlane_flt (k : Nat) (x : Plane) : (s.setPlane k x).flt = s.flt := rfl
@[simp] theorem State.setPlane_hostEv (k : Nat) (x : Plane) : (s.setPlane k x).hostEv = s.hostEv := rfl
@[simp] theorem State.setPlane_fieldEv (k : Nat) (x : Plane) : (s.setPlane k x).fieldEv = s.fieldEv := rfl
@[simp] theorem State.setPlane_tim (k : Nat) (x : Plane) : (s.setPlane k x).tim = s.tim := rfl
@[simp] theorem State.setPlane_web (k : Nat) (x : Plane) : (s.setPlane k x).web = s.web := rfl
@[simp] theorem State.setPlane_sched (k : Nat) (x : Plane) : (s.setPlane k x).sched = s.sched := rfl
@[simp] theorem State.setPlane_strips (k : Nat) (x : Plane) : (s.setPlane k x).strips = s.strips := rfl
@[simp] theorem State.setPlane_screen (k : Nat) (x : Plane) : (s.setPlane k x).screen = s.screen := rfl
@[simp] theorem State.setPlane_heads (k : Nat) (x : Plane) : (s.setPlane k x).heads = s.heads := rfl
@[simp] theorem State.setPlane_ports (k : Nat) (x : Plane) : (s.setPlane k x).ports = s.ports := rfl
@[simp] theorem State.setPlane_health (k : Nat) (x : Plane) : (s.setPlane k x).health = s.health := rfl
@[simp] theorem State.setPlane_meas (k : Nat) (x : Plane) : (s.setPlane k x).meas = s.meas := rfl
@[simp] theorem State.setPlane_cal (k : Nat) (x : Plane) : (s.setPlane k x).cal = s.cal := rfl
@[simp] theorem State.setPlane_cams (k : Nat) (x : Plane) : (s.setPlane k x).cams = s.cams := rfl
@[simp] theorem State.setPlane_ana (k : Nat) (x : Plane) : (s.setPlane k x).ana = s.ana := rfl
@[simp] theorem State.setPlane_dram (k : Nat) (x : Plane) : (s.setPlane k x).dram = s.dram := rfl
@[simp] theorem State.setPlane_comp (k : Nat) (x : Plane) : (s.setPlane k x).comp = s.comp := rfl
@[simp] theorem State.setPlane_groups (k : Nat) (x : Plane) : (s.setPlane k x).groups = s.groups := rfl
@[simp] theorem State.setPlane_net (k : Nat) (x : Plane) : (s.setPlane k x).net = s.net := rfl
@[simp] theorem State.setPlane_span (k : Nat) (x : Plane) : (s.setPlane k x).span = s.span := rfl
@[simp] theorem State.setPlane_pack (k : Nat) (x : Plane) : (s.setPlane k x).pack = s.pack := rfl
@[simp] theorem State.setPlane_pow (k : Nat) (x : Plane) : (s.setPlane k x).pow = s.pow := rfl
@[simp] theorem State.setPlane_rst (k : Nat) (x : Plane) : (s.setPlane k x).rst = s.rst := rfl
@[simp] theorem State.setPlane_flash (k : Nat) (x : Plane) : (s.setPlane k x).flash = s.flash := rfl
@[simp] theorem State.setPlane_sec (k : Nat) (x : Plane) : (s.setPlane k x).sec = s.sec := rfl
@[simp] theorem State.setPlane_dux (k : Nat) (x : Plane) : (s.setPlane k x).dux = s.dux := rfl

/-! ### With a head replaced -/

@[simp] theorem State.setHead_pending (h : Nat) (x : Head) : (s.setHead h x).pending = s.pending := rfl
@[simp] theorem State.setHead_now (h : Nat) (x : Head) : (s.setHead h x).now = s.now := rfl
@[simp] theorem State.setHead_ident (h : Nat) (x : Head) : (s.setHead h x).ident = s.ident := rfl
@[simp] theorem State.setHead_dict (h : Nat) (x : Head) : (s.setHead h x).dict = s.dict := rfl
@[simp] theorem State.setHead_chg (h : Nat) (x : Head) : (s.setHead h x).chg = s.chg := rfl
@[simp] theorem State.setHead_out (h : Nat) (x : Head) : (s.setHead h x).out = s.out := rfl
@[simp] theorem State.setHead_free (h : Nat) (x : Head) : (s.setHead h x).free = s.free := rfl
@[simp] theorem State.setHead_flt (h : Nat) (x : Head) : (s.setHead h x).flt = s.flt := rfl
@[simp] theorem State.setHead_hostEv (h : Nat) (x : Head) : (s.setHead h x).hostEv = s.hostEv := rfl
@[simp] theorem State.setHead_fieldEv (h : Nat) (x : Head) : (s.setHead h x).fieldEv = s.fieldEv := rfl
@[simp] theorem State.setHead_tim (h : Nat) (x : Head) : (s.setHead h x).tim = s.tim := rfl
@[simp] theorem State.setHead_web (h : Nat) (x : Head) : (s.setHead h x).web = s.web := rfl
@[simp] theorem State.setHead_sched (h : Nat) (x : Head) : (s.setHead h x).sched = s.sched := rfl
@[simp] theorem State.setHead_planes (h : Nat) (x : Head) : (s.setHead h x).planes = s.planes := rfl
@[simp] theorem State.setHead_strips (h : Nat) (x : Head) : (s.setHead h x).strips = s.strips := rfl
@[simp] theorem State.setHead_screen (h : Nat) (x : Head) : (s.setHead h x).screen = s.screen := rfl
@[simp] theorem State.setHead_ports (h : Nat) (x : Head) : (s.setHead h x).ports = s.ports := rfl
@[simp] theorem State.setHead_health (h : Nat) (x : Head) : (s.setHead h x).health = s.health := rfl
@[simp] theorem State.setHead_meas (h : Nat) (x : Head) : (s.setHead h x).meas = s.meas := rfl
@[simp] theorem State.setHead_cal (h : Nat) (x : Head) : (s.setHead h x).cal = s.cal := rfl
@[simp] theorem State.setHead_cams (h : Nat) (x : Head) : (s.setHead h x).cams = s.cams := rfl
@[simp] theorem State.setHead_ana (h : Nat) (x : Head) : (s.setHead h x).ana = s.ana := rfl
@[simp] theorem State.setHead_dram (h : Nat) (x : Head) : (s.setHead h x).dram = s.dram := rfl
@[simp] theorem State.setHead_comp (h : Nat) (x : Head) : (s.setHead h x).comp = s.comp := rfl
@[simp] theorem State.setHead_groups (h : Nat) (x : Head) : (s.setHead h x).groups = s.groups := rfl
@[simp] theorem State.setHead_net (h : Nat) (x : Head) : (s.setHead h x).net = s.net := rfl
@[simp] theorem State.setHead_span (h : Nat) (x : Head) : (s.setHead h x).span = s.span := rfl
@[simp] theorem State.setHead_pack (h : Nat) (x : Head) : (s.setHead h x).pack = s.pack := rfl
@[simp] theorem State.setHead_pow (h : Nat) (x : Head) : (s.setHead h x).pow = s.pow := rfl
@[simp] theorem State.setHead_rst (h : Nat) (x : Head) : (s.setHead h x).rst = s.rst := rfl
@[simp] theorem State.setHead_flash (h : Nat) (x : Head) : (s.setHead h x).flash = s.flash := rfl
@[simp] theorem State.setHead_sec (h : Nat) (x : Head) : (s.setHead h x).sec = s.sec := rfl
@[simp] theorem State.setHead_dux (h : Nat) (x : Head) : (s.setHead h x).dux = s.dux := rfl

/-! ### With a port replaced -/

@[simp] theorem State.setPort_pending (h : Nat) (x : Port) : (s.setPort h x).pending = s.pending := rfl
@[simp] theorem State.setPort_now (h : Nat) (x : Port) : (s.setPort h x).now = s.now := rfl
@[simp] theorem State.setPort_ident (h : Nat) (x : Port) : (s.setPort h x).ident = s.ident := rfl
@[simp] theorem State.setPort_dict (h : Nat) (x : Port) : (s.setPort h x).dict = s.dict := rfl
@[simp] theorem State.setPort_chg (h : Nat) (x : Port) : (s.setPort h x).chg = s.chg := rfl
@[simp] theorem State.setPort_out (h : Nat) (x : Port) : (s.setPort h x).out = s.out := rfl
@[simp] theorem State.setPort_free (h : Nat) (x : Port) : (s.setPort h x).free = s.free := rfl
@[simp] theorem State.setPort_flt (h : Nat) (x : Port) : (s.setPort h x).flt = s.flt := rfl
@[simp] theorem State.setPort_hostEv (h : Nat) (x : Port) : (s.setPort h x).hostEv = s.hostEv := rfl
@[simp] theorem State.setPort_fieldEv (h : Nat) (x : Port) : (s.setPort h x).fieldEv = s.fieldEv := rfl
@[simp] theorem State.setPort_tim (h : Nat) (x : Port) : (s.setPort h x).tim = s.tim := rfl
@[simp] theorem State.setPort_web (h : Nat) (x : Port) : (s.setPort h x).web = s.web := rfl
@[simp] theorem State.setPort_sched (h : Nat) (x : Port) : (s.setPort h x).sched = s.sched := rfl
@[simp] theorem State.setPort_planes (h : Nat) (x : Port) : (s.setPort h x).planes = s.planes := rfl
@[simp] theorem State.setPort_strips (h : Nat) (x : Port) : (s.setPort h x).strips = s.strips := rfl
@[simp] theorem State.setPort_screen (h : Nat) (x : Port) : (s.setPort h x).screen = s.screen := rfl
@[simp] theorem State.setPort_heads (h : Nat) (x : Port) : (s.setPort h x).heads = s.heads := rfl
@[simp] theorem State.setPort_health (h : Nat) (x : Port) : (s.setPort h x).health = s.health := rfl
@[simp] theorem State.setPort_meas (h : Nat) (x : Port) : (s.setPort h x).meas = s.meas := rfl
@[simp] theorem State.setPort_cal (h : Nat) (x : Port) : (s.setPort h x).cal = s.cal := rfl
@[simp] theorem State.setPort_cams (h : Nat) (x : Port) : (s.setPort h x).cams = s.cams := rfl
@[simp] theorem State.setPort_ana (h : Nat) (x : Port) : (s.setPort h x).ana = s.ana := rfl
@[simp] theorem State.setPort_dram (h : Nat) (x : Port) : (s.setPort h x).dram = s.dram := rfl
@[simp] theorem State.setPort_comp (h : Nat) (x : Port) : (s.setPort h x).comp = s.comp := rfl
@[simp] theorem State.setPort_groups (h : Nat) (x : Port) : (s.setPort h x).groups = s.groups := rfl
@[simp] theorem State.setPort_net (h : Nat) (x : Port) : (s.setPort h x).net = s.net := rfl
@[simp] theorem State.setPort_span (h : Nat) (x : Port) : (s.setPort h x).span = s.span := rfl
@[simp] theorem State.setPort_pack (h : Nat) (x : Port) : (s.setPort h x).pack = s.pack := rfl
@[simp] theorem State.setPort_pow (h : Nat) (x : Port) : (s.setPort h x).pow = s.pow := rfl
@[simp] theorem State.setPort_rst (h : Nat) (x : Port) : (s.setPort h x).rst = s.rst := rfl
@[simp] theorem State.setPort_flash (h : Nat) (x : Port) : (s.setPort h x).flash = s.flash := rfl
@[simp] theorem State.setPort_sec (h : Nat) (x : Port) : (s.setPort h x).sec = s.sec := rfl
@[simp] theorem State.setPort_dux (h : Nat) (x : Port) : (s.setPort h x).dux = s.dux := rfl

/-! ### With a head's measurements replaced -/

@[simp] theorem State.setMeas_pending (h : Nat) (x : Meas) : (s.setMeas h x).pending = s.pending := rfl
@[simp] theorem State.setMeas_now (h : Nat) (x : Meas) : (s.setMeas h x).now = s.now := rfl
@[simp] theorem State.setMeas_ident (h : Nat) (x : Meas) : (s.setMeas h x).ident = s.ident := rfl
@[simp] theorem State.setMeas_dict (h : Nat) (x : Meas) : (s.setMeas h x).dict = s.dict := rfl
@[simp] theorem State.setMeas_chg (h : Nat) (x : Meas) : (s.setMeas h x).chg = s.chg := rfl
@[simp] theorem State.setMeas_out (h : Nat) (x : Meas) : (s.setMeas h x).out = s.out := rfl
@[simp] theorem State.setMeas_free (h : Nat) (x : Meas) : (s.setMeas h x).free = s.free := rfl
@[simp] theorem State.setMeas_flt (h : Nat) (x : Meas) : (s.setMeas h x).flt = s.flt := rfl
@[simp] theorem State.setMeas_hostEv (h : Nat) (x : Meas) : (s.setMeas h x).hostEv = s.hostEv := rfl
@[simp] theorem State.setMeas_fieldEv (h : Nat) (x : Meas) : (s.setMeas h x).fieldEv = s.fieldEv := rfl
@[simp] theorem State.setMeas_tim (h : Nat) (x : Meas) : (s.setMeas h x).tim = s.tim := rfl
@[simp] theorem State.setMeas_web (h : Nat) (x : Meas) : (s.setMeas h x).web = s.web := rfl
@[simp] theorem State.setMeas_sched (h : Nat) (x : Meas) : (s.setMeas h x).sched = s.sched := rfl
@[simp] theorem State.setMeas_planes (h : Nat) (x : Meas) : (s.setMeas h x).planes = s.planes := rfl
@[simp] theorem State.setMeas_strips (h : Nat) (x : Meas) : (s.setMeas h x).strips = s.strips := rfl
@[simp] theorem State.setMeas_screen (h : Nat) (x : Meas) : (s.setMeas h x).screen = s.screen := rfl
@[simp] theorem State.setMeas_heads (h : Nat) (x : Meas) : (s.setMeas h x).heads = s.heads := rfl
@[simp] theorem State.setMeas_ports (h : Nat) (x : Meas) : (s.setMeas h x).ports = s.ports := rfl
@[simp] theorem State.setMeas_health (h : Nat) (x : Meas) : (s.setMeas h x).health = s.health := rfl
@[simp] theorem State.setMeas_cal (h : Nat) (x : Meas) : (s.setMeas h x).cal = s.cal := rfl
@[simp] theorem State.setMeas_cams (h : Nat) (x : Meas) : (s.setMeas h x).cams = s.cams := rfl
@[simp] theorem State.setMeas_ana (h : Nat) (x : Meas) : (s.setMeas h x).ana = s.ana := rfl
@[simp] theorem State.setMeas_dram (h : Nat) (x : Meas) : (s.setMeas h x).dram = s.dram := rfl
@[simp] theorem State.setMeas_comp (h : Nat) (x : Meas) : (s.setMeas h x).comp = s.comp := rfl
@[simp] theorem State.setMeas_groups (h : Nat) (x : Meas) : (s.setMeas h x).groups = s.groups := rfl
@[simp] theorem State.setMeas_net (h : Nat) (x : Meas) : (s.setMeas h x).net = s.net := rfl
@[simp] theorem State.setMeas_span (h : Nat) (x : Meas) : (s.setMeas h x).span = s.span := rfl
@[simp] theorem State.setMeas_pack (h : Nat) (x : Meas) : (s.setMeas h x).pack = s.pack := rfl
@[simp] theorem State.setMeas_pow (h : Nat) (x : Meas) : (s.setMeas h x).pow = s.pow := rfl
@[simp] theorem State.setMeas_rst (h : Nat) (x : Meas) : (s.setMeas h x).rst = s.rst := rfl
@[simp] theorem State.setMeas_flash (h : Nat) (x : Meas) : (s.setMeas h x).flash = s.flash := rfl
@[simp] theorem State.setMeas_sec (h : Nat) (x : Meas) : (s.setMeas h x).sec = s.sec := rfl
@[simp] theorem State.setMeas_dux (h : Nat) (x : Meas) : (s.setMeas h x).dux = s.dux := rfl

/-! ### With calibration replaced -/

@[simp] theorem State.setCal_pending (x : Cal) : (s.setCal x).pending = s.pending := rfl
@[simp] theorem State.setCal_now (x : Cal) : (s.setCal x).now = s.now := rfl
@[simp] theorem State.setCal_ident (x : Cal) : (s.setCal x).ident = s.ident := rfl
@[simp] theorem State.setCal_dict (x : Cal) : (s.setCal x).dict = s.dict := rfl
@[simp] theorem State.setCal_chg (x : Cal) : (s.setCal x).chg = s.chg := rfl
@[simp] theorem State.setCal_out (x : Cal) : (s.setCal x).out = s.out := rfl
@[simp] theorem State.setCal_free (x : Cal) : (s.setCal x).free = s.free := rfl
@[simp] theorem State.setCal_flt (x : Cal) : (s.setCal x).flt = s.flt := rfl
@[simp] theorem State.setCal_hostEv (x : Cal) : (s.setCal x).hostEv = s.hostEv := rfl
@[simp] theorem State.setCal_fieldEv (x : Cal) : (s.setCal x).fieldEv = s.fieldEv := rfl
@[simp] theorem State.setCal_tim (x : Cal) : (s.setCal x).tim = s.tim := rfl
@[simp] theorem State.setCal_web (x : Cal) : (s.setCal x).web = s.web := rfl
@[simp] theorem State.setCal_sched (x : Cal) : (s.setCal x).sched = s.sched := rfl
@[simp] theorem State.setCal_planes (x : Cal) : (s.setCal x).planes = s.planes := rfl
@[simp] theorem State.setCal_strips (x : Cal) : (s.setCal x).strips = s.strips := rfl
@[simp] theorem State.setCal_screen (x : Cal) : (s.setCal x).screen = s.screen := rfl
@[simp] theorem State.setCal_heads (x : Cal) : (s.setCal x).heads = s.heads := rfl
@[simp] theorem State.setCal_ports (x : Cal) : (s.setCal x).ports = s.ports := rfl
@[simp] theorem State.setCal_health (x : Cal) : (s.setCal x).health = s.health := rfl
@[simp] theorem State.setCal_meas (x : Cal) : (s.setCal x).meas = s.meas := rfl
@[simp] theorem State.setCal_cams (x : Cal) : (s.setCal x).cams = s.cams := rfl
@[simp] theorem State.setCal_ana (x : Cal) : (s.setCal x).ana = s.ana := rfl
@[simp] theorem State.setCal_dram (x : Cal) : (s.setCal x).dram = s.dram := rfl
@[simp] theorem State.setCal_comp (x : Cal) : (s.setCal x).comp = s.comp := rfl
@[simp] theorem State.setCal_groups (x : Cal) : (s.setCal x).groups = s.groups := rfl
@[simp] theorem State.setCal_net (x : Cal) : (s.setCal x).net = s.net := rfl
@[simp] theorem State.setCal_span (x : Cal) : (s.setCal x).span = s.span := rfl
@[simp] theorem State.setCal_pack (x : Cal) : (s.setCal x).pack = s.pack := rfl
@[simp] theorem State.setCal_pow (x : Cal) : (s.setCal x).pow = s.pow := rfl
@[simp] theorem State.setCal_rst (x : Cal) : (s.setCal x).rst = s.rst := rfl
@[simp] theorem State.setCal_flash (x : Cal) : (s.setCal x).flash = s.flash := rfl
@[simp] theorem State.setCal_sec (x : Cal) : (s.setCal x).sec = s.sec := rfl
@[simp] theorem State.setCal_dux (x : Cal) : (s.setCal x).dux = s.dux := rfl

/-! ### With a camera replaced -/

@[simp] theorem State.setCam_pending (c : Nat) (x : Cam) : (s.setCam c x).pending = s.pending := rfl
@[simp] theorem State.setCam_now (c : Nat) (x : Cam) : (s.setCam c x).now = s.now := rfl
@[simp] theorem State.setCam_ident (c : Nat) (x : Cam) : (s.setCam c x).ident = s.ident := rfl
@[simp] theorem State.setCam_dict (c : Nat) (x : Cam) : (s.setCam c x).dict = s.dict := rfl
@[simp] theorem State.setCam_chg (c : Nat) (x : Cam) : (s.setCam c x).chg = s.chg := rfl
@[simp] theorem State.setCam_out (c : Nat) (x : Cam) : (s.setCam c x).out = s.out := rfl
@[simp] theorem State.setCam_free (c : Nat) (x : Cam) : (s.setCam c x).free = s.free := rfl
@[simp] theorem State.setCam_flt (c : Nat) (x : Cam) : (s.setCam c x).flt = s.flt := rfl
@[simp] theorem State.setCam_hostEv (c : Nat) (x : Cam) : (s.setCam c x).hostEv = s.hostEv := rfl
@[simp] theorem State.setCam_fieldEv (c : Nat) (x : Cam) : (s.setCam c x).fieldEv = s.fieldEv := rfl
@[simp] theorem State.setCam_tim (c : Nat) (x : Cam) : (s.setCam c x).tim = s.tim := rfl
@[simp] theorem State.setCam_web (c : Nat) (x : Cam) : (s.setCam c x).web = s.web := rfl
@[simp] theorem State.setCam_sched (c : Nat) (x : Cam) : (s.setCam c x).sched = s.sched := rfl
@[simp] theorem State.setCam_planes (c : Nat) (x : Cam) : (s.setCam c x).planes = s.planes := rfl
@[simp] theorem State.setCam_strips (c : Nat) (x : Cam) : (s.setCam c x).strips = s.strips := rfl
@[simp] theorem State.setCam_screen (c : Nat) (x : Cam) : (s.setCam c x).screen = s.screen := rfl
@[simp] theorem State.setCam_heads (c : Nat) (x : Cam) : (s.setCam c x).heads = s.heads := rfl
@[simp] theorem State.setCam_ports (c : Nat) (x : Cam) : (s.setCam c x).ports = s.ports := rfl
@[simp] theorem State.setCam_health (c : Nat) (x : Cam) : (s.setCam c x).health = s.health := rfl
@[simp] theorem State.setCam_meas (c : Nat) (x : Cam) : (s.setCam c x).meas = s.meas := rfl
@[simp] theorem State.setCam_cal (c : Nat) (x : Cam) : (s.setCam c x).cal = s.cal := rfl
@[simp] theorem State.setCam_ana (c : Nat) (x : Cam) : (s.setCam c x).ana = s.ana := rfl
@[simp] theorem State.setCam_dram (c : Nat) (x : Cam) : (s.setCam c x).dram = s.dram := rfl
@[simp] theorem State.setCam_comp (c : Nat) (x : Cam) : (s.setCam c x).comp = s.comp := rfl
@[simp] theorem State.setCam_groups (c : Nat) (x : Cam) : (s.setCam c x).groups = s.groups := rfl
@[simp] theorem State.setCam_net (c : Nat) (x : Cam) : (s.setCam c x).net = s.net := rfl
@[simp] theorem State.setCam_span (c : Nat) (x : Cam) : (s.setCam c x).span = s.span := rfl
@[simp] theorem State.setCam_pack (c : Nat) (x : Cam) : (s.setCam c x).pack = s.pack := rfl
@[simp] theorem State.setCam_pow (c : Nat) (x : Cam) : (s.setCam c x).pow = s.pow := rfl
@[simp] theorem State.setCam_rst (c : Nat) (x : Cam) : (s.setCam c x).rst = s.rst := rfl
@[simp] theorem State.setCam_flash (c : Nat) (x : Cam) : (s.setCam c x).flash = s.flash := rfl
@[simp] theorem State.setCam_sec (c : Nat) (x : Cam) : (s.setCam c x).sec = s.sec := rfl
@[simp] theorem State.setCam_dux (c : Nat) (x : Cam) : (s.setCam c x).dux = s.dux := rfl

/-! ### With a plane's analysis replaced -/

@[simp] theorem State.setAna_pending (k : Nat) (x : Ana) : (s.setAna k x).pending = s.pending := rfl
@[simp] theorem State.setAna_now (k : Nat) (x : Ana) : (s.setAna k x).now = s.now := rfl
@[simp] theorem State.setAna_ident (k : Nat) (x : Ana) : (s.setAna k x).ident = s.ident := rfl
@[simp] theorem State.setAna_dict (k : Nat) (x : Ana) : (s.setAna k x).dict = s.dict := rfl
@[simp] theorem State.setAna_chg (k : Nat) (x : Ana) : (s.setAna k x).chg = s.chg := rfl
@[simp] theorem State.setAna_out (k : Nat) (x : Ana) : (s.setAna k x).out = s.out := rfl
@[simp] theorem State.setAna_free (k : Nat) (x : Ana) : (s.setAna k x).free = s.free := rfl
@[simp] theorem State.setAna_flt (k : Nat) (x : Ana) : (s.setAna k x).flt = s.flt := rfl
@[simp] theorem State.setAna_hostEv (k : Nat) (x : Ana) : (s.setAna k x).hostEv = s.hostEv := rfl
@[simp] theorem State.setAna_fieldEv (k : Nat) (x : Ana) : (s.setAna k x).fieldEv = s.fieldEv := rfl
@[simp] theorem State.setAna_tim (k : Nat) (x : Ana) : (s.setAna k x).tim = s.tim := rfl
@[simp] theorem State.setAna_web (k : Nat) (x : Ana) : (s.setAna k x).web = s.web := rfl
@[simp] theorem State.setAna_sched (k : Nat) (x : Ana) : (s.setAna k x).sched = s.sched := rfl
@[simp] theorem State.setAna_planes (k : Nat) (x : Ana) : (s.setAna k x).planes = s.planes := rfl
@[simp] theorem State.setAna_strips (k : Nat) (x : Ana) : (s.setAna k x).strips = s.strips := rfl
@[simp] theorem State.setAna_screen (k : Nat) (x : Ana) : (s.setAna k x).screen = s.screen := rfl
@[simp] theorem State.setAna_heads (k : Nat) (x : Ana) : (s.setAna k x).heads = s.heads := rfl
@[simp] theorem State.setAna_ports (k : Nat) (x : Ana) : (s.setAna k x).ports = s.ports := rfl
@[simp] theorem State.setAna_health (k : Nat) (x : Ana) : (s.setAna k x).health = s.health := rfl
@[simp] theorem State.setAna_meas (k : Nat) (x : Ana) : (s.setAna k x).meas = s.meas := rfl
@[simp] theorem State.setAna_cal (k : Nat) (x : Ana) : (s.setAna k x).cal = s.cal := rfl
@[simp] theorem State.setAna_cams (k : Nat) (x : Ana) : (s.setAna k x).cams = s.cams := rfl
@[simp] theorem State.setAna_dram (k : Nat) (x : Ana) : (s.setAna k x).dram = s.dram := rfl
@[simp] theorem State.setAna_comp (k : Nat) (x : Ana) : (s.setAna k x).comp = s.comp := rfl
@[simp] theorem State.setAna_groups (k : Nat) (x : Ana) : (s.setAna k x).groups = s.groups := rfl
@[simp] theorem State.setAna_net (k : Nat) (x : Ana) : (s.setAna k x).net = s.net := rfl
@[simp] theorem State.setAna_span (k : Nat) (x : Ana) : (s.setAna k x).span = s.span := rfl
@[simp] theorem State.setAna_pack (k : Nat) (x : Ana) : (s.setAna k x).pack = s.pack := rfl
@[simp] theorem State.setAna_pow (k : Nat) (x : Ana) : (s.setAna k x).pow = s.pow := rfl
@[simp] theorem State.setAna_rst (k : Nat) (x : Ana) : (s.setAna k x).rst = s.rst := rfl
@[simp] theorem State.setAna_flash (k : Nat) (x : Ana) : (s.setAna k x).flash = s.flash := rfl
@[simp] theorem State.setAna_sec (k : Nat) (x : Ana) : (s.setAna k x).sec = s.sec := rfl
@[simp] theorem State.setAna_dux (k : Nat) (x : Ana) : (s.setAna k x).dux = s.dux := rfl

/-! ### With a subchannel replaced -/

@[simp] theorem State.setSub_pending (u : Nat) (x : Sub) : (s.setSub u x).pending = s.pending := rfl
@[simp] theorem State.setSub_now (u : Nat) (x : Sub) : (s.setSub u x).now = s.now := rfl
@[simp] theorem State.setSub_ident (u : Nat) (x : Sub) : (s.setSub u x).ident = s.ident := rfl
@[simp] theorem State.setSub_dict (u : Nat) (x : Sub) : (s.setSub u x).dict = s.dict := rfl
@[simp] theorem State.setSub_chg (u : Nat) (x : Sub) : (s.setSub u x).chg = s.chg := rfl
@[simp] theorem State.setSub_out (u : Nat) (x : Sub) : (s.setSub u x).out = s.out := rfl
@[simp] theorem State.setSub_free (u : Nat) (x : Sub) : (s.setSub u x).free = s.free := rfl
@[simp] theorem State.setSub_flt (u : Nat) (x : Sub) : (s.setSub u x).flt = s.flt := rfl
@[simp] theorem State.setSub_hostEv (u : Nat) (x : Sub) : (s.setSub u x).hostEv = s.hostEv := rfl
@[simp] theorem State.setSub_fieldEv (u : Nat) (x : Sub) : (s.setSub u x).fieldEv = s.fieldEv := rfl
@[simp] theorem State.setSub_tim (u : Nat) (x : Sub) : (s.setSub u x).tim = s.tim := rfl
@[simp] theorem State.setSub_web (u : Nat) (x : Sub) : (s.setSub u x).web = s.web := rfl
@[simp] theorem State.setSub_sched (u : Nat) (x : Sub) : (s.setSub u x).sched = s.sched := rfl
@[simp] theorem State.setSub_planes (u : Nat) (x : Sub) : (s.setSub u x).planes = s.planes := rfl
@[simp] theorem State.setSub_strips (u : Nat) (x : Sub) : (s.setSub u x).strips = s.strips := rfl
@[simp] theorem State.setSub_screen (u : Nat) (x : Sub) : (s.setSub u x).screen = s.screen := rfl
@[simp] theorem State.setSub_heads (u : Nat) (x : Sub) : (s.setSub u x).heads = s.heads := rfl
@[simp] theorem State.setSub_ports (u : Nat) (x : Sub) : (s.setSub u x).ports = s.ports := rfl
@[simp] theorem State.setSub_health (u : Nat) (x : Sub) : (s.setSub u x).health = s.health := rfl
@[simp] theorem State.setSub_meas (u : Nat) (x : Sub) : (s.setSub u x).meas = s.meas := rfl
@[simp] theorem State.setSub_cal (u : Nat) (x : Sub) : (s.setSub u x).cal = s.cal := rfl
@[simp] theorem State.setSub_cams (u : Nat) (x : Sub) : (s.setSub u x).cams = s.cams := rfl
@[simp] theorem State.setSub_ana (u : Nat) (x : Sub) : (s.setSub u x).ana = s.ana := rfl
@[simp] theorem State.setSub_comp (u : Nat) (x : Sub) : (s.setSub u x).comp = s.comp := rfl
@[simp] theorem State.setSub_groups (u : Nat) (x : Sub) : (s.setSub u x).groups = s.groups := rfl
@[simp] theorem State.setSub_net (u : Nat) (x : Sub) : (s.setSub u x).net = s.net := rfl
@[simp] theorem State.setSub_span (u : Nat) (x : Sub) : (s.setSub u x).span = s.span := rfl
@[simp] theorem State.setSub_pack (u : Nat) (x : Sub) : (s.setSub u x).pack = s.pack := rfl
@[simp] theorem State.setSub_pow (u : Nat) (x : Sub) : (s.setSub u x).pow = s.pow := rfl
@[simp] theorem State.setSub_rst (u : Nat) (x : Sub) : (s.setSub u x).rst = s.rst := rfl
@[simp] theorem State.setSub_flash (u : Nat) (x : Sub) : (s.setSub u x).flash = s.flash := rfl
@[simp] theorem State.setSub_sec (u : Nat) (x : Sub) : (s.setSub u x).sec = s.sec := rfl
@[simp] theorem State.setSub_dux (u : Nat) (x : Sub) : (s.setSub u x).dux = s.dux := rfl

/-! ### With a capture unit replaced -/

@[simp] theorem State.setCap_pending (u : Nat) (x : CapUnit) : (s.setCap u x).pending = s.pending := rfl
@[simp] theorem State.setCap_now (u : Nat) (x : CapUnit) : (s.setCap u x).now = s.now := rfl
@[simp] theorem State.setCap_ident (u : Nat) (x : CapUnit) : (s.setCap u x).ident = s.ident := rfl
@[simp] theorem State.setCap_dict (u : Nat) (x : CapUnit) : (s.setCap u x).dict = s.dict := rfl
@[simp] theorem State.setCap_chg (u : Nat) (x : CapUnit) : (s.setCap u x).chg = s.chg := rfl
@[simp] theorem State.setCap_out (u : Nat) (x : CapUnit) : (s.setCap u x).out = s.out := rfl
@[simp] theorem State.setCap_free (u : Nat) (x : CapUnit) : (s.setCap u x).free = s.free := rfl
@[simp] theorem State.setCap_flt (u : Nat) (x : CapUnit) : (s.setCap u x).flt = s.flt := rfl
@[simp] theorem State.setCap_hostEv (u : Nat) (x : CapUnit) : (s.setCap u x).hostEv = s.hostEv := rfl
@[simp] theorem State.setCap_fieldEv (u : Nat) (x : CapUnit) : (s.setCap u x).fieldEv = s.fieldEv := rfl
@[simp] theorem State.setCap_web (u : Nat) (x : CapUnit) : (s.setCap u x).web = s.web := rfl
@[simp] theorem State.setCap_sched (u : Nat) (x : CapUnit) : (s.setCap u x).sched = s.sched := rfl
@[simp] theorem State.setCap_planes (u : Nat) (x : CapUnit) : (s.setCap u x).planes = s.planes := rfl
@[simp] theorem State.setCap_strips (u : Nat) (x : CapUnit) : (s.setCap u x).strips = s.strips := rfl
@[simp] theorem State.setCap_screen (u : Nat) (x : CapUnit) : (s.setCap u x).screen = s.screen := rfl
@[simp] theorem State.setCap_heads (u : Nat) (x : CapUnit) : (s.setCap u x).heads = s.heads := rfl
@[simp] theorem State.setCap_ports (u : Nat) (x : CapUnit) : (s.setCap u x).ports = s.ports := rfl
@[simp] theorem State.setCap_health (u : Nat) (x : CapUnit) : (s.setCap u x).health = s.health := rfl
@[simp] theorem State.setCap_meas (u : Nat) (x : CapUnit) : (s.setCap u x).meas = s.meas := rfl
@[simp] theorem State.setCap_cal (u : Nat) (x : CapUnit) : (s.setCap u x).cal = s.cal := rfl
@[simp] theorem State.setCap_cams (u : Nat) (x : CapUnit) : (s.setCap u x).cams = s.cams := rfl
@[simp] theorem State.setCap_ana (u : Nat) (x : CapUnit) : (s.setCap u x).ana = s.ana := rfl
@[simp] theorem State.setCap_dram (u : Nat) (x : CapUnit) : (s.setCap u x).dram = s.dram := rfl
@[simp] theorem State.setCap_comp (u : Nat) (x : CapUnit) : (s.setCap u x).comp = s.comp := rfl
@[simp] theorem State.setCap_groups (u : Nat) (x : CapUnit) : (s.setCap u x).groups = s.groups := rfl
@[simp] theorem State.setCap_net (u : Nat) (x : CapUnit) : (s.setCap u x).net = s.net := rfl
@[simp] theorem State.setCap_span (u : Nat) (x : CapUnit) : (s.setCap u x).span = s.span := rfl
@[simp] theorem State.setCap_pack (u : Nat) (x : CapUnit) : (s.setCap u x).pack = s.pack := rfl
@[simp] theorem State.setCap_pow (u : Nat) (x : CapUnit) : (s.setCap u x).pow = s.pow := rfl
@[simp] theorem State.setCap_rst (u : Nat) (x : CapUnit) : (s.setCap u x).rst = s.rst := rfl
@[simp] theorem State.setCap_flash (u : Nat) (x : CapUnit) : (s.setCap u x).flash = s.flash := rfl
@[simp] theorem State.setCap_sec (u : Nat) (x : CapUnit) : (s.setCap u x).sec = s.sec := rfl
@[simp] theorem State.setCap_dux (u : Nat) (x : CapUnit) : (s.setCap u x).dux = s.dux := rfl

/-! ### With a session context replaced -/

@[simp] theorem State.setSess_pending (i : Nat) (x : Sess) : (s.setSess i x).pending = s.pending := rfl
@[simp] theorem State.setSess_now (i : Nat) (x : Sess) : (s.setSess i x).now = s.now := rfl
@[simp] theorem State.setSess_ident (i : Nat) (x : Sess) : (s.setSess i x).ident = s.ident := rfl
@[simp] theorem State.setSess_dict (i : Nat) (x : Sess) : (s.setSess i x).dict = s.dict := rfl
@[simp] theorem State.setSess_chg (i : Nat) (x : Sess) : (s.setSess i x).chg = s.chg := rfl
@[simp] theorem State.setSess_out (i : Nat) (x : Sess) : (s.setSess i x).out = s.out := rfl
@[simp] theorem State.setSess_free (i : Nat) (x : Sess) : (s.setSess i x).free = s.free := rfl
@[simp] theorem State.setSess_flt (i : Nat) (x : Sess) : (s.setSess i x).flt = s.flt := rfl
@[simp] theorem State.setSess_hostEv (i : Nat) (x : Sess) : (s.setSess i x).hostEv = s.hostEv := rfl
@[simp] theorem State.setSess_fieldEv (i : Nat) (x : Sess) : (s.setSess i x).fieldEv = s.fieldEv := rfl
@[simp] theorem State.setSess_tim (i : Nat) (x : Sess) : (s.setSess i x).tim = s.tim := rfl
@[simp] theorem State.setSess_web (i : Nat) (x : Sess) : (s.setSess i x).web = s.web := rfl
@[simp] theorem State.setSess_sched (i : Nat) (x : Sess) : (s.setSess i x).sched = s.sched := rfl
@[simp] theorem State.setSess_planes (i : Nat) (x : Sess) : (s.setSess i x).planes = s.planes := rfl
@[simp] theorem State.setSess_strips (i : Nat) (x : Sess) : (s.setSess i x).strips = s.strips := rfl
@[simp] theorem State.setSess_screen (i : Nat) (x : Sess) : (s.setSess i x).screen = s.screen := rfl
@[simp] theorem State.setSess_heads (i : Nat) (x : Sess) : (s.setSess i x).heads = s.heads := rfl
@[simp] theorem State.setSess_ports (i : Nat) (x : Sess) : (s.setSess i x).ports = s.ports := rfl
@[simp] theorem State.setSess_health (i : Nat) (x : Sess) : (s.setSess i x).health = s.health := rfl
@[simp] theorem State.setSess_meas (i : Nat) (x : Sess) : (s.setSess i x).meas = s.meas := rfl
@[simp] theorem State.setSess_cal (i : Nat) (x : Sess) : (s.setSess i x).cal = s.cal := rfl
@[simp] theorem State.setSess_cams (i : Nat) (x : Sess) : (s.setSess i x).cams = s.cams := rfl
@[simp] theorem State.setSess_ana (i : Nat) (x : Sess) : (s.setSess i x).ana = s.ana := rfl
@[simp] theorem State.setSess_dram (i : Nat) (x : Sess) : (s.setSess i x).dram = s.dram := rfl
@[simp] theorem State.setSess_comp (i : Nat) (x : Sess) : (s.setSess i x).comp = s.comp := rfl
@[simp] theorem State.setSess_groups (i : Nat) (x : Sess) : (s.setSess i x).groups = s.groups := rfl
@[simp] theorem State.setSess_span (i : Nat) (x : Sess) : (s.setSess i x).span = s.span := rfl
@[simp] theorem State.setSess_pack (i : Nat) (x : Sess) : (s.setSess i x).pack = s.pack := rfl
@[simp] theorem State.setSess_pow (i : Nat) (x : Sess) : (s.setSess i x).pow = s.pow := rfl
@[simp] theorem State.setSess_rst (i : Nat) (x : Sess) : (s.setSess i x).rst = s.rst := rfl
@[simp] theorem State.setSess_flash (i : Nat) (x : Sess) : (s.setSess i x).flash = s.flash := rfl
@[simp] theorem State.setSess_sec (i : Nat) (x : Sess) : (s.setSess i x).sec = s.sec := rfl
@[simp] theorem State.setSess_dux (i : Nat) (x : Sess) : (s.setSess i x).dux = s.dux := rfl

/-! ### With a cell receiver replaced -/

@[simp] theorem State.setCellRx_pending (i : Nat) (x : CellRx) : (s.setCellRx i x).pending = s.pending := rfl
@[simp] theorem State.setCellRx_now (i : Nat) (x : CellRx) : (s.setCellRx i x).now = s.now := rfl
@[simp] theorem State.setCellRx_ident (i : Nat) (x : CellRx) : (s.setCellRx i x).ident = s.ident := rfl
@[simp] theorem State.setCellRx_dict (i : Nat) (x : CellRx) : (s.setCellRx i x).dict = s.dict := rfl
@[simp] theorem State.setCellRx_chg (i : Nat) (x : CellRx) : (s.setCellRx i x).chg = s.chg := rfl
@[simp] theorem State.setCellRx_out (i : Nat) (x : CellRx) : (s.setCellRx i x).out = s.out := rfl
@[simp] theorem State.setCellRx_free (i : Nat) (x : CellRx) : (s.setCellRx i x).free = s.free := rfl
@[simp] theorem State.setCellRx_flt (i : Nat) (x : CellRx) : (s.setCellRx i x).flt = s.flt := rfl
@[simp] theorem State.setCellRx_hostEv (i : Nat) (x : CellRx) : (s.setCellRx i x).hostEv = s.hostEv := rfl
@[simp] theorem State.setCellRx_fieldEv (i : Nat) (x : CellRx) : (s.setCellRx i x).fieldEv = s.fieldEv := rfl
@[simp] theorem State.setCellRx_tim (i : Nat) (x : CellRx) : (s.setCellRx i x).tim = s.tim := rfl
@[simp] theorem State.setCellRx_web (i : Nat) (x : CellRx) : (s.setCellRx i x).web = s.web := rfl
@[simp] theorem State.setCellRx_sched (i : Nat) (x : CellRx) : (s.setCellRx i x).sched = s.sched := rfl
@[simp] theorem State.setCellRx_planes (i : Nat) (x : CellRx) : (s.setCellRx i x).planes = s.planes := rfl
@[simp] theorem State.setCellRx_strips (i : Nat) (x : CellRx) : (s.setCellRx i x).strips = s.strips := rfl
@[simp] theorem State.setCellRx_screen (i : Nat) (x : CellRx) : (s.setCellRx i x).screen = s.screen := rfl
@[simp] theorem State.setCellRx_heads (i : Nat) (x : CellRx) : (s.setCellRx i x).heads = s.heads := rfl
@[simp] theorem State.setCellRx_ports (i : Nat) (x : CellRx) : (s.setCellRx i x).ports = s.ports := rfl
@[simp] theorem State.setCellRx_health (i : Nat) (x : CellRx) : (s.setCellRx i x).health = s.health := rfl
@[simp] theorem State.setCellRx_meas (i : Nat) (x : CellRx) : (s.setCellRx i x).meas = s.meas := rfl
@[simp] theorem State.setCellRx_cal (i : Nat) (x : CellRx) : (s.setCellRx i x).cal = s.cal := rfl
@[simp] theorem State.setCellRx_cams (i : Nat) (x : CellRx) : (s.setCellRx i x).cams = s.cams := rfl
@[simp] theorem State.setCellRx_ana (i : Nat) (x : CellRx) : (s.setCellRx i x).ana = s.ana := rfl
@[simp] theorem State.setCellRx_dram (i : Nat) (x : CellRx) : (s.setCellRx i x).dram = s.dram := rfl
@[simp] theorem State.setCellRx_comp (i : Nat) (x : CellRx) : (s.setCellRx i x).comp = s.comp := rfl
@[simp] theorem State.setCellRx_groups (i : Nat) (x : CellRx) : (s.setCellRx i x).groups = s.groups := rfl
@[simp] theorem State.setCellRx_net (i : Nat) (x : CellRx) : (s.setCellRx i x).net = s.net := rfl
@[simp] theorem State.setCellRx_pack (i : Nat) (x : CellRx) : (s.setCellRx i x).pack = s.pack := rfl
@[simp] theorem State.setCellRx_pow (i : Nat) (x : CellRx) : (s.setCellRx i x).pow = s.pow := rfl
@[simp] theorem State.setCellRx_rst (i : Nat) (x : CellRx) : (s.setCellRx i x).rst = s.rst := rfl
@[simp] theorem State.setCellRx_flash (i : Nat) (x : CellRx) : (s.setCellRx i x).flash = s.flash := rfl
@[simp] theorem State.setCellRx_sec (i : Nat) (x : CellRx) : (s.setCellRx i x).sec = s.sec := rfl
@[simp] theorem State.setCellRx_dux (i : Nat) (x : CellRx) : (s.setCellRx i x).dux = s.dux := rfl

/-! ### With a Span channel replaced -/

@[simp] theorem State.setSpanChan_pending (i : Nat) (x : Chan) : (s.setSpanChan i x).pending = s.pending := rfl
@[simp] theorem State.setSpanChan_now (i : Nat) (x : Chan) : (s.setSpanChan i x).now = s.now := rfl
@[simp] theorem State.setSpanChan_ident (i : Nat) (x : Chan) : (s.setSpanChan i x).ident = s.ident := rfl
@[simp] theorem State.setSpanChan_dict (i : Nat) (x : Chan) : (s.setSpanChan i x).dict = s.dict := rfl
@[simp] theorem State.setSpanChan_chg (i : Nat) (x : Chan) : (s.setSpanChan i x).chg = s.chg := rfl
@[simp] theorem State.setSpanChan_out (i : Nat) (x : Chan) : (s.setSpanChan i x).out = s.out := rfl
@[simp] theorem State.setSpanChan_free (i : Nat) (x : Chan) : (s.setSpanChan i x).free = s.free := rfl
@[simp] theorem State.setSpanChan_flt (i : Nat) (x : Chan) : (s.setSpanChan i x).flt = s.flt := rfl
@[simp] theorem State.setSpanChan_hostEv (i : Nat) (x : Chan) : (s.setSpanChan i x).hostEv = s.hostEv := rfl
@[simp] theorem State.setSpanChan_fieldEv (i : Nat) (x : Chan) : (s.setSpanChan i x).fieldEv = s.fieldEv := rfl
@[simp] theorem State.setSpanChan_tim (i : Nat) (x : Chan) : (s.setSpanChan i x).tim = s.tim := rfl
@[simp] theorem State.setSpanChan_web (i : Nat) (x : Chan) : (s.setSpanChan i x).web = s.web := rfl
@[simp] theorem State.setSpanChan_sched (i : Nat) (x : Chan) : (s.setSpanChan i x).sched = s.sched := rfl
@[simp] theorem State.setSpanChan_planes (i : Nat) (x : Chan) : (s.setSpanChan i x).planes = s.planes := rfl
@[simp] theorem State.setSpanChan_strips (i : Nat) (x : Chan) : (s.setSpanChan i x).strips = s.strips := rfl
@[simp] theorem State.setSpanChan_screen (i : Nat) (x : Chan) : (s.setSpanChan i x).screen = s.screen := rfl
@[simp] theorem State.setSpanChan_heads (i : Nat) (x : Chan) : (s.setSpanChan i x).heads = s.heads := rfl
@[simp] theorem State.setSpanChan_ports (i : Nat) (x : Chan) : (s.setSpanChan i x).ports = s.ports := rfl
@[simp] theorem State.setSpanChan_health (i : Nat) (x : Chan) : (s.setSpanChan i x).health = s.health := rfl
@[simp] theorem State.setSpanChan_meas (i : Nat) (x : Chan) : (s.setSpanChan i x).meas = s.meas := rfl
@[simp] theorem State.setSpanChan_cal (i : Nat) (x : Chan) : (s.setSpanChan i x).cal = s.cal := rfl
@[simp] theorem State.setSpanChan_cams (i : Nat) (x : Chan) : (s.setSpanChan i x).cams = s.cams := rfl
@[simp] theorem State.setSpanChan_ana (i : Nat) (x : Chan) : (s.setSpanChan i x).ana = s.ana := rfl
@[simp] theorem State.setSpanChan_dram (i : Nat) (x : Chan) : (s.setSpanChan i x).dram = s.dram := rfl
@[simp] theorem State.setSpanChan_comp (i : Nat) (x : Chan) : (s.setSpanChan i x).comp = s.comp := rfl
@[simp] theorem State.setSpanChan_groups (i : Nat) (x : Chan) : (s.setSpanChan i x).groups = s.groups := rfl
@[simp] theorem State.setSpanChan_net (i : Nat) (x : Chan) : (s.setSpanChan i x).net = s.net := rfl
@[simp] theorem State.setSpanChan_pack (i : Nat) (x : Chan) : (s.setSpanChan i x).pack = s.pack := rfl
@[simp] theorem State.setSpanChan_pow (i : Nat) (x : Chan) : (s.setSpanChan i x).pow = s.pow := rfl
@[simp] theorem State.setSpanChan_rst (i : Nat) (x : Chan) : (s.setSpanChan i x).rst = s.rst := rfl
@[simp] theorem State.setSpanChan_flash (i : Nat) (x : Chan) : (s.setSpanChan i x).flash = s.flash := rfl
@[simp] theorem State.setSpanChan_sec (i : Nat) (x : Chan) : (s.setSpanChan i x).sec = s.sec := rfl
@[simp] theorem State.setSpanChan_dux (i : Nat) (x : Chan) : (s.setSpanChan i x).dux = s.dux := rfl

/-! ### With clocks and power replaced -/

@[simp] theorem State.setPow_pending (x : Pow) : (s.setPow x).pending = s.pending := rfl
@[simp] theorem State.setPow_now (x : Pow) : (s.setPow x).now = s.now := rfl
@[simp] theorem State.setPow_ident (x : Pow) : (s.setPow x).ident = s.ident := rfl
@[simp] theorem State.setPow_dict (x : Pow) : (s.setPow x).dict = s.dict := rfl
@[simp] theorem State.setPow_chg (x : Pow) : (s.setPow x).chg = s.chg := rfl
@[simp] theorem State.setPow_out (x : Pow) : (s.setPow x).out = s.out := rfl
@[simp] theorem State.setPow_free (x : Pow) : (s.setPow x).free = s.free := rfl
@[simp] theorem State.setPow_flt (x : Pow) : (s.setPow x).flt = s.flt := rfl
@[simp] theorem State.setPow_hostEv (x : Pow) : (s.setPow x).hostEv = s.hostEv := rfl
@[simp] theorem State.setPow_fieldEv (x : Pow) : (s.setPow x).fieldEv = s.fieldEv := rfl
@[simp] theorem State.setPow_tim (x : Pow) : (s.setPow x).tim = s.tim := rfl
@[simp] theorem State.setPow_web (x : Pow) : (s.setPow x).web = s.web := rfl
@[simp] theorem State.setPow_sched (x : Pow) : (s.setPow x).sched = s.sched := rfl
@[simp] theorem State.setPow_planes (x : Pow) : (s.setPow x).planes = s.planes := rfl
@[simp] theorem State.setPow_strips (x : Pow) : (s.setPow x).strips = s.strips := rfl
@[simp] theorem State.setPow_screen (x : Pow) : (s.setPow x).screen = s.screen := rfl
@[simp] theorem State.setPow_heads (x : Pow) : (s.setPow x).heads = s.heads := rfl
@[simp] theorem State.setPow_ports (x : Pow) : (s.setPow x).ports = s.ports := rfl
@[simp] theorem State.setPow_health (x : Pow) : (s.setPow x).health = s.health := rfl
@[simp] theorem State.setPow_meas (x : Pow) : (s.setPow x).meas = s.meas := rfl
@[simp] theorem State.setPow_cal (x : Pow) : (s.setPow x).cal = s.cal := rfl
@[simp] theorem State.setPow_cams (x : Pow) : (s.setPow x).cams = s.cams := rfl
@[simp] theorem State.setPow_ana (x : Pow) : (s.setPow x).ana = s.ana := rfl
@[simp] theorem State.setPow_dram (x : Pow) : (s.setPow x).dram = s.dram := rfl
@[simp] theorem State.setPow_comp (x : Pow) : (s.setPow x).comp = s.comp := rfl
@[simp] theorem State.setPow_groups (x : Pow) : (s.setPow x).groups = s.groups := rfl
@[simp] theorem State.setPow_net (x : Pow) : (s.setPow x).net = s.net := rfl
@[simp] theorem State.setPow_span (x : Pow) : (s.setPow x).span = s.span := rfl
@[simp] theorem State.setPow_pack (x : Pow) : (s.setPow x).pack = s.pack := rfl
@[simp] theorem State.setPow_rst (x : Pow) : (s.setPow x).rst = s.rst := rfl
@[simp] theorem State.setPow_flash (x : Pow) : (s.setPow x).flash = s.flash := rfl
@[simp] theorem State.setPow_sec (x : Pow) : (s.setPow x).sec = s.sec := rfl
@[simp] theorem State.setPow_dux (x : Pow) : (s.setPow x).dux = s.dux := rfl

/-! ### With an island's episode replaced -/

@[simp] theorem State.setEpisode_pending (i : Side) (x : Episode) : (s.setEpisode i x).pending = s.pending := by cases i <;> rfl
@[simp] theorem State.setEpisode_now (i : Side) (x : Episode) : (s.setEpisode i x).now = s.now := by cases i <;> rfl
@[simp] theorem State.setEpisode_ident (i : Side) (x : Episode) : (s.setEpisode i x).ident = s.ident := by cases i <;> rfl
@[simp] theorem State.setEpisode_dict (i : Side) (x : Episode) : (s.setEpisode i x).dict = s.dict := by cases i <;> rfl
@[simp] theorem State.setEpisode_chg (i : Side) (x : Episode) : (s.setEpisode i x).chg = s.chg := by cases i <;> rfl
@[simp] theorem State.setEpisode_out (i : Side) (x : Episode) : (s.setEpisode i x).out = s.out := by cases i <;> rfl
@[simp] theorem State.setEpisode_free (i : Side) (x : Episode) : (s.setEpisode i x).free = s.free := by cases i <;> rfl
@[simp] theorem State.setEpisode_flt (i : Side) (x : Episode) : (s.setEpisode i x).flt = s.flt := by cases i <;> rfl
@[simp] theorem State.setEpisode_hostEv (i : Side) (x : Episode) : (s.setEpisode i x).hostEv = s.hostEv := by cases i <;> rfl
@[simp] theorem State.setEpisode_fieldEv (i : Side) (x : Episode) : (s.setEpisode i x).fieldEv = s.fieldEv := by cases i <;> rfl
@[simp] theorem State.setEpisode_tim (i : Side) (x : Episode) : (s.setEpisode i x).tim = s.tim := by cases i <;> rfl
@[simp] theorem State.setEpisode_web (i : Side) (x : Episode) : (s.setEpisode i x).web = s.web := by cases i <;> rfl
@[simp] theorem State.setEpisode_sched (i : Side) (x : Episode) : (s.setEpisode i x).sched = s.sched := by cases i <;> rfl
@[simp] theorem State.setEpisode_planes (i : Side) (x : Episode) : (s.setEpisode i x).planes = s.planes := by cases i <;> rfl
@[simp] theorem State.setEpisode_strips (i : Side) (x : Episode) : (s.setEpisode i x).strips = s.strips := by cases i <;> rfl
@[simp] theorem State.setEpisode_screen (i : Side) (x : Episode) : (s.setEpisode i x).screen = s.screen := by cases i <;> rfl
@[simp] theorem State.setEpisode_heads (i : Side) (x : Episode) : (s.setEpisode i x).heads = s.heads := by cases i <;> rfl
@[simp] theorem State.setEpisode_ports (i : Side) (x : Episode) : (s.setEpisode i x).ports = s.ports := by cases i <;> rfl
@[simp] theorem State.setEpisode_health (i : Side) (x : Episode) : (s.setEpisode i x).health = s.health := by cases i <;> rfl
@[simp] theorem State.setEpisode_meas (i : Side) (x : Episode) : (s.setEpisode i x).meas = s.meas := by cases i <;> rfl
@[simp] theorem State.setEpisode_cal (i : Side) (x : Episode) : (s.setEpisode i x).cal = s.cal := by cases i <;> rfl
@[simp] theorem State.setEpisode_cams (i : Side) (x : Episode) : (s.setEpisode i x).cams = s.cams := by cases i <;> rfl
@[simp] theorem State.setEpisode_ana (i : Side) (x : Episode) : (s.setEpisode i x).ana = s.ana := by cases i <;> rfl
@[simp] theorem State.setEpisode_dram (i : Side) (x : Episode) : (s.setEpisode i x).dram = s.dram := by cases i <;> rfl
@[simp] theorem State.setEpisode_comp (i : Side) (x : Episode) : (s.setEpisode i x).comp = s.comp := by cases i <;> rfl
@[simp] theorem State.setEpisode_groups (i : Side) (x : Episode) : (s.setEpisode i x).groups = s.groups := by cases i <;> rfl
@[simp] theorem State.setEpisode_net (i : Side) (x : Episode) : (s.setEpisode i x).net = s.net := by cases i <;> rfl
@[simp] theorem State.setEpisode_span (i : Side) (x : Episode) : (s.setEpisode i x).span = s.span := by cases i <;> rfl
@[simp] theorem State.setEpisode_pack (i : Side) (x : Episode) : (s.setEpisode i x).pack = s.pack := by cases i <;> rfl
@[simp] theorem State.setEpisode_pow (i : Side) (x : Episode) : (s.setEpisode i x).pow = s.pow := by cases i <;> rfl
@[simp] theorem State.setEpisode_flash (i : Side) (x : Episode) : (s.setEpisode i x).flash = s.flash := by cases i <;> rfl
@[simp] theorem State.setEpisode_sec (i : Side) (x : Episode) : (s.setEpisode i x).sec = s.sec := by cases i <;> rfl
@[simp] theorem State.setEpisode_dux (i : Side) (x : Episode) : (s.setEpisode i x).dux = s.dux := by cases i <;> rfl

/-! ### With the duplex unit replaced -/

@[simp] theorem State.setDux_pending (x : Dux) : (s.setDux x).pending = s.pending := rfl
@[simp] theorem State.setDux_now (x : Dux) : (s.setDux x).now = s.now := rfl
@[simp] theorem State.setDux_ident (x : Dux) : (s.setDux x).ident = s.ident := rfl
@[simp] theorem State.setDux_dict (x : Dux) : (s.setDux x).dict = s.dict := rfl
@[simp] theorem State.setDux_chg (x : Dux) : (s.setDux x).chg = s.chg := rfl
@[simp] theorem State.setDux_out (x : Dux) : (s.setDux x).out = s.out := rfl
@[simp] theorem State.setDux_free (x : Dux) : (s.setDux x).free = s.free := rfl
@[simp] theorem State.setDux_flt (x : Dux) : (s.setDux x).flt = s.flt := rfl
@[simp] theorem State.setDux_hostEv (x : Dux) : (s.setDux x).hostEv = s.hostEv := rfl
@[simp] theorem State.setDux_fieldEv (x : Dux) : (s.setDux x).fieldEv = s.fieldEv := rfl
@[simp] theorem State.setDux_tim (x : Dux) : (s.setDux x).tim = s.tim := rfl
@[simp] theorem State.setDux_web (x : Dux) : (s.setDux x).web = s.web := rfl
@[simp] theorem State.setDux_sched (x : Dux) : (s.setDux x).sched = s.sched := rfl
@[simp] theorem State.setDux_planes (x : Dux) : (s.setDux x).planes = s.planes := rfl
@[simp] theorem State.setDux_strips (x : Dux) : (s.setDux x).strips = s.strips := rfl
@[simp] theorem State.setDux_screen (x : Dux) : (s.setDux x).screen = s.screen := rfl
@[simp] theorem State.setDux_heads (x : Dux) : (s.setDux x).heads = s.heads := rfl
@[simp] theorem State.setDux_ports (x : Dux) : (s.setDux x).ports = s.ports := rfl
@[simp] theorem State.setDux_health (x : Dux) : (s.setDux x).health = s.health := rfl
@[simp] theorem State.setDux_meas (x : Dux) : (s.setDux x).meas = s.meas := rfl
@[simp] theorem State.setDux_cal (x : Dux) : (s.setDux x).cal = s.cal := rfl
@[simp] theorem State.setDux_cams (x : Dux) : (s.setDux x).cams = s.cams := rfl
@[simp] theorem State.setDux_ana (x : Dux) : (s.setDux x).ana = s.ana := rfl
@[simp] theorem State.setDux_dram (x : Dux) : (s.setDux x).dram = s.dram := rfl
@[simp] theorem State.setDux_comp (x : Dux) : (s.setDux x).comp = s.comp := rfl
@[simp] theorem State.setDux_groups (x : Dux) : (s.setDux x).groups = s.groups := rfl
@[simp] theorem State.setDux_net (x : Dux) : (s.setDux x).net = s.net := rfl
@[simp] theorem State.setDux_span (x : Dux) : (s.setDux x).span = s.span := rfl
@[simp] theorem State.setDux_pack (x : Dux) : (s.setDux x).pack = s.pack := rfl
@[simp] theorem State.setDux_pow (x : Dux) : (s.setDux x).pow = s.pow := rfl
@[simp] theorem State.setDux_rst (x : Dux) : (s.setDux x).rst = s.rst := rfl
@[simp] theorem State.setDux_flash (x : Dux) : (s.setDux x).flash = s.flash := rfl
@[simp] theorem State.setDux_sec (x : Dux) : (s.setDux x).sec = s.sec := rfl

/-! ### The value an update stores -/

@[simp] theorem State.setVal_dict' (key : Nat) (v : Val) : (s.setVal key v).dict = smSet objDefault s.dict key v := rfl
@[simp] theorem State.emit_out (e : Emit) : (s.emit e).out = s.out ++ [e] := rfl
@[simp] theorem State.tickTo_now (t : Nat) : (s.tickTo t).now = max s.now t := rfl
@[simp] theorem State.tickTo_out (t : Nat) : (s.tickTo t).out = [] := rfl
@[simp] theorem State.setFlt_flt (x : Flt) : (s.setFlt x).flt = x := rfl
@[simp] theorem State.setWeb_web (x : Web) : (s.setWeb x).web = x := rfl
@[simp] theorem State.setSched_sched (x : Sched) : (s.setSched x).sched = x := rfl
@[simp] theorem State.setCal_cal (x : Cal) : (s.setCal x).cal = x := rfl
@[simp] theorem State.setPow_pow (x : Pow) : (s.setPow x).pow = x := rfl
@[simp] theorem State.setDux_dux (x : Dux) : (s.setDux x).dux = x := rfl

/-! ### Abbreviations of an object set -/

@[simp] theorem State.setN_eq (key : Nat) (n : Int) : s.setN key n = s.setVal key (.num n) := rfl
@[simp] theorem State.setF_eq (key : Nat) (b : Bool) : s.setF key b = s.setVal key (.num (if b then 1 else 0)) := rfl
@[simp] theorem State.setB_eq (key : Nat) (b : Bytes) : s.setB key b = s.setVal key (.bytes b) := rfl
@[simp] theorem State.bump_eq (key w n : Nat) : s.bump key w n = s.setVal key (.num (((s.nat key + n) % 2 ^ w : Nat) : Int)) := rfl
@[simp] theorem State.inc_eq (key : Nat) : s.inc key = s.setVal key (.num (((s.nat key + 1) % 2 ^ 32 : Nat) : Int)) := rfl
@[simp] theorem State.pin_eq (p : Pin) (l : Bool) : s.pin p l = s.emit (.pin p l) := rfl

/-! ### Reading a unit after one is replaced -/

@[simp] theorem State.enc_setEnc_self (i : Nat) (x : Enc) : (s.setEnc i x).enc i = x := smGet_smSet_self _ _ _ _
theorem State.enc_setEnc_ne {i j : Nat} (x : Enc) (h : j ≠ i) : (s.setEnc i x).enc j = s.enc j := smGet_smSet_ne _ _ _ h
@[simp] theorem State.plane_setPlane_self (i : Nat) (x : Plane) : (s.setPlane i x).plane i = x := smGet_smSet_self _ _ _ _
theorem State.plane_setPlane_ne {i j : Nat} (x : Plane) (h : j ≠ i) : (s.setPlane i x).plane j = s.plane j := smGet_smSet_ne _ _ _ h
@[simp] theorem State.head_setHead_self (i : Nat) (x : Head) : (s.setHead i x).head i = x := smGet_smSet_self _ _ _ _
theorem State.head_setHead_ne {i j : Nat} (x : Head) (h : j ≠ i) : (s.setHead i x).head j = s.head j := smGet_smSet_ne _ _ _ h
@[simp] theorem State.port_setPort_self (i : Nat) (x : Port) : (s.setPort i x).port i = x := smGet_smSet_self _ _ _ _
theorem State.port_setPort_ne {i j : Nat} (x : Port) (h : j ≠ i) : (s.setPort i x).port j = s.port j := smGet_smSet_ne _ _ _ h
@[simp] theorem State.cam_setCam_self (i : Nat) (x : Cam) : (s.setCam i x).cam i = x := smGet_smSet_self _ _ _ _
theorem State.cam_setCam_ne {i j : Nat} (x : Cam) (h : j ≠ i) : (s.setCam i x).cam j = s.cam j := smGet_smSet_ne _ _ _ h
@[simp] theorem State.sess_setSess_self (i : Nat) (x : Sess) : (s.setSess i x).sess i = x := smGet_smSet_self _ _ _ _
theorem State.sess_setSess_ne {i j : Nat} (x : Sess) (h : j ≠ i) : (s.setSess i x).sess j = s.sess j := smGet_smSet_ne _ _ _ h
@[simp] theorem State.cap_setCap_self (i : Nat) (x : CapUnit) : (s.setCap i x).cap i = x := smGet_smSet_self _ _ _ _
theorem State.cap_setCap_ne {i j : Nat} (x : CapUnit) (h : j ≠ i) : (s.setCap i x).cap j = s.cap j := smGet_smSet_ne _ _ _ h
@[simp] theorem State.cellRx_setCellRx_self (i : Nat) (x : CellRx) : (s.setCellRx i x).cellRx i = x := smGet_smSet_self _ _ _ _
theorem State.cellRx_setCellRx_ne {i j : Nat} (x : CellRx) (h : j ≠ i) : (s.setCellRx i x).cellRx j = s.cellRx j := smGet_smSet_ne _ _ _ h
@[simp] theorem State.spanChan_setSpanChan_self (i : Nat) (x : Chan) : (s.setSpanChan i x).spanChan i = x := smGet_smSet_self _ _ _ _
theorem State.spanChan_setSpanChan_ne {i j : Nat} (x : Chan) (h : j ≠ i) : (s.setSpanChan i x).spanChan j = s.spanChan j := smGet_smSet_ne _ _ _ h

end Sys2Proof.Machine
end

