-- ==== Sys2Proof/Laws/Objects.lean ====
section
/-! SUPPORT. Reading an object after an update of the state, and the dictionary's canonical form (log entry 4). -/

namespace Sys2Proof.Machine

variable (s : State)

/-! ### Reads as reads of the dictionary -/

theorem State.num_eq (key : Nat) : s.num key = (match s.val key with | .num n => n | .bytes _ => 0) := rfl
theorem State.byt_eq (key : Nat) : s.byt key = (match s.val key with | .num _ => [] | .bytes b => b) := rfl
theorem State.nat_eq (key : Nat) : s.nat key = (s.num key).toNat := rfl
theorem State.flag_eq (key : Nat) : s.flag key = (s.num key != 0) := rfl

/-- Equal values give equal numbers. -/
theorem State.num_congr {s t : State} {key : Nat} (h : t.val key = s.val key) : t.num key = s.num key := by
  simp only [State.num_eq, h]
theorem State.nat_congr {s t : State} {key : Nat} (h : t.val key = s.val key) : t.nat key = s.nat key := by
  simp only [State.nat_eq, State.num_eq, h]
theorem State.flag_congr {s t : State} {key : Nat} (h : t.val key = s.val key) : t.flag key = s.flag key := by
  simp only [State.flag_eq, State.num_eq, h]
theorem State.byt_congr {s t : State} {key : Nat} (h : t.val key = s.val key) : t.byt key = s.byt key := by
  simp only [State.byt_eq, h]

/-- Equal dictionaries give equal objects. -/
theorem State.val_congr {s t : State} (h : t.dict = s.dict) (key : Nat) : t.val key = s.val key := by
  simp only [State.val, h]

/-! ### After a write -/

@[simp] theorem State.val_setVal_self (key : Nat) (v : Val) : (s.setVal key v).val key = v := smGet_smSet_self _ _ _ _
@[simp] theorem State.num_setVal_self (key : Nat) (n : Int) : (s.setVal key (.num n)).num key = n := by simp [State.num_eq]
@[simp] theorem State.nat_setVal_self (key : Nat) (n : Int) : (s.setVal key (.num n)).nat key = n.toNat := by simp [State.nat_eq]
@[simp] theorem State.flag_setVal_self (key : Nat) (n : Int) : (s.setVal key (.num n)).flag key = (n != 0) := by simp [State.flag_eq]
@[simp] theorem State.byt_setVal_self (key : Nat) (b : Bytes) : (s.setVal key (.bytes b)).byt key = b := by simp [State.byt_eq]

@[simp] theorem State.val_setVal_ne {key k : Nat} (v : Val) (h : k ≠ key) : (s.setVal key v).val k = s.val k :=
  smGet_smSet_ne _ _ _ h
@[simp] theorem State.num_setVal_ne {key k : Nat} (v : Val) (h : k ≠ key) : (s.setVal key v).num k = s.num k :=
  State.num_congr (s.val_setVal_ne v h)
@[simp] theorem State.nat_setVal_ne {key k : Nat} (v : Val) (h : k ≠ key) : (s.setVal key v).nat k = s.nat k :=
  State.nat_congr (s.val_setVal_ne v h)
@[simp] theorem State.flag_setVal_ne {key k : Nat} (v : Val) (h : k ≠ key) : (s.setVal key v).flag k = s.flag k :=
  State.flag_congr (s.val_setVal_ne v h)
@[simp] theorem State.byt_setVal_ne {key k : Nat} (v : Val) (h : k ≠ key) : (s.setVal key v).byt k = s.byt k :=
  State.byt_congr (s.val_setVal_ne v h)

/-! ### After the updates that leave the dictionary -/

@[simp] theorem State.val_touch (key : Nat) (k : Nat) : (s.touch key).val k = s.val k :=
  State.val_congr (s.touch_dict key) k
@[simp] theorem State.num_touch (key : Nat) (k : Nat) : (s.touch key).num k = s.num k :=
  State.num_congr (s.val_touch key k)
@[simp] theorem State.nat_touch (key : Nat) (k : Nat) : (s.touch key).nat k = s.nat k :=
  State.nat_congr (s.val_touch key k)
@[simp] theorem State.flag_touch (key : Nat) (k : Nat) : (s.touch key).flag k = s.flag k :=
  State.flag_congr (s.val_touch key k)
@[simp] theorem State.byt_touch (key : Nat) (k : Nat) : (s.touch key).byt k = s.byt k :=
  State.byt_congr (s.val_touch key k)
@[simp] theorem State.val_emit (e : Emit) (key : Nat) : (s.emit e).val key = s.val key :=
  State.val_congr (s.emit_dict e) key
@[simp] theorem State.num_emit (e : Emit) (key : Nat) : (s.emit e).num key = s.num key :=
  State.num_congr (s.val_emit e key)
@[simp] theorem State.nat_emit (e : Emit) (key : Nat) : (s.emit e).nat key = s.nat key :=
  State.nat_congr (s.val_emit e key)
@[simp] theorem State.flag_emit (e : Emit) (key : Nat) : (s.emit e).flag key = s.flag key :=
  State.flag_congr (s.val_emit e key)
@[simp] theorem State.byt_emit (e : Emit) (key : Nat) : (s.emit e).byt key = s.byt key :=
  State.byt_congr (s.val_emit e key)
@[simp] theorem State.val_tickTo (t : Nat) (key : Nat) : (s.tickTo t).val key = s.val key :=
  State.val_congr (s.tickTo_dict t) key
@[simp] theorem State.num_tickTo (t : Nat) (key : Nat) : (s.tickTo t).num key = s.num key :=
  State.num_congr (s.val_tickTo t key)
@[simp] theorem State.nat_tickTo (t : Nat) (key : Nat) : (s.tickTo t).nat key = s.nat key :=
  State.nat_congr (s.val_tickTo t key)
@[simp] theorem State.flag_tickTo (t : Nat) (key : Nat) : (s.tickTo t).flag key = s.flag key :=
  State.flag_congr (s.val_tickTo t key)
@[simp] theorem State.byt_tickTo (t : Nat) (key : Nat) : (s.tickTo t).byt key = s.byt key :=
  State.byt_congr (s.val_tickTo t key)
@[simp] theorem State.val_setFlt (x : Flt) (key : Nat) : (s.setFlt x).val key = s.val key :=
  State.val_congr (s.setFlt_dict x) key
@[simp] theorem State.num_setFlt (x : Flt) (key : Nat) : (s.setFlt x).num key = s.num key :=
  State.num_congr (s.val_setFlt x key)
@[simp] theorem State.nat_setFlt (x : Flt) (key : Nat) : (s.setFlt x).nat key = s.nat key :=
  State.nat_congr (s.val_setFlt x key)
@[simp] theorem State.flag_setFlt (x : Flt) (key : Nat) : (s.setFlt x).flag key = s.flag key :=
  State.flag_congr (s.val_setFlt x key)
@[simp] theorem State.byt_setFlt (x : Flt) (key : Nat) : (s.setFlt x).byt key = s.byt key :=
  State.byt_congr (s.val_setFlt x key)
@[simp] theorem State.val_setLog (i : Side) (x : LogPart) (key : Nat) : (s.setLog i x).val key = s.val key :=
  State.val_congr (s.setLog_dict i x) key
@[simp] theorem State.num_setLog (i : Side) (x : LogPart) (key : Nat) : (s.setLog i x).num key = s.num key :=
  State.num_congr (s.val_setLog i x key)
@[simp] theorem State.nat_setLog (i : Side) (x : LogPart) (key : Nat) : (s.setLog i x).nat key = s.nat key :=
  State.nat_congr (s.val_setLog i x key)
@[simp] theorem State.flag_setLog (i : Side) (x : LogPart) (key : Nat) : (s.setLog i x).flag key = s.flag key :=
  State.flag_congr (s.val_setLog i x key)
@[simp] theorem State.byt_setLog (i : Side) (x : LogPart) (key : Nat) : (s.setLog i x).byt key = s.byt key :=
  State.byt_congr (s.val_setLog i x key)
@[simp] theorem State.val_setEnc (e : Nat) (x : Enc) (key : Nat) : (s.setEnc e x).val key = s.val key :=
  State.val_congr (s.setEnc_dict e x) key
@[simp] theorem State.num_setEnc (e : Nat) (x : Enc) (key : Nat) : (s.setEnc e x).num key = s.num key :=
  State.num_congr (s.val_setEnc e x key)
@[simp] theorem State.nat_setEnc (e : Nat) (x : Enc) (key : Nat) : (s.setEnc e x).nat key = s.nat key :=
  State.nat_congr (s.val_setEnc e x key)
@[simp] theorem State.flag_setEnc (e : Nat) (x : Enc) (key : Nat) : (s.setEnc e x).flag key = s.flag key :=
  State.flag_congr (s.val_setEnc e x key)
@[simp] theorem State.byt_setEnc (e : Nat) (x : Enc) (key : Nat) : (s.setEnc e x).byt key = s.byt key :=
  State.byt_congr (s.val_setEnc e x key)
@[simp] theorem State.val_setWeb (x : Web) (key : Nat) : (s.setWeb x).val key = s.val key :=
  State.val_congr (s.setWeb_dict x) key
@[simp] theorem State.num_setWeb (x : Web) (key : Nat) : (s.setWeb x).num key = s.num key :=
  State.num_congr (s.val_setWeb x key)
@[simp] theorem State.nat_setWeb (x : Web) (key : Nat) : (s.setWeb x).nat key = s.nat key :=
  State.nat_congr (s.val_setWeb x key)
@[simp] theorem State.flag_setWeb (x : Web) (key : Nat) : (s.setWeb x).flag key = s.flag key :=
  State.flag_congr (s.val_setWeb x key)
@[simp] theorem State.byt_setWeb (x : Web) (key : Nat) : (s.setWeb x).byt key = s.byt key :=
  State.byt_congr (s.val_setWeb x key)
@[simp] theorem State.val_setSched (x : Sched) (key : Nat) : (s.setSched x).val key = s.val key :=
  State.val_congr (s.setSched_dict x) key
@[simp] theorem State.num_setSched (x : Sched) (key : Nat) : (s.setSched x).num key = s.num key :=
  State.num_congr (s.val_setSched x key)
@[simp] theorem State.nat_setSched (x : Sched) (key : Nat) : (s.setSched x).nat key = s.nat key :=
  State.nat_congr (s.val_setSched x key)
@[simp] theorem State.flag_setSched (x : Sched) (key : Nat) : (s.setSched x).flag key = s.flag key :=
  State.flag_congr (s.val_setSched x key)
@[simp] theorem State.byt_setSched (x : Sched) (key : Nat) : (s.setSched x).byt key = s.byt key :=
  State.byt_congr (s.val_setSched x key)
@[simp] theorem State.val_setPlane (k : Nat) (x : Plane) (key : Nat) : (s.setPlane k x).val key = s.val key :=
  State.val_congr (s.setPlane_dict k x) key
@[simp] theorem State.num_setPlane (k : Nat) (x : Plane) (key : Nat) : (s.setPlane k x).num key = s.num key :=
  State.num_congr (s.val_setPlane k x key)
@[simp] theorem State.nat_setPlane (k : Nat) (x : Plane) (key : Nat) : (s.setPlane k x).nat key = s.nat key :=
  State.nat_congr (s.val_setPlane k x key)
@[simp] theorem State.flag_setPlane (k : Nat) (x : Plane) (key : Nat) : (s.setPlane k x).flag key = s.flag key :=
  State.flag_congr (s.val_setPlane k x key)
@[simp] theorem State.byt_setPlane (k : Nat) (x : Plane) (key : Nat) : (s.setPlane k x).byt key = s.byt key :=
  State.byt_congr (s.val_setPlane k x key)
@[simp] theorem State.val_setHead (h : Nat) (x : Head) (key : Nat) : (s.setHead h x).val key = s.val key :=
  State.val_congr (s.setHead_dict h x) key
@[simp] theorem State.num_setHead (h : Nat) (x : Head) (key : Nat) : (s.setHead h x).num key = s.num key :=
  State.num_congr (s.val_setHead h x key)
@[simp] theorem State.nat_setHead (h : Nat) (x : Head) (key : Nat) : (s.setHead h x).nat key = s.nat key :=
  State.nat_congr (s.val_setHead h x key)
@[simp] theorem State.flag_setHead (h : Nat) (x : Head) (key : Nat) : (s.setHead h x).flag key = s.flag key :=
  State.flag_congr (s.val_setHead h x key)
@[simp] theorem State.byt_setHead (h : Nat) (x : Head) (key : Nat) : (s.setHead h x).byt key = s.byt key :=
  State.byt_congr (s.val_setHead h x key)
@[simp] theorem State.val_setPort (h : Nat) (x : Port) (key : Nat) : (s.setPort h x).val key = s.val key :=
  State.val_congr (s.setPort_dict h x) key
@[simp] theorem State.num_setPort (h : Nat) (x : Port) (key : Nat) : (s.setPort h x).num key = s.num key :=
  State.num_congr (s.val_setPort h x key)
@[simp] theorem State.nat_setPort (h : Nat) (x : Port) (key : Nat) : (s.setPort h x).nat key = s.nat key :=
  State.nat_congr (s.val_setPort h x key)
@[simp] theorem State.flag_setPort (h : Nat) (x : Port) (key : Nat) : (s.setPort h x).flag key = s.flag key :=
  State.flag_congr (s.val_setPort h x key)
@[simp] theorem State.byt_setPort (h : Nat) (x : Port) (key : Nat) : (s.setPort h x).byt key = s.byt key :=
  State.byt_congr (s.val_setPort h x key)
@[simp] theorem State.val_setMeas (h : Nat) (x : Meas) (key : Nat) : (s.setMeas h x).val key = s.val key :=
  State.val_congr (s.setMeas_dict h x) key
@[simp] theorem State.num_setMeas (h : Nat) (x : Meas) (key : Nat) : (s.setMeas h x).num key = s.num key :=
  State.num_congr (s.val_setMeas h x key)
@[simp] theorem State.nat_setMeas (h : Nat) (x : Meas) (key : Nat) : (s.setMeas h x).nat key = s.nat key :=
  State.nat_congr (s.val_setMeas h x key)
@[simp] theorem State.flag_setMeas (h : Nat) (x : Meas) (key : Nat) : (s.setMeas h x).flag key = s.flag key :=
  State.flag_congr (s.val_setMeas h x key)
@[simp] theorem State.byt_setMeas (h : Nat) (x : Meas) (key : Nat) : (s.setMeas h x).byt key = s.byt key :=
  State.byt_congr (s.val_setMeas h x key)
@[simp] theorem State.val_setCal (x : Cal) (key : Nat) : (s.setCal x).val key = s.val key :=
  State.val_congr (s.setCal_dict x) key
@[simp] theorem State.num_setCal (x : Cal) (key : Nat) : (s.setCal x).num key = s.num key :=
  State.num_congr (s.val_setCal x key)
@[simp] theorem State.nat_setCal (x : Cal) (key : Nat) : (s.setCal x).nat key = s.nat key :=
  State.nat_congr (s.val_setCal x key)
@[simp] theorem State.flag_setCal (x : Cal) (key : Nat) : (s.setCal x).flag key = s.flag key :=
  State.flag_congr (s.val_setCal x key)
@[simp] theorem State.byt_setCal (x : Cal) (key : Nat) : (s.setCal x).byt key = s.byt key :=
  State.byt_congr (s.val_setCal x key)
@[simp] theorem State.val_setCam (c : Nat) (x : Cam) (key : Nat) : (s.setCam c x).val key = s.val key :=
  State.val_congr (s.setCam_dict c x) key
@[simp] theorem State.num_setCam (c : Nat) (x : Cam) (key : Nat) : (s.setCam c x).num key = s.num key :=
  State.num_congr (s.val_setCam c x key)
@[simp] theorem State.nat_setCam (c : Nat) (x : Cam) (key : Nat) : (s.setCam c x).nat key = s.nat key :=
  State.nat_congr (s.val_setCam c x key)
@[simp] theorem State.flag_setCam (c : Nat) (x : Cam) (key : Nat) : (s.setCam c x).flag key = s.flag key :=
  State.flag_congr (s.val_setCam c x key)
@[simp] theorem State.byt_setCam (c : Nat) (x : Cam) (key : Nat) : (s.setCam c x).byt key = s.byt key :=
  State.byt_congr (s.val_setCam c x key)
@[simp] theorem State.val_setAna (k : Nat) (x : Ana) (key : Nat) : (s.setAna k x).val key = s.val key :=
  State.val_congr (s.setAna_dict k x) key
@[simp] theorem State.num_setAna (k : Nat) (x : Ana) (key : Nat) : (s.setAna k x).num key = s.num key :=
  State.num_congr (s.val_setAna k x key)
@[simp] theorem State.nat_setAna (k : Nat) (x : Ana) (key : Nat) : (s.setAna k x).nat key = s.nat key :=
  State.nat_congr (s.val_setAna k x key)
@[simp] theorem State.flag_setAna (k : Nat) (x : Ana) (key : Nat) : (s.setAna k x).flag key = s.flag key :=
  State.flag_congr (s.val_setAna k x key)
@[simp] theorem State.byt_setAna (k : Nat) (x : Ana) (key : Nat) : (s.setAna k x).byt key = s.byt key :=
  State.byt_congr (s.val_setAna k x key)
@[simp] theorem State.val_setSub (u : Nat) (x : Sub) (key : Nat) : (s.setSub u x).val key = s.val key :=
  State.val_congr (s.setSub_dict u x) key
@[simp] theorem State.num_setSub (u : Nat) (x : Sub) (key : Nat) : (s.setSub u x).num key = s.num key :=
  State.num_congr (s.val_setSub u x key)
@[simp] theorem State.nat_setSub (u : Nat) (x : Sub) (key : Nat) : (s.setSub u x).nat key = s.nat key :=
  State.nat_congr (s.val_setSub u x key)
@[simp] theorem State.flag_setSub (u : Nat) (x : Sub) (key : Nat) : (s.setSub u x).flag key = s.flag key :=
  State.flag_congr (s.val_setSub u x key)
@[simp] theorem State.byt_setSub (u : Nat) (x : Sub) (key : Nat) : (s.setSub u x).byt key = s.byt key :=
  State.byt_congr (s.val_setSub u x key)
@[simp] theorem State.val_setCap (u : Nat) (x : CapUnit) (key : Nat) : (s.setCap u x).val key = s.val key :=
  State.val_congr (s.setCap_dict u x) key
@[simp] theorem State.num_setCap (u : Nat) (x : CapUnit) (key : Nat) : (s.setCap u x).num key = s.num key :=
  State.num_congr (s.val_setCap u x key)
@[simp] theorem State.nat_setCap (u : Nat) (x : CapUnit) (key : Nat) : (s.setCap u x).nat key = s.nat key :=
  State.nat_congr (s.val_setCap u x key)
@[simp] theorem State.flag_setCap (u : Nat) (x : CapUnit) (key : Nat) : (s.setCap u x).flag key = s.flag key :=
  State.flag_congr (s.val_setCap u x key)
@[simp] theorem State.byt_setCap (u : Nat) (x : CapUnit) (key : Nat) : (s.setCap u x).byt key = s.byt key :=
  State.byt_congr (s.val_setCap u x key)
@[simp] theorem State.val_setSess (i : Nat) (x : Sess) (key : Nat) : (s.setSess i x).val key = s.val key :=
  State.val_congr (s.setSess_dict i x) key
@[simp] theorem State.num_setSess (i : Nat) (x : Sess) (key : Nat) : (s.setSess i x).num key = s.num key :=
  State.num_congr (s.val_setSess i x key)
@[simp] theorem State.nat_setSess (i : Nat) (x : Sess) (key : Nat) : (s.setSess i x).nat key = s.nat key :=
  State.nat_congr (s.val_setSess i x key)
@[simp] theorem State.flag_setSess (i : Nat) (x : Sess) (key : Nat) : (s.setSess i x).flag key = s.flag key :=
  State.flag_congr (s.val_setSess i x key)
@[simp] theorem State.byt_setSess (i : Nat) (x : Sess) (key : Nat) : (s.setSess i x).byt key = s.byt key :=
  State.byt_congr (s.val_setSess i x key)
@[simp] theorem State.val_setCellRx (i : Nat) (x : CellRx) (key : Nat) : (s.setCellRx i x).val key = s.val key :=
  State.val_congr (s.setCellRx_dict i x) key
@[simp] theorem State.num_setCellRx (i : Nat) (x : CellRx) (key : Nat) : (s.setCellRx i x).num key = s.num key :=
  State.num_congr (s.val_setCellRx i x key)
@[simp] theorem State.nat_setCellRx (i : Nat) (x : CellRx) (key : Nat) : (s.setCellRx i x).nat key = s.nat key :=
  State.nat_congr (s.val_setCellRx i x key)
@[simp] theorem State.flag_setCellRx (i : Nat) (x : CellRx) (key : Nat) : (s.setCellRx i x).flag key = s.flag key :=
  State.flag_congr (s.val_setCellRx i x key)
@[simp] theorem State.byt_setCellRx (i : Nat) (x : CellRx) (key : Nat) : (s.setCellRx i x).byt key = s.byt key :=
  State.byt_congr (s.val_setCellRx i x key)
@[simp] theorem State.val_setSpanChan (i : Nat) (x : Chan) (key : Nat) : (s.setSpanChan i x).val key = s.val key :=
  State.val_congr (s.setSpanChan_dict i x) key
@[simp] theorem State.num_setSpanChan (i : Nat) (x : Chan) (key : Nat) : (s.setSpanChan i x).num key = s.num key :=
  State.num_congr (s.val_setSpanChan i x key)
@[simp] theorem State.nat_setSpanChan (i : Nat) (x : Chan) (key : Nat) : (s.setSpanChan i x).nat key = s.nat key :=
  State.nat_congr (s.val_setSpanChan i x key)
@[simp] theorem State.flag_setSpanChan (i : Nat) (x : Chan) (key : Nat) : (s.setSpanChan i x).flag key = s.flag key :=
  State.flag_congr (s.val_setSpanChan i x key)
@[simp] theorem State.byt_setSpanChan (i : Nat) (x : Chan) (key : Nat) : (s.setSpanChan i x).byt key = s.byt key :=
  State.byt_congr (s.val_setSpanChan i x key)
@[simp] theorem State.val_setPow (x : Pow) (key : Nat) : (s.setPow x).val key = s.val key :=
  State.val_congr (s.setPow_dict x) key
@[simp] theorem State.num_setPow (x : Pow) (key : Nat) : (s.setPow x).num key = s.num key :=
  State.num_congr (s.val_setPow x key)
@[simp] theorem State.nat_setPow (x : Pow) (key : Nat) : (s.setPow x).nat key = s.nat key :=
  State.nat_congr (s.val_setPow x key)
@[simp] theorem State.flag_setPow (x : Pow) (key : Nat) : (s.setPow x).flag key = s.flag key :=
  State.flag_congr (s.val_setPow x key)
@[simp] theorem State.byt_setPow (x : Pow) (key : Nat) : (s.setPow x).byt key = s.byt key :=
  State.byt_congr (s.val_setPow x key)
@[simp] theorem State.val_setEpisode (i : Side) (x : Episode) (key : Nat) : (s.setEpisode i x).val key = s.val key :=
  State.val_congr (s.setEpisode_dict i x) key
@[simp] theorem State.num_setEpisode (i : Side) (x : Episode) (key : Nat) : (s.setEpisode i x).num key = s.num key :=
  State.num_congr (s.val_setEpisode i x key)
@[simp] theorem State.nat_setEpisode (i : Side) (x : Episode) (key : Nat) : (s.setEpisode i x).nat key = s.nat key :=
  State.nat_congr (s.val_setEpisode i x key)
@[simp] theorem State.flag_setEpisode (i : Side) (x : Episode) (key : Nat) : (s.setEpisode i x).flag key = s.flag key :=
  State.flag_congr (s.val_setEpisode i x key)
@[simp] theorem State.byt_setEpisode (i : Side) (x : Episode) (key : Nat) : (s.setEpisode i x).byt key = s.byt key :=
  State.byt_congr (s.val_setEpisode i x key)
@[simp] theorem State.val_setDux (x : Dux) (key : Nat) : (s.setDux x).val key = s.val key :=
  State.val_congr (s.setDux_dict x) key
@[simp] theorem State.num_setDux (x : Dux) (key : Nat) : (s.setDux x).num key = s.num key :=
  State.num_congr (s.val_setDux x key)
@[simp] theorem State.nat_setDux (x : Dux) (key : Nat) : (s.setDux x).nat key = s.nat key :=
  State.nat_congr (s.val_setDux x key)
@[simp] theorem State.flag_setDux (x : Dux) (key : Nat) : (s.setDux x).flag key = s.flag key :=
  State.flag_congr (s.val_setDux x key)
@[simp] theorem State.byt_setDux (x : Dux) (key : Nat) : (s.setDux x).byt key = s.byt key :=
  State.byt_congr (s.val_setDux x key)

/-! ### The canonical form -/

theorem State.dictWf_setVal {s : State} (key : Nat) (v : Val) (h : s.dictWf = true) : (s.setVal key v).dictWf = true :=
  smWf_smSet key v h

/-- A state with the same dictionary keeps the form. -/
theorem State.dictWf_congr {s t : State} (e : t.dict = s.dict) (h : s.dictWf = true) : t.dictWf = true := by
  simpa [State.dictWf, e] using h

end Sys2Proof.Machine
end

