-- ==== Sys2Proof/Laws/Events.lean ====
section
/-! SUPPORT. What raising an event can do (R344, R509, R513, R514): it writes the fault machinery, `Handling`, `EntriesLost`, the
emissions and the events that wait for delivery, and nothing else. -/

namespace Sys2Proof.Machine

variable (s : State)

/-! ### The log's queue -/

@[simp] theorem State.enqueue_pending (e : EventRec) : (s.enqueue e).pending = s.pending := by
  simp only [State.enqueue]; repeat' (first | rfl | split | simp)
@[simp] theorem State.enqueue_now (e : EventRec) : (s.enqueue e).now = s.now := by
  simp only [State.enqueue]; repeat' (first | rfl | split | simp)
@[simp] theorem State.enqueue_ident (e : EventRec) : (s.enqueue e).ident = s.ident := by
  simp only [State.enqueue]; repeat' (first | rfl | split | simp)
@[simp] theorem State.enqueue_out (e : EventRec) : (s.enqueue e).out = s.out := by
  simp only [State.enqueue]; repeat' (first | rfl | split | simp)
@[simp] theorem State.enqueue_free (e : EventRec) : (s.enqueue e).free = s.free := by
  simp only [State.enqueue]; repeat' (first | rfl | split | simp)
@[simp] theorem State.enqueue_hostEv (e : EventRec) : (s.enqueue e).hostEv = s.hostEv := by
  simp only [State.enqueue]; repeat' (first | rfl | split | simp)
@[simp] theorem State.enqueue_fieldEv (e : EventRec) : (s.enqueue e).fieldEv = s.fieldEv := by
  simp only [State.enqueue]; repeat' (first | rfl | split | simp)
@[simp] theorem State.enqueue_tim (e : EventRec) : (s.enqueue e).tim = s.tim := by
  simp only [State.enqueue]; repeat' (first | rfl | split | simp)
@[simp] theorem State.enqueue_web (e : EventRec) : (s.enqueue e).web = s.web := by
  simp only [State.enqueue]; repeat' (first | rfl | split | simp)
@[simp] theorem State.enqueue_sched (e : EventRec) : (s.enqueue e).sched = s.sched := by
  simp only [State.enqueue]; repeat' (first | rfl | split | simp)
@[simp] theorem State.enqueue_planes (e : EventRec) : (s.enqueue e).planes = s.planes := by
  simp only [State.enqueue]; repeat' (first | rfl | split | simp)
@[simp] theorem State.enqueue_strips (e : EventRec) : (s.enqueue e).strips = s.strips := by
  simp only [State.enqueue]; repeat' (first | rfl | split | simp)
@[simp] theorem State.enqueue_screen (e : EventRec) : (s.enqueue e).screen = s.screen := by
  simp only [State.enqueue]; repeat' (first | rfl | split | simp)
@[simp] theorem State.enqueue_heads (e : EventRec) : (s.enqueue e).heads = s.heads := by
  simp only [State.enqueue]; repeat' (first | rfl | split | simp)
@[simp] theorem State.enqueue_ports (e : EventRec) : (s.enqueue e).ports = s.ports := by
  simp only [State.enqueue]; repeat' (first | rfl | split | simp)
@[simp] theorem State.enqueue_health (e : EventRec) : (s.enqueue e).health = s.health := by
  simp only [State.enqueue]; repeat' (first | rfl | split | simp)
@[simp] theorem State.enqueue_meas (e : EventRec) : (s.enqueue e).meas = s.meas := by
  simp only [State.enqueue]; repeat' (first | rfl | split | simp)
@[simp] theorem State.enqueue_cal (e : EventRec) : (s.enqueue e).cal = s.cal := by
  simp only [State.enqueue]; repeat' (first | rfl | split | simp)
@[simp] theorem State.enqueue_cams (e : EventRec) : (s.enqueue e).cams = s.cams := by
  simp only [State.enqueue]; repeat' (first | rfl | split | simp)
@[simp] theorem State.enqueue_ana (e : EventRec) : (s.enqueue e).ana = s.ana := by
  simp only [State.enqueue]; repeat' (first | rfl | split | simp)
@[simp] theorem State.enqueue_dram (e : EventRec) : (s.enqueue e).dram = s.dram := by
  simp only [State.enqueue]; repeat' (first | rfl | split | simp)
@[simp] theorem State.enqueue_comp (e : EventRec) : (s.enqueue e).comp = s.comp := by
  simp only [State.enqueue]; repeat' (first | rfl | split | simp)
@[simp] theorem State.enqueue_groups (e : EventRec) : (s.enqueue e).groups = s.groups := by
  simp only [State.enqueue]; repeat' (first | rfl | split | simp)
@[simp] theorem State.enqueue_net (e : EventRec) : (s.enqueue e).net = s.net := by
  simp only [State.enqueue]; repeat' (first | rfl | split | simp)
@[simp] theorem State.enqueue_span (e : EventRec) : (s.enqueue e).span = s.span := by
  simp only [State.enqueue]; repeat' (first | rfl | split | simp)
@[simp] theorem State.enqueue_pack (e : EventRec) : (s.enqueue e).pack = s.pack := by
  simp only [State.enqueue]; repeat' (first | rfl | split | simp)
@[simp] theorem State.enqueue_pow (e : EventRec) : (s.enqueue e).pow = s.pow := by
  simp only [State.enqueue]; repeat' (first | rfl | split | simp)
@[simp] theorem State.enqueue_rst (e : EventRec) : (s.enqueue e).rst = s.rst := by
  simp only [State.enqueue]; repeat' (first | rfl | split | simp)
@[simp] theorem State.enqueue_flash (e : EventRec) : (s.enqueue e).flash = s.flash := by
  simp only [State.enqueue]; repeat' (first | rfl | split | simp)
@[simp] theorem State.enqueue_sec (e : EventRec) : (s.enqueue e).sec = s.sec := by
  simp only [State.enqueue]; repeat' (first | rfl | split | simp)
@[simp] theorem State.enqueue_dux (e : EventRec) : (s.enqueue e).dux = s.dux := by
  simp only [State.enqueue]; repeat' (first | rfl | split | simp)

/-- Queueing an entry writes no object but `EntriesLost` (R511). -/
theorem State.val_enqueue (e : EventRec) {k : Nat} (h1 : k ≠ Obj.HostLogStatus.hostEntriesLost)
    (h2 : k ≠ Obj.FieldLogStatus.fieldEntriesLost) : (s.enqueue e).val k = s.val k := by
  have h : k ≠ entriesLost e.side := by cases e.side <;> simpa [entriesLost]
  simp only [State.enqueue]
  repeat' (first | rfl | split | simp [h])

/-! ### Posting -/

@[simp] theorem State.post_pending (e : EventRec) : (s.post e).pending = s.pending := by
  cases h : e.side <;> simp [State.post, h]
@[simp] theorem State.post_now (e : EventRec) : (s.post e).now = s.now := by
  cases h : e.side <;> simp [State.post, h]
@[simp] theorem State.post_ident (e : EventRec) : (s.post e).ident = s.ident := by
  cases h : e.side <;> simp [State.post, h]
@[simp] theorem State.post_free (e : EventRec) : (s.post e).free = s.free := by
  cases h : e.side <;> simp [State.post, h]
@[simp] theorem State.post_tim (e : EventRec) : (s.post e).tim = s.tim := by
  cases h : e.side <;> simp [State.post, h]
@[simp] theorem State.post_web (e : EventRec) : (s.post e).web = s.web := by
  cases h : e.side <;> simp [State.post, h]
@[simp] theorem State.post_sched (e : EventRec) : (s.post e).sched = s.sched := by
  cases h : e.side <;> simp [State.post, h]
@[simp] theorem State.post_planes (e : EventRec) : (s.post e).planes = s.planes := by
  cases h : e.side <;> simp [State.post, h]
@[simp] theorem State.post_strips (e : EventRec) : (s.post e).strips = s.strips := by
  cases h : e.side <;> simp [State.post, h]
@[simp] theorem State.post_screen (e : EventRec) : (s.post e).screen = s.screen := by
  cases h : e.side <;> simp [State.post, h]
@[simp] theorem State.post_heads (e : EventRec) : (s.post e).heads = s.heads := by
  cases h : e.side <;> simp [State.post, h]
@[simp] theorem State.post_ports (e : EventRec) : (s.post e).ports = s.ports := by
  cases h : e.side <;> simp [State.post, h]
@[simp] theorem State.post_health (e : EventRec) : (s.post e).health = s.health := by
  cases h : e.side <;> simp [State.post, h]
@[simp] theorem State.post_meas (e : EventRec) : (s.post e).meas = s.meas := by
  cases h : e.side <;> simp [State.post, h]
@[simp] theorem State.post_cal (e : EventRec) : (s.post e).cal = s.cal := by
  cases h : e.side <;> simp [State.post, h]
@[simp] theorem State.post_cams (e : EventRec) : (s.post e).cams = s.cams := by
  cases h : e.side <;> simp [State.post, h]
@[simp] theorem State.post_ana (e : EventRec) : (s.post e).ana = s.ana := by
  cases h : e.side <;> simp [State.post, h]
@[simp] theorem State.post_dram (e : EventRec) : (s.post e).dram = s.dram := by
  cases h : e.side <;> simp [State.post, h]
@[simp] theorem State.post_comp (e : EventRec) : (s.post e).comp = s.comp := by
  cases h : e.side <;> simp [State.post, h]
@[simp] theorem State.post_groups (e : EventRec) : (s.post e).groups = s.groups := by
  cases h : e.side <;> simp [State.post, h]
@[simp] theorem State.post_net (e : EventRec) : (s.post e).net = s.net := by
  cases h : e.side <;> simp [State.post, h]
@[simp] theorem State.post_span (e : EventRec) : (s.post e).span = s.span := by
  cases h : e.side <;> simp [State.post, h]
@[simp] theorem State.post_pack (e : EventRec) : (s.post e).pack = s.pack := by
  cases h : e.side <;> simp [State.post, h]
@[simp] theorem State.post_pow (e : EventRec) : (s.post e).pow = s.pow := by
  cases h : e.side <;> simp [State.post, h]
@[simp] theorem State.post_rst (e : EventRec) : (s.post e).rst = s.rst := by
  cases h : e.side <;> simp [State.post, h]
@[simp] theorem State.post_flash (e : EventRec) : (s.post e).flash = s.flash := by
  cases h : e.side <;> simp [State.post, h]
@[simp] theorem State.post_sec (e : EventRec) : (s.post e).sec = s.sec := by
  cases h : e.side <;> simp [State.post, h]
@[simp] theorem State.post_dux (e : EventRec) : (s.post e).dux = s.dux := by
  cases h : e.side <;> simp [State.post, h]

theorem State.val_post (e : EventRec) {k : Nat} (h1 : k ≠ Obj.HostLogStatus.hostEntriesLost)
    (h2 : k ≠ Obj.FieldLogStatus.fieldEntriesLost) : (s.post e).val k = s.val k := by
  have hh : (s.post e).dict = (s.enqueue { e with seq := s.nextSeq e.side }).dict := by
    cases h : e.side <;> simp [State.post, h]
  rw [State.val_congr hh, State.val_enqueue _ _ h1 h2]

/-- Posting emits the event, last. -/
@[simp] theorem State.post_out (e : EventRec) :
    (s.post e).out = s.out ++ [.event { e with seq := s.nextSeq e.side }] := by
  cases h : e.side <;> simp [State.post, h]

/-! ### Raising -/

@[simp] theorem State.ev_eq (ev : Nat × Nat) (w : List Int) (i : Nat) : s.ev ev w i = s.raise .field ev i none w := rfl
@[simp] theorem State.evAt_eq (ev : Nat × Nat) (k : Nat) (l : Int) (w : List Int) (i : Nat) :
    s.evAt ev k l w i = s.raise .field ev i (some (k, l)) w := rfl
@[simp] theorem State.hev_eq (ev : Nat × Nat) (w : List Int) (i : Nat) : s.hev ev w i = s.raise .host ev i none w := rfl
@[simp] theorem State.evPl_eq (ev : Nat × Nat) (k : Nat) (w : List Int) (i : Nat) :
    s.evPl ev k w i = s.raise .field ev i (some (k, s.unopened k)) w := rfl

/-- The forms that raising takes: a post, or a post with the handling instances replaced and a note for the control cycle, and a second
post where a step is refused (R514, R515). -/
theorem State.raise_cases (i : Side) (ev : Nat × Nat) (n : Nat) (pl : Option (Nat × Int)) (w : List Int) :
    (ev.2 < 2 ∧ s.raise i ev n pl w = s.post (s.mkEvent i ev n pl w)) ∨
    (2 ≤ ev.2 ∧ ∃ (fl : Nat) (l : List Handling) (f : Flt),
      s.raise i ev n pl w = (((s.post { s.mkEvent i ev n pl w with flags := fl }).setHandling l).setFlt f) ∨
      ∃ e' l', s.raise i ev n pl w = ((((s.post { s.mkEvent i ev n pl w with flags := fl }).setHandling l).setFlt f).post e').setHandling l') := by
  unfold State.raise
  by_cases h : ev.2 < 2
  · simp [h]
  · simp only [h, if_false, false_and, false_or]
    refine ⟨Nat.le_of_not_lt h, ?_⟩
    generalize escalate (s.nat Obj.FaultControl.escalationCeiling) s.now (s.mkEvent i ev n pl w).stamp i ev.1 n s.flt.handling = p
    obtain ⟨fl, l, r⟩ := p
    cases r with
    | none => exact ⟨fl, l, _, .inl rfl⟩
    | some st => exact ⟨fl, l, _, .inr ⟨_, _, rfl⟩⟩

@[simp] theorem State.setHandling_pending (l : List Handling) : (s.setHandling l).pending = s.pending := by
  simp [State.setHandling]
@[simp] theorem State.setHandling_now (l : List Handling) : (s.setHandling l).now = s.now := by
  simp [State.setHandling]
@[simp] theorem State.setHandling_ident (l : List Handling) : (s.setHandling l).ident = s.ident := by
  simp [State.setHandling]
@[simp] theorem State.setHandling_out (l : List Handling) : (s.setHandling l).out = s.out := by
  simp [State.setHandling]
@[simp] theorem State.setHandling_free (l : List Handling) : (s.setHandling l).free = s.free := by
  simp [State.setHandling]
@[simp] theorem State.setHandling_hostEv (l : List Handling) : (s.setHandling l).hostEv = s.hostEv := by
  simp [State.setHandling]
@[simp] theorem State.setHandling_fieldEv (l : List Handling) : (s.setHandling l).fieldEv = s.fieldEv := by
  simp [State.setHandling]
@[simp] theorem State.setHandling_tim (l : List Handling) : (s.setHandling l).tim = s.tim := by
  simp [State.setHandling]
@[simp] theorem State.setHandling_web (l : List Handling) : (s.setHandling l).web = s.web := by
  simp [State.setHandling]
@[simp] theorem State.setHandling_sched (l : List Handling) : (s.setHandling l).sched = s.sched := by
  simp [State.setHandling]
@[simp] theorem State.setHandling_planes (l : List Handling) : (s.setHandling l).planes = s.planes := by
  simp [State.setHandling]
@[simp] theorem State.setHandling_strips (l : List Handling) : (s.setHandling l).strips = s.strips := by
  simp [State.setHandling]
@[simp] theorem State.setHandling_screen (l : List Handling) : (s.setHandling l).screen = s.screen := by
  simp [State.setHandling]
@[simp] theorem State.setHandling_heads (l : List Handling) : (s.setHandling l).heads = s.heads := by
  simp [State.setHandling]
@[simp] theorem State.setHandling_ports (l : List Handling) : (s.setHandling l).ports = s.ports := by
  simp [State.setHandling]
@[simp] theorem State.setHandling_health (l : List Handling) : (s.setHandling l).health = s.health := by
  simp [State.setHandling]
@[simp] theorem State.setHandling_meas (l : List Handling) : (s.setHandling l).meas = s.meas := by
  simp [State.setHandling]
@[simp] theorem State.setHandling_cal (l : List Handling) : (s.setHandling l).cal = s.cal := by
  simp [State.setHandling]
@[simp] theorem State.setHandling_cams (l : List Handling) : (s.setHandling l).cams = s.cams := by
  simp [State.setHandling]
@[simp] theorem State.setHandling_ana (l : List Handling) : (s.setHandling l).ana = s.ana := by
  simp [State.setHandling]
@[simp] theorem State.setHandling_dram (l : List Handling) : (s.setHandling l).dram = s.dram := by
  simp [State.setHandling]
@[simp] theorem State.setHandling_comp (l : List Handling) : (s.setHandling l).comp = s.comp := by
  simp [State.setHandling]
@[simp] theorem State.setHandling_groups (l : List Handling) : (s.setHandling l).groups = s.groups := by
  simp [State.setHandling]
@[simp] theorem State.setHandling_net (l : List Handling) : (s.setHandling l).net = s.net := by
  simp [State.setHandling]
@[simp] theorem State.setHandling_span (l : List Handling) : (s.setHandling l).span = s.span := by
  simp [State.setHandling]
@[simp] theorem State.setHandling_pack (l : List Handling) : (s.setHandling l).pack = s.pack := by
  simp [State.setHandling]
@[simp] theorem State.setHandling_pow (l : List Handling) : (s.setHandling l).pow = s.pow := by
  simp [State.setHandling]
@[simp] theorem State.setHandling_rst (l : List Handling) : (s.setHandling l).rst = s.rst := by
  simp [State.setHandling]
@[simp] theorem State.setHandling_flash (l : List Handling) : (s.setHandling l).flash = s.flash := by
  simp [State.setHandling]
@[simp] theorem State.setHandling_sec (l : List Handling) : (s.setHandling l).sec = s.sec := by
  simp [State.setHandling]
@[simp] theorem State.setHandling_dux (l : List Handling) : (s.setHandling l).dux = s.dux := by
  simp [State.setHandling]

theorem State.val_setHandling (l : List Handling) {k : Nat} (h : k ≠ Obj.handling) : (s.setHandling l).val k = s.val k := by
  simp [State.setHandling, h]

@[simp] theorem State.raise_pending (i : Side) (ev : Nat × Nat) (n : Nat) (pl : Option (Nat × Int)) (w : List Int) : (s.raise i ev n pl w).pending = s.pending := by
  rcases s.raise_cases i ev n pl w with ⟨_, h⟩ | ⟨_, _, _, _, h | ⟨_, _, h⟩⟩ <;> simp [h]
@[simp] theorem State.raise_now (i : Side) (ev : Nat × Nat) (n : Nat) (pl : Option (Nat × Int)) (w : List Int) : (s.raise i ev n pl w).now = s.now := by
  rcases s.raise_cases i ev n pl w with ⟨_, h⟩ | ⟨_, _, _, _, h | ⟨_, _, h⟩⟩ <;> simp [h]
@[simp] theorem State.raise_ident (i : Side) (ev : Nat × Nat) (n : Nat) (pl : Option (Nat × Int)) (w : List Int) : (s.raise i ev n pl w).ident = s.ident := by
  rcases s.raise_cases i ev n pl w with ⟨_, h⟩ | ⟨_, _, _, _, h | ⟨_, _, h⟩⟩ <;> simp [h]
@[simp] theorem State.raise_free (i : Side) (ev : Nat × Nat) (n : Nat) (pl : Option (Nat × Int)) (w : List Int) : (s.raise i ev n pl w).free = s.free := by
  rcases s.raise_cases i ev n pl w with ⟨_, h⟩ | ⟨_, _, _, _, h | ⟨_, _, h⟩⟩ <;> simp [h]
@[simp] theorem State.raise_tim (i : Side) (ev : Nat × Nat) (n : Nat) (pl : Option (Nat × Int)) (w : List Int) : (s.raise i ev n pl w).tim = s.tim := by
  rcases s.raise_cases i ev n pl w with ⟨_, h⟩ | ⟨_, _, _, _, h | ⟨_, _, h⟩⟩ <;> simp [h]
@[simp] theorem State.raise_web (i : Side) (ev : Nat × Nat) (n : Nat) (pl : Option (Nat × Int)) (w : List Int) : (s.raise i ev n pl w).web = s.web := by
  rcases s.raise_cases i ev n pl w with ⟨_, h⟩ | ⟨_, _, _, _, h | ⟨_, _, h⟩⟩ <;> simp [h]
@[simp] theorem State.raise_sched (i : Side) (ev : Nat × Nat) (n : Nat) (pl : Option (Nat × Int)) (w : List Int) : (s.raise i ev n pl w).sched = s.sched := by
  rcases s.raise_cases i ev n pl w with ⟨_, h⟩ | ⟨_, _, _, _, h | ⟨_, _, h⟩⟩ <;> simp [h]
@[simp] theorem State.raise_planes (i : Side) (ev : Nat × Nat) (n : Nat) (pl : Option (Nat × Int)) (w : List Int) : (s.raise i ev n pl w).planes = s.planes := by
  rcases s.raise_cases i ev n pl w with ⟨_, h⟩ | ⟨_, _, _, _, h | ⟨_, _, h⟩⟩ <;> simp [h]
@[simp] theorem State.raise_strips (i : Side) (ev : Nat × Nat) (n : Nat) (pl : Option (Nat × Int)) (w : List Int) : (s.raise i ev n pl w).strips = s.strips := by
  rcases s.raise_cases i ev n pl w with ⟨_, h⟩ | ⟨_, _, _, _, h | ⟨_, _, h⟩⟩ <;> simp [h]
@[simp] theorem State.raise_screen (i : Side) (ev : Nat × Nat) (n : Nat) (pl : Option (Nat × Int)) (w : List Int) : (s.raise i ev n pl w).screen = s.screen := by
  rcases s.raise_cases i ev n pl w with ⟨_, h⟩ | ⟨_, _, _, _, h | ⟨_, _, h⟩⟩ <;> simp [h]
@[simp] theorem State.raise_heads (i : Side) (ev : Nat × Nat) (n : Nat) (pl : Option (Nat × Int)) (w : List Int) : (s.raise i ev n pl w).heads = s.heads := by
  rcases s.raise_cases i ev n pl w with ⟨_, h⟩ | ⟨_, _, _, _, h | ⟨_, _, h⟩⟩ <;> simp [h]
@[simp] theorem State.raise_ports (i : Side) (ev : Nat × Nat) (n : Nat) (pl : Option (Nat × Int)) (w : List Int) : (s.raise i ev n pl w).ports = s.ports := by
  rcases s.raise_cases i ev n pl w with ⟨_, h⟩ | ⟨_, _, _, _, h | ⟨_, _, h⟩⟩ <;> simp [h]
@[simp] theorem State.raise_health (i : Side) (ev : Nat × Nat) (n : Nat) (pl : Option (Nat × Int)) (w : List Int) : (s.raise i ev n pl w).health = s.health := by
  rcases s.raise_cases i ev n pl w with ⟨_, h⟩ | ⟨_, _, _, _, h | ⟨_, _, h⟩⟩ <;> simp [h]
@[simp] theorem State.raise_meas (i : Side) (ev : Nat × Nat) (n : Nat) (pl : Option (Nat × Int)) (w : List Int) : (s.raise i ev n pl w).meas = s.meas := by
  rcases s.raise_cases i ev n pl w with ⟨_, h⟩ | ⟨_, _, _, _, h | ⟨_, _, h⟩⟩ <;> simp [h]
@[simp] theorem State.raise_cal (i : Side) (ev : Nat × Nat) (n : Nat) (pl : Option (Nat × Int)) (w : List Int) : (s.raise i ev n pl w).cal = s.cal := by
  rcases s.raise_cases i ev n pl w with ⟨_, h⟩ | ⟨_, _, _, _, h | ⟨_, _, h⟩⟩ <;> simp [h]
@[simp] theorem State.raise_cams (i : Side) (ev : Nat × Nat) (n : Nat) (pl : Option (Nat × Int)) (w : List Int) : (s.raise i ev n pl w).cams = s.cams := by
  rcases s.raise_cases i ev n pl w with ⟨_, h⟩ | ⟨_, _, _, _, h | ⟨_, _, h⟩⟩ <;> simp [h]
@[simp] theorem State.raise_ana (i : Side) (ev : Nat × Nat) (n : Nat) (pl : Option (Nat × Int)) (w : List Int) : (s.raise i ev n pl w).ana = s.ana := by
  rcases s.raise_cases i ev n pl w with ⟨_, h⟩ | ⟨_, _, _, _, h | ⟨_, _, h⟩⟩ <;> simp [h]
@[simp] theorem State.raise_dram (i : Side) (ev : Nat × Nat) (n : Nat) (pl : Option (Nat × Int)) (w : List Int) : (s.raise i ev n pl w).dram = s.dram := by
  rcases s.raise_cases i ev n pl w with ⟨_, h⟩ | ⟨_, _, _, _, h | ⟨_, _, h⟩⟩ <;> simp [h]
@[simp] theorem State.raise_comp (i : Side) (ev : Nat × Nat) (n : Nat) (pl : Option (Nat × Int)) (w : List Int) : (s.raise i ev n pl w).comp = s.comp := by
  rcases s.raise_cases i ev n pl w with ⟨_, h⟩ | ⟨_, _, _, _, h | ⟨_, _, h⟩⟩ <;> simp [h]
@[simp] theorem State.raise_groups (i : Side) (ev : Nat × Nat) (n : Nat) (pl : Option (Nat × Int)) (w : List Int) : (s.raise i ev n pl w).groups = s.groups := by
  rcases s.raise_cases i ev n pl w with ⟨_, h⟩ | ⟨_, _, _, _, h | ⟨_, _, h⟩⟩ <;> simp [h]
@[simp] theorem State.raise_net (i : Side) (ev : Nat × Nat) (n : Nat) (pl : Option (Nat × Int)) (w : List Int) : (s.raise i ev n pl w).net = s.net := by
  rcases s.raise_cases i ev n pl w with ⟨_, h⟩ | ⟨_, _, _, _, h | ⟨_, _, h⟩⟩ <;> simp [h]
@[simp] theorem State.raise_span (i : Side) (ev : Nat × Nat) (n : Nat) (pl : Option (Nat × Int)) (w : List Int) : (s.raise i ev n pl w).span = s.span := by
  rcases s.raise_cases i ev n pl w with ⟨_, h⟩ | ⟨_, _, _, _, h | ⟨_, _, h⟩⟩ <;> simp [h]
@[simp] theorem State.raise_pack (i : Side) (ev : Nat × Nat) (n : Nat) (pl : Option (Nat × Int)) (w : List Int) : (s.raise i ev n pl w).pack = s.pack := by
  rcases s.raise_cases i ev n pl w with ⟨_, h⟩ | ⟨_, _, _, _, h | ⟨_, _, h⟩⟩ <;> simp [h]
@[simp] theorem State.raise_pow (i : Side) (ev : Nat × Nat) (n : Nat) (pl : Option (Nat × Int)) (w : List Int) : (s.raise i ev n pl w).pow = s.pow := by
  rcases s.raise_cases i ev n pl w with ⟨_, h⟩ | ⟨_, _, _, _, h | ⟨_, _, h⟩⟩ <;> simp [h]
@[simp] theorem State.raise_rst (i : Side) (ev : Nat × Nat) (n : Nat) (pl : Option (Nat × Int)) (w : List Int) : (s.raise i ev n pl w).rst = s.rst := by
  rcases s.raise_cases i ev n pl w with ⟨_, h⟩ | ⟨_, _, _, _, h | ⟨_, _, h⟩⟩ <;> simp [h]
@[simp] theorem State.raise_flash (i : Side) (ev : Nat × Nat) (n : Nat) (pl : Option (Nat × Int)) (w : List Int) : (s.raise i ev n pl w).flash = s.flash := by
  rcases s.raise_cases i ev n pl w with ⟨_, h⟩ | ⟨_, _, _, _, h | ⟨_, _, h⟩⟩ <;> simp [h]
@[simp] theorem State.raise_sec (i : Side) (ev : Nat × Nat) (n : Nat) (pl : Option (Nat × Int)) (w : List Int) : (s.raise i ev n pl w).sec = s.sec := by
  rcases s.raise_cases i ev n pl w with ⟨_, h⟩ | ⟨_, _, _, _, h | ⟨_, _, h⟩⟩ <;> simp [h]
@[simp] theorem State.raise_dux (i : Side) (ev : Nat × Nat) (n : Nat) (pl : Option (Nat × Int)) (w : List Int) : (s.raise i ev n pl w).dux = s.dux := by
  rcases s.raise_cases i ev n pl w with ⟨_, h⟩ | ⟨_, _, _, _, h | ⟨_, _, h⟩⟩ <;> simp [h]

/-- Raising an event writes no object but `Handling` and `EntriesLost`. -/
theorem State.val_raise (i : Side) (ev : Nat × Nat) (n : Nat) (pl : Option (Nat × Int)) (w : List Int) {k : Nat} (h0 : k ≠ Obj.handling)
    (h1 : k ≠ Obj.HostLogStatus.hostEntriesLost) (h2 : k ≠ Obj.FieldLogStatus.fieldEntriesLost) :
    (s.raise i ev n pl w).val k = s.val k := by
  rcases s.raise_cases i ev n pl w with ⟨_, h⟩ | ⟨_, _, _, _, h | ⟨_, _, h⟩⟩ <;>
    simp [h, State.val_post _ _ h1 h2, State.val_setHandling _ _ h0]

theorem State.num_raise (i : Side) (ev : Nat × Nat) (n : Nat) (pl : Option (Nat × Int)) (w : List Int) {k : Nat} (h0 : k ≠ Obj.handling)
    (h1 : k ≠ Obj.HostLogStatus.hostEntriesLost) (h2 : k ≠ Obj.FieldLogStatus.fieldEntriesLost) :
    (s.raise i ev n pl w).num k = s.num k := State.num_congr (State.val_raise s i ev n pl w h0 h1 h2)

theorem State.nat_raise (i : Side) (ev : Nat × Nat) (n : Nat) (pl : Option (Nat × Int)) (w : List Int) {k : Nat} (h0 : k ≠ Obj.handling)
    (h1 : k ≠ Obj.HostLogStatus.hostEntriesLost) (h2 : k ≠ Obj.FieldLogStatus.fieldEntriesLost) :
    (s.raise i ev n pl w).nat k = s.nat k := State.nat_congr (State.val_raise s i ev n pl w h0 h1 h2)

/-- Raising an event emits its record: code, class and context words are those of the event, the stamp is the island's. -/
theorem State.raise_mem (i : Side) (ev : Nat × Nat) (n : Nat) (pl : Option (Nat × Int)) (w : List Int) :
    ∃ e : EventRec, .event e ∈ (s.raise i ev n pl w).out ∧ e.code = ev.1 ∧ e.cls = ev.2 ∧ e.side = i ∧ e.stamp = s.stamp i
      ∧ e.w0 = low 32 (w.getD 0 0) ∧ e.w1 = low 32 (w.getD 1 0) ∧ e.w2 = low 32 (w.getD 2 0) := by
  rcases s.raise_cases i ev n pl w with ⟨_, h⟩ | ⟨_, fl, _, _, h | ⟨_, _, h⟩⟩ <;> rw [h]
  · exact ⟨{ s.mkEvent i ev n pl w with seq := s.nextSeq i }, by simp [State.mkEvent], rfl, rfl, rfl, rfl, rfl, rfl, rfl⟩
  · exact ⟨{ s.mkEvent i ev n pl w with flags := fl, seq := s.nextSeq i }, by simp [State.mkEvent], rfl, rfl, rfl, rfl, rfl, rfl, rfl⟩
  · exact ⟨{ s.mkEvent i ev n pl w with flags := fl, seq := s.nextSeq i }, by simp [State.mkEvent], rfl, rfl, rfl, rfl, rfl, rfl, rfl⟩

/-- What was emitted before an event stays emitted. -/
theorem State.raise_keeps (i : Side) (ev : Nat × Nat) (n : Nat) (pl : Option (Nat × Int)) (w : List Int) {e : Emit} (h : e ∈ s.out) : e ∈ (s.raise i ev n pl w).out := by
  rcases s.raise_cases i ev n pl w with ⟨_, h'⟩ | ⟨_, _, _, _, h' | ⟨_, _, h'⟩⟩ <;> simp [h', h]

/-! ### The canonical form of the dictionary -/

theorem State.dictWf_enqueue {s : State} (e : EventRec) (h : s.dictWf = true) : (s.enqueue e).dictWf = true := by
  have hl : ∀ p, (s.setLog e.side p).dictWf = true := fun p => State.dictWf_congr (s.setLog_dict _ _) h
  simp only [State.enqueue]
  repeat' (first | exact h | exact hl _ | exact State.dictWf_setVal _ _ (hl _) | split)

theorem State.dictWf_post {s : State} (e : EventRec) (h : s.dictWf = true) : (s.post e).dictWf = true := by
  have hh : (s.post e).dict = (s.enqueue { e with seq := s.nextSeq e.side }).dict := by
    cases h : e.side <;> simp [State.post, h]
  exact State.dictWf_congr hh (State.dictWf_enqueue _ h)

theorem State.dictWf_raise {s : State} (i : Side) (ev : Nat × Nat) (n : Nat) (pl : Option (Nat × Int)) (w : List Int) (h : s.dictWf = true) :
    (s.raise i ev n pl w).dictWf = true := by
  have hp : ∀ e, (s.post e).dictWf = true := fun e => State.dictWf_post e h
  have hh : ∀ {s : State} l, s.dictWf = true → (s.setHandling l).dictWf = true := fun {s} l h =>
    State.dictWf_setVal (s := s.setFlt { s.flt with handling := l }) _ _ (State.dictWf_congr rfl h)
  have hs : ∀ e l f, (((s.post e).setHandling l).setFlt f).dictWf = true := fun e l f => State.dictWf_congr rfl (hh l (hp e))
  rcases s.raise_cases i ev n pl w with ⟨_, h⟩ | ⟨_, _, _, _, h | ⟨_, _, h⟩⟩ <;> rw [h]
  · exact hp _
  · exact hs _ _ _
  · exact hh _ (State.dictWf_post _ (hs _ _ _))

end Sys2Proof.Machine
end

