-- ==== Sys2Proof/Laws/Net.lean ====
section
/-! SUPPORT. What the answer to an access and the delivery of events can do (R344, R345, R365, R369): they write the sessions, the
rings with `Occupancy`, the traffic counters of the answering session and the emissions, and nothing else. -/

namespace Sys2Proof.Machine

variable (s : State)

/-! ### Rings -/

/-- An object that is no ring's `Occupancy`. -/
def notOccupancy (k : Nat) : Prop := ∀ r < 64, k ≠ Obj.Ring.occupancy r

theorem State.setRing_shape (r : Nat) (l : List Descr) : ∃ n d c, s.setRing r l = { s with net := n, dict := d, chg := c } :=
  ⟨_, _, _, rfl⟩

theorem State.val_setRing {r : Nat} (l : List Descr) {k : Nat} (h : k ≠ Obj.Ring.occupancy r) : (s.setRing r l).val k = s.val k := by
  simp only [State.setRing, State.setN_eq, State.val_setVal_ne _ _ h]; rfl

theorem State.dictWf_setRing {s : State} (r : Nat) (l : List Descr) (h : s.dictWf = true) : (s.setRing r l).dictWf = true :=
  State.dictWf_setVal (s := { s with net := _ }) _ _ h

theorem State.mem_ringsOf {i d r : Nat} (h : r ∈ s.ringsOf i d) : r < 64 := by
  have := (List.mem_filter.1 h).1
  simpa using this

theorem State.ringFor_lt {i b r : Nat} (h : s.ringFor i b = some r) : r < 64 := s.mem_ringsOf (List.mem_of_find?_eq_some h)

theorem State.pushRing_shape {r typ : Nat} {body : Bytes} {st : Nat} {t : State} (h : s.pushRing r typ body st = some t) :
    ∃ l, t = s.setRing r l := by
  simp only [State.pushRing] at h
  split at h
  · exact ⟨_, (Option.some.inj h).symm⟩
  · cases h

/-! ### Delivery to one session -/

/-- What a delivery does: nothing, a record lost, or a ring of the session replaced with its context. -/
theorem State.deliver_cases (i : Nat) (b : Bytes) :
    s.deliver i b = s ∨ s.deliver i b = s.loseRecord i ∨ ∃ r < 64, ∃ l x, s.deliver i b = (s.setRing r l).setSess i x := by
  unfold State.deliver
  simp only
  split
  · exact .inl rfl
  · split
    · exact .inr (.inl rfl)
    · next r hr =>
      have h64 := s.ringFor_lt hr
      have push : ∀ (t : State) (rec_ : Bytes) (n : Nat) (x : Sess), s.pushRing r 10 rec_ n = some t →
          t.setSess i x = s.loseRecord i ∨ ∃ r < 64, ∃ l y, t.setSess i x = (s.setRing r l).setSess i y := by
        intro t rec_ n x hp
        obtain ⟨l, rfl⟩ := s.pushRing_shape hp
        exact .inr ⟨r, h64, l, x, rfl⟩
      split
      · split
        · exact .inr (.inr ⟨r, h64, _, _, rfl⟩)
        · split
          · next hp => exact .inr (push _ _ _ _ hp)
          · exact .inr (.inl rfl)
      · split
        · next hp => exact .inr (push _ _ _ _ hp)
        · exact .inr (.inl rfl)

theorem State.deliver_shape (i : Nat) (b : Bytes) : ∃ n d c, s.deliver i b = { s with net := n, dict := d, chg := c } := by
  rcases s.deliver_cases i b with h | h | ⟨r, _, l, x, h⟩ <;> rw [h]
  · exact ⟨_, _, _, rfl⟩
  · exact ⟨_, _, _, rfl⟩
  · exact ⟨_, _, _, rfl⟩

theorem State.val_deliver (i : Nat) (b : Bytes) {k : Nat} (h : notOccupancy k) : (s.deliver i b).val k = s.val k := by
  rcases s.deliver_cases i b with e | e | ⟨r, hr, l, x, e⟩ <;> rw [e]
  · rfl
  · rw [State.val_setSess, State.val_setRing _ _ (h r hr)]

theorem State.dictWf_deliver {s : State} (i : Nat) (b : Bytes) (h : s.dictWf = true) : (s.deliver i b).dictWf = true := by
  rcases s.deliver_cases i b with e | e | ⟨r, hr, l, x, e⟩ <;> rw [e]
  · exact h
  · exact h
  · exact State.dictWf_setRing r l h

/-! ### Folds over states -/

/-- A property that each step keeps is kept by a fold. -/
theorem foldl_keeps {β : Type} (P : State → Prop) (f : State → β → State) (h : ∀ s x, P s → P (f s x)) :
    ∀ (l : List β) (s : State), P s → P (l.foldl f s)
  | [], _, hs => hs
  | x :: l, s, hs => foldl_keeps P f h l (f s x) (h s x hs)

/-- A property that each step keeps is kept by a step for each instance of a list. -/
theorem State.each_keeps {s : State} (P : State → Prop) {f : State → Nat → State} (h : ∀ s i, P s → P (f s i)) (l : List Nat)
    (hs : P s) : P (s.each l f) := foldl_keeps P f h l s hs

/-! ### Delivery to every session, and the end of a command -/

theorem State.deliverAll_shape (b : Bytes) : ∃ n d c, s.deliverAll b = { s with net := n, dict := d, chg := c } := by
  refine State.each_keeps (fun t => ∃ n d c, t = { s with net := n, dict := d, chg := c }) ?_ _ ⟨_, _, _, rfl⟩
  rintro t i ⟨n, d, c, rfl⟩
  obtain ⟨n', d', c', h⟩ := State.deliver_shape { s with net := n, dict := d, chg := c } i b
  exact ⟨n', d', c', h⟩

theorem State.val_deliverAll (b : Bytes) {k : Nat} (h : notOccupancy k) : (s.deliverAll b).val k = s.val k := by
  refine State.each_keeps (fun t => t.val k = s.val k) ?_ _ rfl
  intro t i ht
  rw [State.val_deliver _ _ _ h, ht]

theorem State.dictWf_deliverAll {s : State} (b : Bytes) (h : s.dictWf = true) : (s.deliverAll b).dictWf = true :=
  State.each_keeps (fun t => t.dictWf = true) (fun _ _ ht => State.dictWf_deliver _ _ ht) _ h

/-! ### Span messages -/

/-- A Span message is emitted whole and changes the packer; cells that are due start (R383-R385). -/
theorem State.sendSpan_shape (i : Side) (typ : Nat) (b : Bytes) :
    ∃ p o, s.sendSpan i typ b = { s with pack := p, out := s.out ++ (.span i typ b :: o) } := by
  simp only [State.sendSpan, State.pumpSpan, State.emit]
  exact ⟨_, _, by simp only [List.append_assoc, List.singleton_append]; rfl⟩

theorem State.val_sendSpan (i : Side) (typ : Nat) (b : Bytes) (k : Nat) : (s.sendSpan i typ b).val k = s.val k := by
  obtain ⟨p, o, h⟩ := s.sendSpan_shape i typ b
  rw [h]; rfl

theorem State.sendSpan_mem (i : Side) (typ : Nat) (b : Bytes) : .span i typ b ∈ (s.sendSpan i typ b).out := by
  obtain ⟨p, o, h⟩ := s.sendSpan_shape i typ b
  rw [h]; simp

/-- What routing does: it empties the events that wait, delivers, notes a loss, or sends messages across. -/
theorem State.route_shape : ∃ n d c o m p, s.route = { s with hostEv := [], fieldEv := [], net := n, dict := d, chg := c, out := s.out ++ o, span := { s.span with missed := m }, pack := p } := by
  unfold State.route
  simp only
  have h1 : ∃ n d c, s.hostEv.foldl (fun (s : State) (e : EventRec) => s.deliverAll (e.bytes false)) { s with hostEv := [], fieldEv := [] } =
      { s with hostEv := [], fieldEv := [], net := n, dict := d, chg := c } := by
    refine foldl_keeps (fun t => ∃ n d c, t = { s with hostEv := [], fieldEv := [], net := n, dict := d, chg := c }) _ ?_ _ _ ⟨_, _, _, rfl⟩
    rintro t e ⟨n, d, c, rfl⟩
    obtain ⟨n', d', c', h⟩ := State.deliverAll_shape
      { s with hostEv := [], fieldEv := [], net := n, dict := d, chg := c } (e.bytes false)
    exact ⟨n', d', c', h⟩
  obtain ⟨n, d, c, h⟩ := h1
  rw [h]
  split
  · exact ⟨n, d, c, [], s.span.missed, s.pack, by simp⟩
  · split
    · exact ⟨n, d, c, [], true, s.pack, by simp⟩
    · refine foldl_keeps (fun t => ∃ n d c o m p, t = { s with hostEv := [], fieldEv := [], net := n, dict := d, chg := c, out := s.out ++ o, span := { s.span with missed := m }, pack := p }) _ ?_ _ _ ⟨n, d, c, [], s.span.missed, s.pack, by simp⟩
      rintro t x ⟨n, d, c, o, m, p, rfl⟩
      obtain ⟨p', o', h'⟩ := State.sendSpan_shape { s with hostEv := [], fieldEv := [], net := n, dict := d, chg := c, out := s.out ++ o, span := { s.span with missed := m }, pack := p } .field 0x43
        (leBytes 1 x.length ++ leBytes 3 0 ++ (x.map (fun e => e.bytes false)).flatten)
      exact ⟨n, d, c, o ++ (_ :: o'), m, p', by rw [State.toHost, h', List.append_assoc]⟩

/-- Routing writes no object but a ring's `Occupancy`. -/
theorem State.val_route {k : Nat} (h : notOccupancy k) : s.route.val k = s.val k := by
  unfold State.route
  simp only
  have h1 : (s.hostEv.foldl (fun (s : State) (e : EventRec) => s.deliverAll (e.bytes false)) { s with hostEv := [], fieldEv := [] }).val k = s.val k := by
    refine foldl_keeps (fun t => t.val k = s.val k) _ ?_ _ _ rfl
    intro t e ht
    rw [State.val_deliverAll _ _ h, ht]
  split
  · exact h1
  · split
    · exact h1
    · refine foldl_keeps (fun t => t.val k = s.val k) _ ?_ _ _ h1
      intro t x ht
      rw [State.toHost, State.val_sendSpan, ht]

theorem State.dictWf_route {s : State} (h : s.dictWf = true) : s.route.dictWf = true := by
  unfold State.route
  simp only
  have h1 : (s.hostEv.foldl (fun (s : State) (e : EventRec) => s.deliverAll (e.bytes false)) { s with hostEv := [], fieldEv := [] }).dictWf = true :=
    foldl_keeps (fun t => t.dictWf = true) _ (fun _ _ ht => State.dictWf_deliverAll _ ht) _ _ h
  split
  · exact h1
  · split
    · exact h1
    · exact foldl_keeps (fun t => t.dictWf = true) _ (fun t x ht => by
        obtain ⟨p, o, h'⟩ := t.sendSpan_shape .field 0x43 (leBytes 1 x.length ++ leBytes 3 0 ++ (x.map (fun e => e.bytes false)).flatten)
        simp only [State.toHost, h']; exact State.dictWf_congr rfl ht) _ _ h1

/-- What was emitted stays emitted. -/
theorem State.route_keeps {e : Emit} (h : e ∈ s.out) : e ∈ s.route.out := by
  obtain ⟨_, _, _, _, _, _, h'⟩ := s.route_shape
  rw [h']; simp [h]

@[simp] theorem State.route_hostEv : s.route.hostEv = [] := by
  obtain ⟨_, _, _, _, _, _, h'⟩ := s.route_shape
  rw [h']
@[simp] theorem State.route_fieldEv : s.route.fieldEv = [] := by
  obtain ⟨_, _, _, _, _, _, h'⟩ := s.route_shape
  rw [h']

@[simp] theorem State.route_pending : s.route.pending = s.pending := by
  obtain ⟨_, _, _, _, _, _, h⟩ := s.route_shape; rw [h]
@[simp] theorem State.route_now : s.route.now = s.now := by
  obtain ⟨_, _, _, _, _, _, h⟩ := s.route_shape; rw [h]
@[simp] theorem State.route_ident : s.route.ident = s.ident := by
  obtain ⟨_, _, _, _, _, _, h⟩ := s.route_shape; rw [h]
@[simp] theorem State.route_free : s.route.free = s.free := by
  obtain ⟨_, _, _, _, _, _, h⟩ := s.route_shape; rw [h]
@[simp] theorem State.route_flt : s.route.flt = s.flt := by
  obtain ⟨_, _, _, _, _, _, h⟩ := s.route_shape; rw [h]
@[simp] theorem State.route_tim : s.route.tim = s.tim := by
  obtain ⟨_, _, _, _, _, _, h⟩ := s.route_shape; rw [h]
@[simp] theorem State.route_web : s.route.web = s.web := by
  obtain ⟨_, _, _, _, _, _, h⟩ := s.route_shape; rw [h]
@[simp] theorem State.route_sched : s.route.sched = s.sched := by
  obtain ⟨_, _, _, _, _, _, h⟩ := s.route_shape; rw [h]
@[simp] theorem State.route_planes : s.route.planes = s.planes := by
  obtain ⟨_, _, _, _, _, _, h⟩ := s.route_shape; rw [h]
@[simp] theorem State.route_strips : s.route.strips = s.strips := by
  obtain ⟨_, _, _, _, _, _, h⟩ := s.route_shape; rw [h]
@[simp] theorem State.route_screen : s.route.screen = s.screen := by
  obtain ⟨_, _, _, _, _, _, h⟩ := s.route_shape; rw [h]
@[simp] theorem State.route_heads : s.route.heads = s.heads := by
  obtain ⟨_, _, _, _, _, _, h⟩ := s.route_shape; rw [h]
@[simp] theorem State.route_ports : s.route.ports = s.ports := by
  obtain ⟨_, _, _, _, _, _, h⟩ := s.route_shape; rw [h]
@[simp] theorem State.route_health : s.route.health = s.health := by
  obtain ⟨_, _, _, _, _, _, h⟩ := s.route_shape; rw [h]
@[simp] theorem State.route_meas : s.route.meas = s.meas := by
  obtain ⟨_, _, _, _, _, _, h⟩ := s.route_shape; rw [h]
@[simp] theorem State.route_cal : s.route.cal = s.cal := by
  obtain ⟨_, _, _, _, _, _, h⟩ := s.route_shape; rw [h]
@[simp] theorem State.route_cams : s.route.cams = s.cams := by
  obtain ⟨_, _, _, _, _, _, h⟩ := s.route_shape; rw [h]
@[simp] theorem State.route_ana : s.route.ana = s.ana := by
  obtain ⟨_, _, _, _, _, _, h⟩ := s.route_shape; rw [h]
@[simp] theorem State.route_dram : s.route.dram = s.dram := by
  obtain ⟨_, _, _, _, _, _, h⟩ := s.route_shape; rw [h]
@[simp] theorem State.route_comp : s.route.comp = s.comp := by
  obtain ⟨_, _, _, _, _, _, h⟩ := s.route_shape; rw [h]
@[simp] theorem State.route_groups : s.route.groups = s.groups := by
  obtain ⟨_, _, _, _, _, _, h⟩ := s.route_shape; rw [h]
@[simp] theorem State.route_pow : s.route.pow = s.pow := by
  obtain ⟨_, _, _, _, _, _, h⟩ := s.route_shape; rw [h]
@[simp] theorem State.route_rst : s.route.rst = s.rst := by
  obtain ⟨_, _, _, _, _, _, h⟩ := s.route_shape; rw [h]
@[simp] theorem State.route_flash : s.route.flash = s.flash := by
  obtain ⟨_, _, _, _, _, _, h⟩ := s.route_shape; rw [h]
@[simp] theorem State.route_sec : s.route.sec = s.sec := by
  obtain ⟨_, _, _, _, _, _, h⟩ := s.route_shape; rw [h]
@[simp] theorem State.route_dux : s.route.dux = s.dux := by
  obtain ⟨_, _, _, _, _, _, h⟩ := s.route_shape; rw [h]

/-- Routing leaves the sessions' keys, sequences and responses: it changes only `evLost` and `gap` of a context. -/
theorem State.route_span : ∃ m, s.route.span = { s.span with missed := m } := by
  obtain ⟨_, _, _, _, m, _, h⟩ := s.route_shape
  exact ⟨m, by rw [h]⟩

/-! ### Answers to accesses -/

/-- The objects that an answer to a session counts in: its messages, its port's frames, and the rings. -/
def notAnswer (s : State) (i k : Nat) : Prop :=
  k ≠ Obj.Session.txMessages i ∧ k ≠ Obj.HostPort.txFrames (s.nat (Obj.Session.port i)) ∧ notOccupancy k

theorem State.unring_shape (i q : Nat) : ∃ n d c, s.unring i q = { s with net := n, dict := d, chg := c } := by
  unfold State.unring
  refine foldl_keeps (fun t => ∃ n d c, t = { s with net := n, dict := d, chg := c }) _ ?_ _ _ ⟨_, _, _, rfl⟩
  rintro t r ⟨n, d, c, rfl⟩
  simp only
  split
  · exact ⟨_, _, _, rfl⟩
  · exact ⟨_, _, _, rfl⟩

theorem State.val_unring (i q : Nat) {k : Nat} (h : notOccupancy k) : (s.unring i q).val k = s.val k := by
  unfold State.unring
  have key : ∀ (l : List Nat), (∀ r ∈ l, r < 64) → ∀ t : State, t.val k = s.val k →
      (l.foldl (fun (s : State) (r : Nat) => let l := s.ring r
        if l.any (fun d => d.seq == q) then s.setRing r (l.filter (fun d => d.seq != q)) else s) t).val k = s.val k := by
    intro l
    induction l with
    | nil => intro _ t ht; exact ht
    | cons r l ih =>
      intro hl t ht
      refine ih (fun x hx => hl x (by simp [hx])) _ ?_
      simp only
      split
      · rw [State.val_setRing _ _ (h r (hl r (by simp))), ht]
      · exact ht
  exact key _ (fun r hr => s.mem_ringsOf hr) s rfl

theorem State.dictWf_unring {s : State} (i q : Nat) (h : s.dictWf = true) : (s.unring i q).dictWf = true := by
  unfold State.unring
  refine foldl_keeps (fun t => t.dictWf = true) _ ?_ _ _ h
  intro t r ht
  simp only
  split
  · exact State.dictWf_setRing _ _ ht
  · exact ht


@[simp] theorem State.unring_pending (i q : Nat) : (s.unring i q).pending = s.pending := by
  obtain ⟨_, _, _, h⟩ := s.unring_shape i q; rw [h]
@[simp] theorem State.unring_now (i q : Nat) : (s.unring i q).now = s.now := by
  obtain ⟨_, _, _, h⟩ := s.unring_shape i q; rw [h]
@[simp] theorem State.unring_ident (i q : Nat) : (s.unring i q).ident = s.ident := by
  obtain ⟨_, _, _, h⟩ := s.unring_shape i q; rw [h]
@[simp] theorem State.unring_out (i q : Nat) : (s.unring i q).out = s.out := by
  obtain ⟨_, _, _, h⟩ := s.unring_shape i q; rw [h]
@[simp] theorem State.unring_free (i q : Nat) : (s.unring i q).free = s.free := by
  obtain ⟨_, _, _, h⟩ := s.unring_shape i q; rw [h]
@[simp] theorem State.unring_flt (i q : Nat) : (s.unring i q).flt = s.flt := by
  obtain ⟨_, _, _, h⟩ := s.unring_shape i q; rw [h]
@[simp] theorem State.unring_hostEv (i q : Nat) : (s.unring i q).hostEv = s.hostEv := by
  obtain ⟨_, _, _, h⟩ := s.unring_shape i q; rw [h]
@[simp] theorem State.unring_fieldEv (i q : Nat) : (s.unring i q).fieldEv = s.fieldEv := by
  obtain ⟨_, _, _, h⟩ := s.unring_shape i q; rw [h]
@[simp] theorem State.unring_tim (i q : Nat) : (s.unring i q).tim = s.tim := by
  obtain ⟨_, _, _, h⟩ := s.unring_shape i q; rw [h]
@[simp] theorem State.unring_web (i q : Nat) : (s.unring i q).web = s.web := by
  obtain ⟨_, _, _, h⟩ := s.unring_shape i q; rw [h]
@[simp] theorem State.unring_sched (i q : Nat) : (s.unring i q).sched = s.sched := by
  obtain ⟨_, _, _, h⟩ := s.unring_shape i q; rw [h]
@[simp] theorem State.unring_planes (i q : Nat) : (s.unring i q).planes = s.planes := by
  obtain ⟨_, _, _, h⟩ := s.unring_shape i q; rw [h]
@[simp] theorem State.unring_strips (i q : Nat) : (s.unring i q).strips = s.strips := by
  obtain ⟨_, _, _, h⟩ := s.unring_shape i q; rw [h]
@[simp] theorem State.unring_screen (i q : Nat) : (s.unring i q).screen = s.screen := by
  obtain ⟨_, _, _, h⟩ := s.unring_shape i q; rw [h]
@[simp] theorem State.unring_heads (i q : Nat) : (s.unring i q).heads = s.heads := by
  obtain ⟨_, _, _, h⟩ := s.unring_shape i q; rw [h]
@[simp] theorem State.unring_ports (i q : Nat) : (s.unring i q).ports = s.ports := by
  obtain ⟨_, _, _, h⟩ := s.unring_shape i q; rw [h]
@[simp] theorem State.unring_health (i q : Nat) : (s.unring i q).health = s.health := by
  obtain ⟨_, _, _, h⟩ := s.unring_shape i q; rw [h]
@[simp] theorem State.unring_meas (i q : Nat) : (s.unring i q).meas = s.meas := by
  obtain ⟨_, _, _, h⟩ := s.unring_shape i q; rw [h]
@[simp] theorem State.unring_cal (i q : Nat) : (s.unring i q).cal = s.cal := by
  obtain ⟨_, _, _, h⟩ := s.unring_shape i q; rw [h]
@[simp] theorem State.unring_cams (i q : Nat) : (s.unring i q).cams = s.cams := by
  obtain ⟨_, _, _, h⟩ := s.unring_shape i q; rw [h]
@[simp] theorem State.unring_ana (i q : Nat) : (s.unring i q).ana = s.ana := by
  obtain ⟨_, _, _, h⟩ := s.unring_shape i q; rw [h]
@[simp] theorem State.unring_dram (i q : Nat) : (s.unring i q).dram = s.dram := by
  obtain ⟨_, _, _, h⟩ := s.unring_shape i q; rw [h]
@[simp] theorem State.unring_comp (i q : Nat) : (s.unring i q).comp = s.comp := by
  obtain ⟨_, _, _, h⟩ := s.unring_shape i q; rw [h]
@[simp] theorem State.unring_groups (i q : Nat) : (s.unring i q).groups = s.groups := by
  obtain ⟨_, _, _, h⟩ := s.unring_shape i q; rw [h]
@[simp] theorem State.unring_span (i q : Nat) : (s.unring i q).span = s.span := by
  obtain ⟨_, _, _, h⟩ := s.unring_shape i q; rw [h]
@[simp] theorem State.unring_pack (i q : Nat) : (s.unring i q).pack = s.pack := by
  obtain ⟨_, _, _, h⟩ := s.unring_shape i q; rw [h]
@[simp] theorem State.unring_pow (i q : Nat) : (s.unring i q).pow = s.pow := by
  obtain ⟨_, _, _, h⟩ := s.unring_shape i q; rw [h]
@[simp] theorem State.unring_rst (i q : Nat) : (s.unring i q).rst = s.rst := by
  obtain ⟨_, _, _, h⟩ := s.unring_shape i q; rw [h]
@[simp] theorem State.unring_flash (i q : Nat) : (s.unring i q).flash = s.flash := by
  obtain ⟨_, _, _, h⟩ := s.unring_shape i q; rw [h]
@[simp] theorem State.unring_sec (i q : Nat) : (s.unring i q).sec = s.sec := by
  obtain ⟨_, _, _, h⟩ := s.unring_shape i q; rw [h]
@[simp] theorem State.unring_dux (i q : Nat) : (s.unring i q).dux = s.dux := by
  obtain ⟨_, _, _, h⟩ := s.unring_shape i q; rw [h]

/-- `t` differs from `s` in the emissions, the sessions and rings, and the objects alone. -/
def netOnly (s t : State) : Prop := ∃ o n d c, t = { s with out := o, net := n, dict := d, chg := c }

theorem netOnly.trans {s t u : State} (h : netOnly s t) (h' : netOnly t u) : netOnly s u := by
  obtain ⟨_, _, _, _, rfl⟩ := h
  obtain ⟨o, n, d, c, rfl⟩ := h'
  exact ⟨o, n, d, c, rfl⟩

theorem netOnly_emit (e : Emit) : netOnly s (s.emit e) := ⟨_, _, _, _, rfl⟩
theorem netOnly_setVal (k : Nat) (v : Val) : netOnly s (s.setVal k v) := ⟨_, _, _, _, rfl⟩
theorem netOnly_setSess (i : Nat) (x : Sess) : netOnly s (s.setSess i x) := ⟨_, _, _, _, rfl⟩

theorem netOnly_sendMsg (i typ flags : Nat) (b : Bytes) : netOnly s (s.sendMsg i typ b flags) := by
  simp only [State.sendMsg, State.sendWire, State.sendFrames, State.bump_eq]
  exact (((netOnly_setSess s _ _).trans (netOnly_setVal _ _ _)).trans (netOnly_setVal _ _ _)).trans
    ((netOnly_emit _ _).trans (netOnly_emit _ _))

/-- A response changes nothing else. -/
theorem State.respond_shape (i q typ st ab : Nat) (b : Bytes) : netOnly s (s.respond i q typ st ab b) :=
  (netOnly_setSess s _ _).trans (netOnly_sendMsg _ _ _ _ _)

@[simp] theorem State.respond_pending (i q typ st ab : Nat) (b : Bytes) : (s.respond i q typ st ab b).pending = s.pending := by
  obtain ⟨_, _, _, _, h⟩ := s.respond_shape i q typ st ab b; rw [h]
@[simp] theorem State.respond_now (i q typ st ab : Nat) (b : Bytes) : (s.respond i q typ st ab b).now = s.now := by
  obtain ⟨_, _, _, _, h⟩ := s.respond_shape i q typ st ab b; rw [h]
@[simp] theorem State.respond_ident (i q typ st ab : Nat) (b : Bytes) : (s.respond i q typ st ab b).ident = s.ident := by
  obtain ⟨_, _, _, _, h⟩ := s.respond_shape i q typ st ab b; rw [h]
@[simp] theorem State.respond_free (i q typ st ab : Nat) (b : Bytes) : (s.respond i q typ st ab b).free = s.free := by
  obtain ⟨_, _, _, _, h⟩ := s.respond_shape i q typ st ab b; rw [h]
@[simp] theorem State.respond_flt (i q typ st ab : Nat) (b : Bytes) : (s.respond i q typ st ab b).flt = s.flt := by
  obtain ⟨_, _, _, _, h⟩ := s.respond_shape i q typ st ab b; rw [h]
@[simp] theorem State.respond_hostEv (i q typ st ab : Nat) (b : Bytes) : (s.respond i q typ st ab b).hostEv = s.hostEv := by
  obtain ⟨_, _, _, _, h⟩ := s.respond_shape i q typ st ab b; rw [h]
@[simp] theorem State.respond_fieldEv (i q typ st ab : Nat) (b : Bytes) : (s.respond i q typ st ab b).fieldEv = s.fieldEv := by
  obtain ⟨_, _, _, _, h⟩ := s.respond_shape i q typ st ab b; rw [h]
@[simp] theorem State.respond_tim (i q typ st ab : Nat) (b : Bytes) : (s.respond i q typ st ab b).tim = s.tim := by
  obtain ⟨_, _, _, _, h⟩ := s.respond_shape i q typ st ab b; rw [h]
@[simp] theorem State.respond_web (i q typ st ab : Nat) (b : Bytes) : (s.respond i q typ st ab b).web = s.web := by
  obtain ⟨_, _, _, _, h⟩ := s.respond_shape i q typ st ab b; rw [h]
@[simp] theorem State.respond_sched (i q typ st ab : Nat) (b : Bytes) : (s.respond i q typ st ab b).sched = s.sched := by
  obtain ⟨_, _, _, _, h⟩ := s.respond_shape i q typ st ab b; rw [h]
@[simp] theorem State.respond_planes (i q typ st ab : Nat) (b : Bytes) : (s.respond i q typ st ab b).planes = s.planes := by
  obtain ⟨_, _, _, _, h⟩ := s.respond_shape i q typ st ab b; rw [h]
@[simp] theorem State.respond_strips (i q typ st ab : Nat) (b : Bytes) : (s.respond i q typ st ab b).strips = s.strips := by
  obtain ⟨_, _, _, _, h⟩ := s.respond_shape i q typ st ab b; rw [h]
@[simp] theorem State.respond_screen (i q typ st ab : Nat) (b : Bytes) : (s.respond i q typ st ab b).screen = s.screen := by
  obtain ⟨_, _, _, _, h⟩ := s.respond_shape i q typ st ab b; rw [h]
@[simp] theorem State.respond_heads (i q typ st ab : Nat) (b : Bytes) : (s.respond i q typ st ab b).heads = s.heads := by
  obtain ⟨_, _, _, _, h⟩ := s.respond_shape i q typ st ab b; rw [h]
@[simp] theorem State.respond_ports (i q typ st ab : Nat) (b : Bytes) : (s.respond i q typ st ab b).ports = s.ports := by
  obtain ⟨_, _, _, _, h⟩ := s.respond_shape i q typ st ab b; rw [h]
@[simp] theorem State.respond_health (i q typ st ab : Nat) (b : Bytes) : (s.respond i q typ st ab b).health = s.health := by
  obtain ⟨_, _, _, _, h⟩ := s.respond_shape i q typ st ab b; rw [h]
@[simp] theorem State.respond_meas (i q typ st ab : Nat) (b : Bytes) : (s.respond i q typ st ab b).meas = s.meas := by
  obtain ⟨_, _, _, _, h⟩ := s.respond_shape i q typ st ab b; rw [h]
@[simp] theorem State.respond_cal (i q typ st ab : Nat) (b : Bytes) : (s.respond i q typ st ab b).cal = s.cal := by
  obtain ⟨_, _, _, _, h⟩ := s.respond_shape i q typ st ab b; rw [h]
@[simp] theorem State.respond_cams (i q typ st ab : Nat) (b : Bytes) : (s.respond i q typ st ab b).cams = s.cams := by
  obtain ⟨_, _, _, _, h⟩ := s.respond_shape i q typ st ab b; rw [h]
@[simp] theorem State.respond_ana (i q typ st ab : Nat) (b : Bytes) : (s.respond i q typ st ab b).ana = s.ana := by
  obtain ⟨_, _, _, _, h⟩ := s.respond_shape i q typ st ab b; rw [h]
@[simp] theorem State.respond_dram (i q typ st ab : Nat) (b : Bytes) : (s.respond i q typ st ab b).dram = s.dram := by
  obtain ⟨_, _, _, _, h⟩ := s.respond_shape i q typ st ab b; rw [h]
@[simp] theorem State.respond_comp (i q typ st ab : Nat) (b : Bytes) : (s.respond i q typ st ab b).comp = s.comp := by
  obtain ⟨_, _, _, _, h⟩ := s.respond_shape i q typ st ab b; rw [h]
@[simp] theorem State.respond_groups (i q typ st ab : Nat) (b : Bytes) : (s.respond i q typ st ab b).groups = s.groups := by
  obtain ⟨_, _, _, _, h⟩ := s.respond_shape i q typ st ab b; rw [h]
@[simp] theorem State.respond_span (i q typ st ab : Nat) (b : Bytes) : (s.respond i q typ st ab b).span = s.span := by
  obtain ⟨_, _, _, _, h⟩ := s.respond_shape i q typ st ab b; rw [h]
@[simp] theorem State.respond_pack (i q typ st ab : Nat) (b : Bytes) : (s.respond i q typ st ab b).pack = s.pack := by
  obtain ⟨_, _, _, _, h⟩ := s.respond_shape i q typ st ab b; rw [h]
@[simp] theorem State.respond_pow (i q typ st ab : Nat) (b : Bytes) : (s.respond i q typ st ab b).pow = s.pow := by
  obtain ⟨_, _, _, _, h⟩ := s.respond_shape i q typ st ab b; rw [h]
@[simp] theorem State.respond_rst (i q typ st ab : Nat) (b : Bytes) : (s.respond i q typ st ab b).rst = s.rst := by
  obtain ⟨_, _, _, _, h⟩ := s.respond_shape i q typ st ab b; rw [h]
@[simp] theorem State.respond_flash (i q typ st ab : Nat) (b : Bytes) : (s.respond i q typ st ab b).flash = s.flash := by
  obtain ⟨_, _, _, _, h⟩ := s.respond_shape i q typ st ab b; rw [h]
@[simp] theorem State.respond_sec (i q typ st ab : Nat) (b : Bytes) : (s.respond i q typ st ab b).sec = s.sec := by
  obtain ⟨_, _, _, _, h⟩ := s.respond_shape i q typ st ab b; rw [h]
@[simp] theorem State.respond_dux (i q typ st ab : Nat) (b : Bytes) : (s.respond i q typ st ab b).dux = s.dux := by
  obtain ⟨_, _, _, _, h⟩ := s.respond_shape i q typ st ab b; rw [h]

/-- A response leaves as datagrams on a port, and as the message they carry. -/
theorem State.respond_out (i q typ st ab : Nat) (b : Bytes) :
    ∃ port peer parts, (s.respond i q typ st ab b).out = s.out ++ [.wire port peer parts, .message i typ (respPrefix q st ab ++ b)] := by
  exact ⟨_, _, _, by simp only [State.respond, State.sendMsg, State.sendWire, State.sendFrames, State.emit, State.bump_eq, State.setVal_out, State.setSess_out, List.append_assoc]; rfl⟩

theorem State.val_respond (i q typ st ab : Nat) (b : Bytes) {k : Nat} (h1 : k ≠ Obj.Session.txMessages i)
    (h2 : k ≠ Obj.HostPort.txFrames (s.nat (Obj.Session.port i))) : (s.respond i q typ st ab b).val k = s.val k := by
  simp only [State.respond, State.sendMsg, State.sendWire, State.sendFrames, State.val_emit, State.bump_eq]
  rw [State.val_setVal_ne _ _ (by
    rw [State.nat_congr (State.val_setVal_ne _ _ (by simp only [Obj.Session.port, Obj.Session.txMessages]; omega))]
    simpa only [State.nat_setSess] using h2), State.val_setVal_ne _ _ h1]
  simp only [State.val_setSess]

theorem State.dictWf_respond {s : State} (i q typ st ab : Nat) (b : Bytes) (h : s.dictWf = true) : (s.respond i q typ st ab b).dictWf = true := by
  simp only [State.respond, State.sendMsg, State.sendWire, State.sendFrames, State.bump_eq]
  refine State.dictWf_congr (State.emit_dict _ _) (State.dictWf_congr (State.emit_dict _ _)
    (State.dictWf_setVal _ _ (State.dictWf_setVal _ _ (State.dictWf_congr (s := s) ?_ h))))
  simp only [State.setSess_dict]


@[simp] theorem State.answer_pending (i ab : Nat) (b : Bytes) : (s.answer i ab b).pending = s.pending := by
  unfold State.answer; split
  · rfl
  · simp only
    repeat' split
    all_goals simp
@[simp] theorem State.answer_now (i ab : Nat) (b : Bytes) : (s.answer i ab b).now = s.now := by
  unfold State.answer; split
  · rfl
  · simp only
    repeat' split
    all_goals simp
@[simp] theorem State.answer_ident (i ab : Nat) (b : Bytes) : (s.answer i ab b).ident = s.ident := by
  unfold State.answer; split
  · rfl
  · simp only
    repeat' split
    all_goals simp
@[simp] theorem State.answer_free (i ab : Nat) (b : Bytes) : (s.answer i ab b).free = s.free := by
  unfold State.answer; split
  · rfl
  · simp only
    repeat' split
    all_goals simp
@[simp] theorem State.answer_flt (i ab : Nat) (b : Bytes) : (s.answer i ab b).flt = s.flt := by
  unfold State.answer; split
  · rfl
  · simp only
    repeat' split
    all_goals simp
@[simp] theorem State.answer_hostEv (i ab : Nat) (b : Bytes) : (s.answer i ab b).hostEv = s.hostEv := by
  unfold State.answer; split
  · rfl
  · simp only
    repeat' split
    all_goals simp
@[simp] theorem State.answer_fieldEv (i ab : Nat) (b : Bytes) : (s.answer i ab b).fieldEv = s.fieldEv := by
  unfold State.answer; split
  · rfl
  · simp only
    repeat' split
    all_goals simp
@[simp] theorem State.answer_tim (i ab : Nat) (b : Bytes) : (s.answer i ab b).tim = s.tim := by
  unfold State.answer; split
  · rfl
  · simp only
    repeat' split
    all_goals simp
@[simp] theorem State.answer_web (i ab : Nat) (b : Bytes) : (s.answer i ab b).web = s.web := by
  unfold State.answer; split
  · rfl
  · simp only
    repeat' split
    all_goals simp
@[simp] theorem State.answer_sched (i ab : Nat) (b : Bytes) : (s.answer i ab b).sched = s.sched := by
  unfold State.answer; split
  · rfl
  · simp only
    repeat' split
    all_goals simp
@[simp] theorem State.answer_planes (i ab : Nat) (b : Bytes) : (s.answer i ab b).planes = s.planes := by
  unfold State.answer; split
  · rfl
  · simp only
    repeat' split
    all_goals simp
@[simp] theorem State.answer_strips (i ab : Nat) (b : Bytes) : (s.answer i ab b).strips = s.strips := by
  unfold State.answer; split
  · rfl
  · simp only
    repeat' split
    all_goals simp
@[simp] theorem State.answer_screen (i ab : Nat) (b : Bytes) : (s.answer i ab b).screen = s.screen := by
  unfold State.answer; split
  · rfl
  · simp only
    repeat' split
    all_goals simp
@[simp] theorem State.answer_heads (i ab : Nat) (b : Bytes) : (s.answer i ab b).heads = s.heads := by
  unfold State.answer; split
  · rfl
  · simp only
    repeat' split
    all_goals simp
@[simp] theorem State.answer_ports (i ab : Nat) (b : Bytes) : (s.answer i ab b).ports = s.ports := by
  unfold State.answer; split
  · rfl
  · simp only
    repeat' split
    all_goals simp
@[simp] theorem State.answer_health (i ab : Nat) (b : Bytes) : (s.answer i ab b).health = s.health := by
  unfold State.answer; split
  · rfl
  · simp only
    repeat' split
    all_goals simp
@[simp] theorem State.answer_meas (i ab : Nat) (b : Bytes) : (s.answer i ab b).meas = s.meas := by
  unfold State.answer; split
  · rfl
  · simp only
    repeat' split
    all_goals simp
@[simp] theorem State.answer_cal (i ab : Nat) (b : Bytes) : (s.answer i ab b).cal = s.cal := by
  unfold State.answer; split
  · rfl
  · simp only
    repeat' split
    all_goals simp
@[simp] theorem State.answer_cams (i ab : Nat) (b : Bytes) : (s.answer i ab b).cams = s.cams := by
  unfold State.answer; split
  · rfl
  · simp only
    repeat' split
    all_goals simp
@[simp] theorem State.answer_ana (i ab : Nat) (b : Bytes) : (s.answer i ab b).ana = s.ana := by
  unfold State.answer; split
  · rfl
  · simp only
    repeat' split
    all_goals simp
@[simp] theorem State.answer_dram (i ab : Nat) (b : Bytes) : (s.answer i ab b).dram = s.dram := by
  unfold State.answer; split
  · rfl
  · simp only
    repeat' split
    all_goals simp
@[simp] theorem State.answer_comp (i ab : Nat) (b : Bytes) : (s.answer i ab b).comp = s.comp := by
  unfold State.answer; split
  · rfl
  · simp only
    repeat' split
    all_goals simp
@[simp] theorem State.answer_groups (i ab : Nat) (b : Bytes) : (s.answer i ab b).groups = s.groups := by
  unfold State.answer; split
  · rfl
  · simp only
    repeat' split
    all_goals simp
@[simp] theorem State.answer_span (i ab : Nat) (b : Bytes) : (s.answer i ab b).span = s.span := by
  unfold State.answer; split
  · rfl
  · simp only
    repeat' split
    all_goals simp
@[simp] theorem State.answer_pack (i ab : Nat) (b : Bytes) : (s.answer i ab b).pack = s.pack := by
  unfold State.answer; split
  · rfl
  · simp only
    repeat' split
    all_goals simp
@[simp] theorem State.answer_pow (i ab : Nat) (b : Bytes) : (s.answer i ab b).pow = s.pow := by
  unfold State.answer; split
  · rfl
  · simp only
    repeat' split
    all_goals simp
@[simp] theorem State.answer_rst (i ab : Nat) (b : Bytes) : (s.answer i ab b).rst = s.rst := by
  unfold State.answer; split
  · rfl
  · simp only
    repeat' split
    all_goals simp
@[simp] theorem State.answer_flash (i ab : Nat) (b : Bytes) : (s.answer i ab b).flash = s.flash := by
  unfold State.answer; split
  · rfl
  · simp only
    repeat' split
    all_goals simp
@[simp] theorem State.answer_sec (i ab : Nat) (b : Bytes) : (s.answer i ab b).sec = s.sec := by
  unfold State.answer; split
  · rfl
  · simp only
    repeat' split
    all_goals simp
@[simp] theorem State.answer_dux (i ab : Nat) (b : Bytes) : (s.answer i ab b).dux = s.dux := by
  unfold State.answer; split
  · rfl
  · simp only
    repeat' split
    all_goals simp

/-- An answer adds to the emissions. -/
theorem State.answer_out (i ab : Nat) (b : Bytes) : ∃ o, (s.answer i ab b).out = s.out ++ o := by
  unfold State.answer
  split
  · exact ⟨[], by simp⟩
  · simp only
    split
    · split
      · split
        all_goals
          obtain ⟨_, _, _, h⟩ := State.respond_out (s := _) (i := i) (q := _) (typ := _) (st := 0) (ab := ab) (b := b)
          exact ⟨_, by rw [h]; simp; rfl⟩
      · exact ⟨_, rfl⟩
    · exact ⟨_, rfl⟩

/-- An answer writes no object but the counters of `notAnswer`. -/
theorem State.val_answer (i ab : Nat) (b : Bytes) {k : Nat} (h : notAnswer s i k) : (s.answer i ab b).val k = s.val k := by
  obtain ⟨h1, h2, h3⟩ := h
  have hp : ∀ q, (State.unring s i q).nat (Obj.Session.port i) = s.nat (Obj.Session.port i) := fun q =>
    State.nat_congr (s.val_unring i q (fun r _ => by simp [Obj.Session.port, Obj.Ring.occupancy]; omega))
  unfold State.answer
  split
  · rfl
  · simp only
    split
    · next m r _ =>
      split
      · split
        · have hu : ∀ x q, (((s.emit (.reply i ab b)).setSess i x).unring i q).nat (Obj.Session.port i) = s.nat (Obj.Session.port i) := by
            intro x q
            rw [State.nat_congr (State.val_unring _ i q (fun r _ => by simp [Obj.Session.port, Obj.Ring.occupancy]; omega))]
            simp
          rw [State.val_respond _ _ _ _ _ _ _ h1 (by rw [hu]; exact h2), State.val_unring _ _ _ h3]
          simp
        · rw [State.val_respond _ _ _ _ _ _ _ h1 (by simpa using h2)]
          simp
      · simp
    · simp

theorem State.dictWf_answer {s : State} (i ab : Nat) (b : Bytes) (h : s.dictWf = true) : (s.answer i ab b).dictWf = true := by
  unfold State.answer
  split
  · exact h
  · simp only
    split
    · split
      · split
        · exact State.dictWf_respond _ _ _ _ _ _ (State.dictWf_unring _ _ h)
        · exact State.dictWf_respond _ _ _ _ _ _ h
      · exact h
    · exact h

/-- An answer emits the reply to its session or to the JTAG path. -/
theorem State.answer_mem (i ab : Nat) (b : Bytes) (h : i ≤ 256) : .reply i ab b ∈ (s.answer i ab b).out := by
  unfold State.answer
  rw [if_neg (by omega)]
  simp only
  split
  · split
    · split
      all_goals
        obtain ⟨_, _, _, h⟩ := State.respond_out (s := _) (i := i) (q := _) (typ := _) (st := 0) (ab := ab) (b := b)
        rw [h]; simp
    · simp
  · simp

/-- What was emitted before an answer stays emitted. -/
theorem State.answer_keeps (i ab : Nat) (b : Bytes) {e : Emit} (h : e ∈ s.out) : e ∈ (s.answer i ab b).out := by
  obtain ⟨_, h'⟩ := s.answer_out i ab b
  rw [h']; simp [h]

end Sys2Proof.Machine
end

