-- ==== Sys2Proof/Laws/Cmd.lean ====
section
/-! SUPPORT. What a command's frame does (log entry 1), and the shared forms of an access (R333, R431). -/

namespace Sys2Proof.Machine

variable (u s : State) (t : Nat)

/-! ### The end of a command -/

@[simp] theorem State.finish_pending : (u.finish s t).pending = s.pending := rfl
@[simp] theorem State.finish_ident : (u.finish s t).ident = s.ident := rfl
@[simp] theorem State.finish_now : (u.finish s t).now = max s.now t := rfl
@[simp] theorem State.finish_hostEv : (u.finish s t).hostEv = [] := u.route_hostEv
@[simp] theorem State.finish_fieldEv : (u.finish s t).fieldEv = [] := u.route_fieldEv
@[simp] theorem State.finish_free : (u.finish s t).free = u.free := u.route_free
@[simp] theorem State.finish_flt : (u.finish s t).flt = u.flt := u.route_flt
@[simp] theorem State.finish_tim : (u.finish s t).tim = u.tim := u.route_tim
@[simp] theorem State.finish_web : (u.finish s t).web = u.web := u.route_web
@[simp] theorem State.finish_sched : (u.finish s t).sched = u.sched := u.route_sched
@[simp] theorem State.finish_planes : (u.finish s t).planes = u.planes := u.route_planes
@[simp] theorem State.finish_strips : (u.finish s t).strips = u.strips := u.route_strips
@[simp] theorem State.finish_screen : (u.finish s t).screen = u.screen := u.route_screen
@[simp] theorem State.finish_heads : (u.finish s t).heads = u.heads := u.route_heads
@[simp] theorem State.finish_ports : (u.finish s t).ports = u.ports := u.route_ports
@[simp] theorem State.finish_health : (u.finish s t).health = u.health := u.route_health
@[simp] theorem State.finish_meas : (u.finish s t).meas = u.meas := u.route_meas
@[simp] theorem State.finish_cal : (u.finish s t).cal = u.cal := u.route_cal
@[simp] theorem State.finish_cams : (u.finish s t).cams = u.cams := u.route_cams
@[simp] theorem State.finish_ana : (u.finish s t).ana = u.ana := u.route_ana
@[simp] theorem State.finish_dram : (u.finish s t).dram = u.dram := u.route_dram
@[simp] theorem State.finish_comp : (u.finish s t).comp = u.comp := u.route_comp
@[simp] theorem State.finish_groups : (u.finish s t).groups = u.groups := u.route_groups
@[simp] theorem State.finish_pow : (u.finish s t).pow = u.pow := u.route_pow
@[simp] theorem State.finish_rst : (u.finish s t).rst = u.rst := u.route_rst
@[simp] theorem State.finish_flash : (u.finish s t).flash = u.flash := u.route_flash
@[simp] theorem State.finish_sec : (u.finish s t).sec = u.sec := u.route_sec
@[simp] theorem State.finish_dux : (u.finish s t).dux = u.dux := u.route_dux

/-- The emissions of a command leave with it. -/
theorem State.finish_out {e : Emit} (h : e ∈ u.out) : e ∈ (u.finish s t).out := u.route_keeps h

/-- Of the Span, the end of a command notes only that a field event was missed. -/
theorem State.finish_span : ∃ m, (u.finish s t).span = { u.span with missed := m } := u.route_span

theorem notOccupancy_of {k : Nat} (h : k % 256 ≠ 8 ∨ k < 0x138000 ∨ 0x13C000 ≤ k) : notOccupancy k := by
  intro r hr; unfold Obj.Ring.occupancy; omega

/-- The end of a command writes no object but a ring's `Occupancy`. -/
theorem State.val_finish {k : Nat} (h : notOccupancy k) : (u.finish s t).val k = u.val k := u.val_route h
theorem State.num_finish {k : Nat} (h : notOccupancy k) : (u.finish s t).num k = u.num k := State.num_congr (u.val_finish s t h)
theorem State.nat_finish {k : Nat} (h : notOccupancy k) : (u.finish s t).nat k = u.nat k := State.nat_congr (u.val_finish s t h)
theorem State.flag_finish {k : Nat} (h : notOccupancy k) : (u.finish s t).flag k = u.flag k := State.flag_congr (u.val_finish s t h)
theorem State.byt_finish {k : Nat} (h : notOccupancy k) : (u.finish s t).byt k = u.byt k := State.byt_congr (u.val_finish s t h)

theorem State.dictWf_finish {u s : State} {t : Nat} (h : u.dictWf = true) : (u.finish s t).dictWf = true := State.dictWf_route h

/-! ### The shared forms of a command -/

/-- A command whose effect keeps the dictionary's form keeps it. -/
theorem dictWf_cmd {s u : State} {t : Nat} {f : State → State} (hf : ∀ s, s.dictWf = true → (f s).dictWf = true)
    (hs : s.dictWf = true) (h : cmd t s f = .next u) : u.dictWf = true := by
  cases h
  exact State.dictWf_finish (hf _ hs)

/-- A host command acts while its island is out of reset. -/
theorem hostCmd_run {s : State} (t : Nat) (f : State → State) (h : s.rst.host.active = false) : hostCmd t s f = cmd t s f := by
  simp [hostCmd, cmd, h]
/-- A field command acts while its island is out of reset. -/
theorem fieldCmd_run {s : State} (t : Nat) (f : State → State) (h : s.rst.field.active = false) : fieldCmd t s f = cmd t s f := by
  simp [fieldCmd, cmd, h]
/-- An access acts while host firmware runs. -/
theorem access_run {s : State} (t : Nat) (f : State → State) (h : s.hostUp = true) : access t s f = cmd t s f := by
  have : (s.tickTo t).hostUp = true := h
  simp [access, cmd, this]

/-- A host command in reset lets time pass. -/
theorem hostCmd_held {s : State} (t : Nat) (f : State → State) (h : s.rst.host.active = true) : hostCmd t s f = cmd t s id := by
  simp [hostCmd, cmd, h]
/-- A field command in reset lets time pass. -/
theorem fieldCmd_held {s : State} (t : Nat) (f : State → State) (h : s.rst.field.active = true) : fieldCmd t s f = cmd t s id := by
  simp [fieldCmd, cmd, h]
/-- An access without host firmware lets time pass. -/
theorem access_held {s : State} (t : Nat) (f : State → State) (h : s.hostUp = false) : access t s f = cmd t s id := by
  have : (s.tickTo t).hostUp = false := h
  simp [access, cmd, this]

/-! ### A write (R333) -/

/-- The checks of an access read objects and island states only. -/
theorem State.admit_tickTo (r : Role) (k : Nat) (w : Bool) : (s.tickTo t).permit r k w = s.permit r k w := rfl
theorem State.checkWrite_tickTo (r : Role) (k : Nat) (v : Bytes) : (s.tickTo t).checkWrite r k v = s.checkWrite r k v := rfl

/-- A write that a check refuses answers its abort, and nothing more. -/
theorem State.write_refused {a : Caller} {k : Nat} {v : Bytes} {f : Val → State → State × Nat} {c : Nat}
    (h : s.checkWrite a.role k v = .error c) : s.write a k v f = s.answer a.sess c := by
  simp [State.write, h]

/-- A write whose effect refuses answers that abort, and nothing more. -/
theorem State.write_aborted {a : Caller} {k : Nat} {v : Bytes} {f : Val → State → State × Nat} {x : Val} {w : State} {c : Nat}
    (h : s.checkWrite a.role k v = .ok x) (e : f x s = (w, c)) (h0 : c ≠ 0) (h1 : c ≠ answerLater) :
    s.write a k v f = s.answer a.sess c := by
  simp [State.write, h, e, h0, h1]

/-- A write that takes effect is journaled and answered. -/
theorem State.write_done {a : Caller} {k : Nat} {v : Bytes} {f : Val → State → State × Nat} {x : Val} {w : State}
    (h : s.checkWrite a.role k v = .ok x) (e : f x s = (w, 0)) : s.write a k v f = (w.journal k 0xFF v).answer a.sess 0 := by
  simp [State.write, h, e]

/-- Journaling writes the duplex unit alone. -/
theorem State.journal_shape (k g : Nat) (v : Bytes) : ∃ d, s.journal k g v = { s with dux := d } := by
  unfold State.journal
  simp only
  split
  · exact ⟨_, rfl⟩
  · exact ⟨s.dux, rfl⟩

@[simp] theorem State.journal_pending (k g : Nat) (v : Bytes) : (s.journal k g v).pending = s.pending := by
  obtain ⟨_, h⟩ := s.journal_shape k g v; rw [h]
@[simp] theorem State.journal_now (k g : Nat) (v : Bytes) : (s.journal k g v).now = s.now := by
  obtain ⟨_, h⟩ := s.journal_shape k g v; rw [h]
@[simp] theorem State.journal_ident (k g : Nat) (v : Bytes) : (s.journal k g v).ident = s.ident := by
  obtain ⟨_, h⟩ := s.journal_shape k g v; rw [h]
@[simp] theorem State.journal_dict (k g : Nat) (v : Bytes) : (s.journal k g v).dict = s.dict := by
  obtain ⟨_, h⟩ := s.journal_shape k g v; rw [h]
@[simp] theorem State.journal_chg (k g : Nat) (v : Bytes) : (s.journal k g v).chg = s.chg := by
  obtain ⟨_, h⟩ := s.journal_shape k g v; rw [h]
@[simp] theorem State.journal_out (k g : Nat) (v : Bytes) : (s.journal k g v).out = s.out := by
  obtain ⟨_, h⟩ := s.journal_shape k g v; rw [h]
@[simp] theorem State.journal_free (k g : Nat) (v : Bytes) : (s.journal k g v).free = s.free := by
  obtain ⟨_, h⟩ := s.journal_shape k g v; rw [h]
@[simp] theorem State.journal_flt (k g : Nat) (v : Bytes) : (s.journal k g v).flt = s.flt := by
  obtain ⟨_, h⟩ := s.journal_shape k g v; rw [h]
@[simp] theorem State.journal_hostEv (k g : Nat) (v : Bytes) : (s.journal k g v).hostEv = s.hostEv := by
  obtain ⟨_, h⟩ := s.journal_shape k g v; rw [h]
@[simp] theorem State.journal_fieldEv (k g : Nat) (v : Bytes) : (s.journal k g v).fieldEv = s.fieldEv := by
  obtain ⟨_, h⟩ := s.journal_shape k g v; rw [h]
@[simp] theorem State.journal_tim (k g : Nat) (v : Bytes) : (s.journal k g v).tim = s.tim := by
  obtain ⟨_, h⟩ := s.journal_shape k g v; rw [h]
@[simp] theorem State.journal_web (k g : Nat) (v : Bytes) : (s.journal k g v).web = s.web := by
  obtain ⟨_, h⟩ := s.journal_shape k g v; rw [h]
@[simp] theorem State.journal_sched (k g : Nat) (v : Bytes) : (s.journal k g v).sched = s.sched := by
  obtain ⟨_, h⟩ := s.journal_shape k g v; rw [h]
@[simp] theorem State.journal_planes (k g : Nat) (v : Bytes) : (s.journal k g v).planes = s.planes := by
  obtain ⟨_, h⟩ := s.journal_shape k g v; rw [h]
@[simp] theorem State.journal_strips (k g : Nat) (v : Bytes) : (s.journal k g v).strips = s.strips := by
  obtain ⟨_, h⟩ := s.journal_shape k g v; rw [h]
@[simp] theorem State.journal_screen (k g : Nat) (v : Bytes) : (s.journal k g v).screen = s.screen := by
  obtain ⟨_, h⟩ := s.journal_shape k g v; rw [h]
@[simp] theorem State.journal_heads (k g : Nat) (v : Bytes) : (s.journal k g v).heads = s.heads := by
  obtain ⟨_, h⟩ := s.journal_shape k g v; rw [h]
@[simp] theorem State.journal_ports (k g : Nat) (v : Bytes) : (s.journal k g v).ports = s.ports := by
  obtain ⟨_, h⟩ := s.journal_shape k g v; rw [h]
@[simp] theorem State.journal_health (k g : Nat) (v : Bytes) : (s.journal k g v).health = s.health := by
  obtain ⟨_, h⟩ := s.journal_shape k g v; rw [h]
@[simp] theorem State.journal_meas (k g : Nat) (v : Bytes) : (s.journal k g v).meas = s.meas := by
  obtain ⟨_, h⟩ := s.journal_shape k g v; rw [h]
@[simp] theorem State.journal_cal (k g : Nat) (v : Bytes) : (s.journal k g v).cal = s.cal := by
  obtain ⟨_, h⟩ := s.journal_shape k g v; rw [h]
@[simp] theorem State.journal_cams (k g : Nat) (v : Bytes) : (s.journal k g v).cams = s.cams := by
  obtain ⟨_, h⟩ := s.journal_shape k g v; rw [h]
@[simp] theorem State.journal_ana (k g : Nat) (v : Bytes) : (s.journal k g v).ana = s.ana := by
  obtain ⟨_, h⟩ := s.journal_shape k g v; rw [h]
@[simp] theorem State.journal_dram (k g : Nat) (v : Bytes) : (s.journal k g v).dram = s.dram := by
  obtain ⟨_, h⟩ := s.journal_shape k g v; rw [h]
@[simp] theorem State.journal_comp (k g : Nat) (v : Bytes) : (s.journal k g v).comp = s.comp := by
  obtain ⟨_, h⟩ := s.journal_shape k g v; rw [h]
@[simp] theorem State.journal_groups (k g : Nat) (v : Bytes) : (s.journal k g v).groups = s.groups := by
  obtain ⟨_, h⟩ := s.journal_shape k g v; rw [h]
@[simp] theorem State.journal_net (k g : Nat) (v : Bytes) : (s.journal k g v).net = s.net := by
  obtain ⟨_, h⟩ := s.journal_shape k g v; rw [h]
@[simp] theorem State.journal_span (k g : Nat) (v : Bytes) : (s.journal k g v).span = s.span := by
  obtain ⟨_, h⟩ := s.journal_shape k g v; rw [h]
@[simp] theorem State.journal_pack (k g : Nat) (v : Bytes) : (s.journal k g v).pack = s.pack := by
  obtain ⟨_, h⟩ := s.journal_shape k g v; rw [h]
@[simp] theorem State.journal_pow (k g : Nat) (v : Bytes) : (s.journal k g v).pow = s.pow := by
  obtain ⟨_, h⟩ := s.journal_shape k g v; rw [h]
@[simp] theorem State.journal_rst (k g : Nat) (v : Bytes) : (s.journal k g v).rst = s.rst := by
  obtain ⟨_, h⟩ := s.journal_shape k g v; rw [h]
@[simp] theorem State.journal_flash (k g : Nat) (v : Bytes) : (s.journal k g v).flash = s.flash := by
  obtain ⟨_, h⟩ := s.journal_shape k g v; rw [h]
@[simp] theorem State.journal_sec (k g : Nat) (v : Bytes) : (s.journal k g v).sec = s.sec := by
  obtain ⟨_, h⟩ := s.journal_shape k g v; rw [h]

@[simp] theorem State.val_journal (k g : Nat) (v : Bytes) (key : Nat) : (s.journal k g v).val key = s.val key :=
  State.val_congr (s.journal_dict k g v) key
@[simp] theorem State.num_journal (k g : Nat) (v : Bytes) (key : Nat) : (s.journal k g v).num key = s.num key :=
  State.num_congr (s.val_journal k g v key)
@[simp] theorem State.nat_journal (k g : Nat) (v : Bytes) (key : Nat) : (s.journal k g v).nat key = s.nat key :=
  State.nat_congr (s.val_journal k g v key)

theorem State.dictWf_write {s : State} {a : Caller} {k : Nat} {v : Bytes} {f : Val → State → State × Nat}
    (hf : ∀ x, (f x s).1.dictWf = true) (hs : s.dictWf = true) : (s.write a k v f).dictWf = true := by
  unfold State.write
  split
  · exact State.dictWf_answer _ _ _ hs
  · next x _ =>
    simp only
    split
    · exact State.dictWf_answer _ _ _ (State.dictWf_congr (State.journal_dict _ _ _ _) (hf x))
    · split
      · exact hf x
      · exact State.dictWf_answer _ _ _ hs

end Sys2Proof.Machine
end

