-- ==== Sys2Proof/WellFormed.lean ====
section
/-! DEFINITION. Which commands are well-formed: every operand that names an instance, an index, a subindex or a type code lies
in the range that the spec gives its kind; an access carries a session context. What the part at hand lacks of these (R5) the
meanings check against the state. -/

namespace Sys2Proof

/-- A caller is one of the 256 session contexts (R372). -/
def Caller.wf (a : Caller) : Bool := decide (a.sess < 256)

/-- A receiver that its kind has. -/
def RxLane.wf : RxLane → Bool
  | .pier h => decide (h < 64)
  | .span c => decide (c < 12)
  | .stay l => decide (l < 2)

/-- The fields of a packet header at their widths (R239). -/
def PacketHeader.wf (h : PacketHeader) : Bool :=
  decide (h.vc < 4) && decide (h.vcx < 4) && decide (h.dt < 64) && decide (h.wordCount < 65536) && decide (h.ecc < 3)

/-- A command names only instances that its kind has (R5, R326). -/
def Instr.wf : Instr → Bool
  | .objectWrite _ a ix sub ty _ => a.wf && decide (ix < 65536) && decide (sub < 256) && decide (ty < 256)
  | .rwlWrite _ a ix sub ty _ => a.wf && decide (ix < 65536) && decide (sub < 256) && decide (ty < 256)
  | .encoderEdge _ e _ _ _ => decide (e < 2)
  | .standstill _ e => decide (e < 2)
  | .predictionLimit _ => true
  | .spsRequest _ => true
  | .spsWord _ _ _ => true
  | .spsWordTimeout _ => true
  | .controlCycle _ rep => rep.idles.all (fun x => x.lane.wf)
  | .counterPreset _ a e _ => a.wf && decide (e < 2)
  | .loadFromSps _ a _ => a.wf
  | .indexArm _ a e _ => a.wf && decide (e < 2)
  | .checkReset _ a _ => a.wf
  | .uncertainClear _ a _ => a.wf
  | .lineLoad _ a k _ => a.wf && decide (k < 4)
  | .primarySourceWrite _ a _ => a.wf
  | .scheduleInsert _ a _ => a.wf
  | .cancelTag _ a _ => a.wf
  | .cancelAll _ a _ => a.wf
  | .cameraTriggerCommit _ _ => true
  | .cameraTriggerPulse _ c => decide (c < 4)
  | .triggerPulseEnd _ c => decide (c < 4)
  | .planeEnable _ a k _ => a.wf && decide (k < 4)
  | .planeDisable _ a k _ => a.wf && decide (k < 4)
  | .checkPlane _ a _ => a.wf
  | .deposit _ _ => true
  | .depositAbort _ _ => true
  | .pageAppend _ a k _ => a.wf && decide (k < 4)
  | .pageAbortAtLine _ a k _ => a.wf && decide (k < 4)
  | .pageAbortNow _ a k _ => a.wf && decide (k < 4)
  | .flushJob _ a _ => a.wf
  | .flushOrphans _ a _ => a.wf
  | .pageQueueResume _ a k _ => a.wf && decide (k < 4)
  | .inflateDispatch _ => true
  | .inflateComplete _ e => decide (e < 16)
  | .inflateEngineReset _ a e _ => a.wf && decide (e < 16)
  | .inflateEngineFault _ e => decide (e < 16)
  | .screenLine _ k => decide (k < 4)
  | .nozzleWrite _ a _ => a.wf
  | .lineStat _ h _ => decide (h < 64)
  | .measureStat _ h _ => decide (h < 64)
  | .identityStat _ h _ => decide (h < 64)
  | .ownerStat _ h _ => decide (h < 64)
  | .linkStat _ h _ => decide (h < 64)
  | .controlBlockDiscard _ h _ => decide (h < 64)
  | .bringUpAttempt _ h => decide (h < 64)
  | .hrxLock _ h _ => decide (h < 64)
  | .bringUpStageTimeout _ h => decide (h < 64)
  | .retryInterval _ h => decide (h < 64)
  | .lossOfSignal _ h => decide (h < 64)
  | .lossOfLock _ h => decide (h < 64)
  | .statTimeout _ h => decide (h < 64)
  | .markDue _ h => decide (h < 64)
  | .pierReset _ a p _ => a.wf && decide (p < 16)
  | .pierOutOfService _ a p _ => a.wf && decide (p < 16)
  | .pierInService _ a p _ => a.wf && decide (p < 16)
  | .strobeCommit _ h => decide (h < 64)
  | .strobe _ h => decide (h < 64)
  | .strobeEnd _ h => decide (h < 64)
  | .frameWindowOpen _ h => decide (h < 64)
  | .frameSend _ h => decide (h < 64)
  | .frameDeadline _ h => decide (h < 64)
  | .lineWithheldResolved _ h => decide (h < 64)
  | .confirmationWindowEnd _ h => decide (h < 64)
  | .measureChunkStart _ h => decide (h < 64)
  | .sweepStart _ h => decide (h < 64)
  | .sweepNow _ a h _ => a.wf && decide (h < 64)
  | .probeHoldoff _ n => decide (n < 131072)
  | .pendingTimeout _ n => decide (n < 131072)
  | .defectConfirm _ a _ => a.wf
  | .defectRemove _ a _ => a.wf
  | .defectWrite _ a _ => a.wf
  | .frameStart _ c hdr fnum => decide (c < 4) && hdr.wf && decide (hdr.dt = 0) && decide (fnum = hdr.wordCount)
  | .imageLine _ c hdr _ _ => decide (c < 4) && hdr.wf
  | .packetDiscard _ c hdr => decide (c < 4) && hdr.wf
  | .frameEnd _ p => decide (p.port < 4) && p.hdr.wf && decide (p.hdr.dt = 1)
  | .frameTimeout _ c => decide (c < 4)
  | .triggerMissed _ c => decide (c < 4)
  | .frameProcess _ => true
  | .generationWrite _ a c _ => a.wf && decide (c < 4)
  | .generationRecord _ c _ _ _ => decide (c < 4)
  | .cameraEnable _ a c _ => a.wf && decide (c < 4)
  | .cameraDisable _ a c _ => a.wf && decide (c < 4)
  | .cameraReset _ a c _ => a.wf && decide (c < 4)
  | .inLineCamera _ a _ => a.wf
  | .windowClose _ k c => decide (k < 4) && decide (c < 4)
  | .planeMask _ a _ => a.wf
  | .refabDue _ u _ => decide (u < 16)
  | .owedRefresh _ u _ => decide (u < 16)
  | .tempPoll _ u _ => decide (u < 16)
  | .rowActivate _ u _ _ _ => decide (u < 16)
  | .correctedRead _ u _ => decide (u < 16)
  | .uncorrectableRead _ u _ _ => decide (u < 16)
  | .fullTraining _ _ _ => true
  | .dramRetrain _ u _ => decide (u < 16)
  | .dramRetrainDone _ u _ => decide (u < 16)
  | .compressionSubmit _ a ch _ => a.wf && decide (ch < 8)
  | .jobStart _ ch => decide (ch < 8)
  | .inputBlock _ ch _ => decide (ch < 8)
  | .compressionResume _ a _ => a.wf
  | .resumeTimeout _ ch => decide (ch < 8)
  | .compressionCancel _ a _ => a.wf
  | .channelReset _ a ch _ => a.wf && decide (ch < 8)
  | .stagingWrite _ a ix sub ty _ => a.wf && decide (ix < 65536) && decide (sub < 256) && decide (ty < 256)
  | .groupCommit _ a g _ => a.wf && decide (g < 16)
  | .groupDiscard _ a g _ => a.wf && decide (g < 16)
  | .bindingWrite _ a g _ => a.wf && decide (g < 16)
  | .domainWriteBlock _ a _ => a.wf
  | .domainReadBlock _ a _ => a.wf
  | .domainTransferTimeout _ sess ix sub => decide (sess < 256) && decide (ix < 65536) && decide (sub < 256)
  | .imageSave _ a _ => a.wf
  | .imageSaved _ _ => true
  | .imageInvalidate _ a _ => a.wf
  | .datagram _ port _ _ _ => decide (port < 5)
  | .reassemblyTimeout _ sess _ => decide (sess < 256)
  | .hello _ port _ _ => decide (port < 5)
  | .keyx _ sess _ _ => decide (sess < 256)
  | .openSession _ sess _ _ => decide (sess < 256)
  | .handshakeTimeout _ sess => decide (sess < 256)
  | .read _ a ix sub => a.wf && decide (ix < 65536) && decide (sub < 256)
  | .accessPassed _ sess => decide (sess < 256)
  | .strip _ sess _ _ => decide (sess < 256)
  | .ping _ sess _ _ => decide (sess < 256)
  | .heartbeat _ sess => decide (sess < 256)
  | .sessionTimeout _ sess => decide (sess < 256)
  | .close _ sess _ => decide (sess < 256)
  | .sessionClose _ a sess _ => a.wf && decide (sess < 256)
  | .ringReset _ a r _ => a.wf && decide (r < 64)
  | .descriptorLaunch _ r port => decide (r < 64) && decide (port < 5)
  | .hostLinkChange _ port _ _ _ => decide (port < 5)
  | .spanCell _ chan _ _ _ => decide (chan < 12)
  | .cellMissing _ _ _ => true
  | .dictReq _ _ => true
  | .time _ _ => true
  | .bootData _ _ => true
  | .bootCtrlVerify _ _ => true
  | .bootCtrlActivate _ _ => true
  | .bootCtrlAbort _ _ => true
  | .debugReq _ _ _ => true
  | .sessionNote _ _ => true
  | .streamCredit _ _ => true
  | .controlFieldReset _ _ => true
  | .controlPowerState _ _ => true
  | .controlCloseDebug _ _ => true
  | .controlLossTimeout _ _ => true
  | .dictResp _ _ => true
  | .depositAck _ _ => true
  | .event _ _ => true
  | .stream _ _ => true
  | .bootReq _ _ => true
  | .bootStatus _ _ => true
  | .debugResp _ _ => true
  | .fieldStatus _ _ => true
  | .timeEcho _ _ => true
  | .controlResp _ _ => true
  | .linkState _ _ _ => true
  | .linkTest _ _ _ _ => true
  | .spanPeriodicSend _ => true
  | .spanChannelLockLoss _ chan => decide (chan < 12)
  | .spanChannelRetest _ chan => decide (chan < 12)
  | .spanLostField _ => true
  | .spanLostHost _ => true
  | .incrementWrite _ a _ => a.wf
  | .offsetAdjust _ a _ => a.wf
  | .timeSet _ a _ => a.wf
  | .timeHoldover _ => true
  | .ptpEventMessage _ port _ => decide (port < 5)
  | .captureEvent _ u _ => decide (u < 8)
  | .captureRecordsRead _ a u => a.wf && decide (u < 8)
  | .ppsOut _ => true
  | .evtOut _ n => decide (n < 2)
  | .timeOutputEnd _ n => decide (n < 3)
  | .xtalWindow _ _ _ => true
  | .xtalFailed _ _ => true
  | .xtalLost _ _ => true
  | .domainSourceSwitch _ a d _ => a.wf && decide (d < 6)
  | .clockSwitchForced _ d => decide (d < 6)
  | .gateWrite _ a _ _ => a.wf
  | .gateForced _ _ _ sess => decide (sess < 256)
  | .meterStart _ a _ _ => a.wf
  | .meterDone _ _ _ => true
  | .opTarget _ a _ => a.wf
  | .avsStatus _ _ => true
  | .avsVoltagePoll _ _ => true
  | .dvfsPllLock _ => true
  | .settleTimeEnd _ => true
  | .dvfsStepTimeout _ => true
  | .powerRequestRun _ a _ => a.wf
  | .powerRequestHold _ a _ => a.wf
  | .powerRequestStandby _ a _ => a.wf
  | .powerRequestOff _ a _ => a.wf
  | .powerOnReset _ _ _ => true
  | .railDip _ _ _ => true
  | .resetPin _ _ _ => true
  | .islandWatchdog _ _ => true
  | .bootWatchdog _ => true
  | .thermalTrip _ _ => true
  | .warmReset _ a _ => a.wf
  | .hostIslandReset _ a _ => a.wf
  | .fieldIslandReset _ a _ => a.wf
  | .resetRelease _ _ => true
  | .hostBoot _ => true
  | .fieldBoot _ _ => true
  | .startComplete _ => true
  | .confirmStart _ a _ => a.wf
  | .recoveryExit _ a _ => a.wf
  | .blockIdleTimeout _ _ _ => true
  | .calRunNow _ a subj _ => a.wf && decide (subj < 8)
  | .laneAdaptation _ h _ => decide (h < 64)
  | .flatFieldTimeout _ c => decide (c < 4)
  | .calibrationOverdue _ subj _ => decide (subj < 8)
  | .roMeasure _ _ => true
  | .replanNow _ a _ _ => a.wf
  | .activationArm _ a _ => a.wf
  | .activationTimeout _ => true
  | .mirror _ _ => true
  | .relinquish _ _ => true
  | .status _ _ => true
  | .probe _ _ => true
  | .probeEcho _ _ => true
  | .stayLaneLockLoss _ l => decide (l < 8)
  | .duplexModePair _ a _ => a.wf
  | .duplexModeSolo _ a _ => a.wf
  | .forceActive _ a _ => a.wf
  | .switchOver _ a _ => a.wf
  | .pairTimeout _ => true
  | .silentTakeover _ => true
  | .lockstepMismatch _ => true
  | .lifecycleProvisioned _ a _ => a.wf
  | .lifecycleField _ a _ => a.wf
  | .lifecycleReturn _ a _ => a.wf
  | .lifecycleScrapped _ a _ => a.wf
  | .lifecycleFusesBlown _ => true
  | .debugChallenge _ a _ => a.wf
  | .debugResponse _ a _ _ => a.wf
  | .debugLock _ a _ => a.wf
  | .grantExpiry _ => true
  | .rollbackCommit _ a _ => a.wf
  | .firmwareImageWrite _ a slot _ => a.wf && decide (slot < 4)
  | .faultLogWrite _ _ => true
  | .quietTime _ _ _ => true
  | .handlerOverrun _ _ => true
  | .faultAck _ a _ => a.wf
  | .powerCycleRequest _ a _ => a.wf
  | .logClear _ a _ => a.wf
  | .spanBlockLock _ chan => decide (chan < 12)
  | .stayLaneLock _ l => decide (l < 8)
  | .deckMemoryEccError _ => true
  | .fuseLoadEnd _ _ _ _ => true
  | .activationDone _ => true

end Sys2Proof
end

