-- ==== Sys2Proof/Tests/Slice0.lean ====
section
/-! SUPPORT. Tests: for every statement one theorem that names a concrete state and operands that meet the hypotheses of each of
its clauses together, an ill-formed term for every check of WellFormed, and values that the spec itself states. -/

set_option maxRecDepth 8000
set_option Elab.async false

namespace Sys2Proof.Tests

open Sys2Proof Sys2Proof.Machine

/-- An accepted value, checked by evaluation. -/
theorem ok_of {e : Except Nat Val} {x : Val} (h : (match e with | .ok y => decide (y = x) | .error _ => false) = true) : e = .ok x := by
  cases e with
  | ok y => simpa using h
  | error c => cases h

/-- A refused value, checked by evaluation. -/
theorem err_of {e : Except Nat Val} {c : Nat} (h : (match e with | .ok _ => false | .error d => decide (d = c)) = true) : e = .error c := by
  cases e with
  | ok y => cases h
  | error d => simpa using h

/-- A decidable property of what an option holds, checked by evaluation. -/
theorem opt_all {α : Type} {p : α → Prop} [DecidablePred p] (o : Option α) (h : o.all (fun x => decide (p x)) = true) :
    ∀ x, o = some x → p x := by
  intro x hx; subst hx; simpa using h

/-- A dictionary with an object set, its keys rising. -/
def put (k : Nat) (v : Val) : List (Nat × Val) → List (Nat × Val)
  | [] => [(k, v)]
  | (k', v') :: r => match Nat.ble k' k, Nat.beq k k' with
    | false, _ => (k, v) :: (k', v') :: r
    | true, true => (k, v) :: r
    | true, false => (k', v') :: put k v r
/-- The fuses and the gates of a full part in RUN. -/
def fuses : List (Nat × Val) := [(Obj.Identity.variantCode, .num 0x1C), (Obj.Identity.headPorts, .num 64), (Obj.Identity.cameraPorts, .num 4), (Obj.Identity.dramChannels, .num 2), (Obj.Identity.nozzleChannels, .num 135168), (Obj.Clocks.xtalState 0, .num 1), (Obj.Clocks.xtalState 1, .num 1), (Obj.HostGates.enable, .num 0x3F), (Obj.FieldGates.enable, .num 0x7FFFFFFF), (Obj.PowerControl.powerState, .num 0)]
/-- A bar of one head on plane 0, with its memory trained. -/
def bar : List (Nat × Int) := [(Obj.PlaneConfig.planeWidth 0, 640), (Obj.LineGenerator.linesPerCount 0, 2 ^ 48), (Obj.HeadRecord.plane 0, 0), (Obj.HeadRecord.nozzleCount 0, 640), (Obj.Trestle.trestleRegion, 2 ^ 30)] ++ (List.range 4).map (fun u => (Obj.DramStatus.state u, 3))
/-- A strip store of 1 MiB on a two-level plane. -/
def store : List (Nat × Int) := [(Obj.StripStore.storeBytes, 2 ^ 20), (Obj.StripStore.storeFree, 2 ^ 20), (Obj.PlaneConfig.dropBits 0, 1)]
/-- A part whose two islands run their firmware, with the objects `l` set. -/
def live (l : List (Nat × Int)) : State :=
  let r := State.reset
  { r with
    dict := l.foldl (fun d p => put p.1 (.num p.2) d) fuses
    rst := { r.rst with host := { r.rst.host with active := false, seen := 0, loading := false, run := true }, field := { r.rst.field with active := false, seen := 0, loading := false, run := true } } }
/-- A Vendor session. -/
def boss : Caller := { sess := 0, role := .v }
/-- An Operator session. -/
def ope : Caller := { sess := 0, role := .o }
/-- A Service session. -/
def svc : Caller := { sess := 0, role := .s }
/-- The catalogue entry of a key. -/
def def0 (k : Nat) : Desc := (descOf k).getD (ob 0 1 .u8 .ro 0 (fun _ _ => .num 0) (fun _ => true))


/-! ### The web, the schedule and the planes (spec/02-04) -/

namespace Web
/-- Encoder channel 1 with an edge at 0. -/
def edged : State := (live []).setEnc 1 { Enc.init with last := some 0 }
/-- A request of the serial sensor that waits since 0. -/
def sensing : State := let s := live [(Obj.SpsConfig.enable, 1)]; s.setWeb { s.web with spsReq := some (0, 0) }
/-- The web moves at one count per ns. -/
def moving : State := let s := live []; s.setWeb { s.web with lineVN := 1000000000 }
def queued : State := { live [] with pending := [.spsRequest 0] }
def edgedNow : State := edged.setN (Obj.EncoderStatus.flags 1) 0
/-- The last word ended 1 ns ago. -/
def ended : State := let s := live [(Obj.SpsConfig.enable, 1)]; s.setWeb { s.web with spsEnd := some 0 }
/-- A Marker that fires at count 1000, as written. -/
def markerBytes : Bytes := leBytes 6 1000 ++ leBytes 2 0 ++ leBytes 1 0 ++ leBytes 1 8 ++ leBytes 1 0 ++ leBytes 1 0 ++ leBytes 2 5 ++ leBytes 2 9
def badMarker : Bytes := leBytes 6 1000 ++ leBytes 2 0 ++ leBytes 1 0 ++ leBytes 1 9 ++ leBytes 1 0 ++ leBytes 1 0 ++ leBytes 2 5 ++ leBytes 2 9
/-- A PageStart on plane 0 at line 5, and a late Marker. -/
def startBytes : Bytes := leBytes 6 5 ++ leBytes 2 0 ++ leBytes 1 1 ++ leBytes 1 1 ++ leBytes 1 0 ++ leBytes 1 0 ++ leBytes 2 0 ++ leBytes 2 9
def lateBytes : Bytes := leBytes 6 (-5) ++ leBytes 2 0 ++ leBytes 1 0 ++ leBytes 1 8 ++ leBytes 1 0 ++ leBytes 1 0 ++ leBytes 2 5 ++ leBytes 2 9
def fullTable : State := (live []).setTable (List.replicate 2048 (parseEntry markerBytes 0).1)
def markers : State := (live []).setTable [(parseEntry markerBytes 0).1, { (parseEntry markerBytes 0).1 with tag := 8 }]
/-- Plane 0 enabled. -/
def printing : State := live (bar ++ [(Obj.PlaneConfig.enable 0, 1)])
/-- A plane-phase write waits for plane 0. -/
def rwlWaits : State := let s := live bar; { s with sched := { s.sched with rwl := [{ plane := 0, line := 3, key := 0x400008, val := 4 }] } }
def running : State := { live bar with pow := { Pow.init with state := 0 } }
def holding : State := { live bar with pow := { Pow.init with state := 1 } }
/-- The hypotheses of each clause of `StepRunsFront` are met. -/
theorem witness_StepRunsFront :
    (queued.pending = [Instr.spsRequest 0]) ∧
    ((live []).pending = []) := by
  refine ⟨?_, ?_⟩ <;>
    first | decide +kernel | exact opt_all _ (by decide +kernel) | (unfold State.fieldOn; decide +kernel) | (unfold State.hostOn; decide +kernel) | (unfold State.noEpisode; decide +kernel) | exact ⟨by decide +kernel, by decide +kernel, ok_of (by decide +kernel)⟩ | rfl
/-- The hypotheses of each clause of `EncoderEdgesCountOrAreRejected` are met. -/
theorem witness_EncoderEdgesCountOrAreRejected :
    (State.fieldOn (live []) ∧
      1 < 2 ∧
      1 ≠ State.source (live []) ∧
      State.nat (live []) (Obj.EncoderConfig.validationMode 1) = 0 ∧
      State.nat (live []) (Obj.EncoderConfig.decodeMode 1) = 0 ∧
      true ≠ (State.enc (live []) 1).ballA ∧
      true ≠ (State.enc (live []) 1).a ∧
      (∀ (l : Nat), (State.enc (live []) 1).last = some l → l + 5 * State.nat (live []) (Obj.EncoderConfig.minSpacing 1) ≤ max (live []).now 10 / 10)) ∧
    (State.fieldOn edged ∧
      State.encInUse edged 1 = false ∧
      State.nat edged (Obj.EncoderConfig.validationMode 1) = 0 ∧
      true ≠ (State.enc edged 1).ballA ∧
      true ≠ (State.enc edged 1).a ∧
      (State.enc edged 1).last = some 0 ∧
      max edged.now 10 / 10 < 0 + 5 * State.nat edged (Obj.EncoderConfig.minSpacing 1)) ∧
    (State.fieldOn edgedNow ∧
      (State.enc edgedNow 1).last = some 0 ∧
      bit (State.nat edgedNow (Obj.EncoderStatus.flags 1)) 0 = false ∧
      0 + 1000000 * State.nat edgedNow Obj.PositionCertainty.standstillTimeout ≤ max edgedNow.now 100000000 / 10) := by
  refine ⟨⟨?_, ?_, ?_, ?_, ?_, ?_, ?_, ?_⟩, ⟨?_, ?_, ?_, ?_, ?_, ?_, ?_⟩, ⟨?_, ?_, ?_, ?_⟩⟩ <;>
    first | decide +kernel | exact opt_all _ (by decide +kernel) | (unfold State.fieldOn; decide +kernel) | (unfold State.hostOn; decide +kernel) | (unfold State.noEpisode; decide +kernel) | exact ⟨by decide +kernel, by decide +kernel, ok_of (by decide +kernel)⟩ | rfl
/-- The hypotheses of each clause of `SensorWordsAreJudged` are met. -/
theorem witness_SensorWordsAreJudged :
    (State.fieldOn (live [(Obj.SpsConfig.enable, 1)]) ∧
      State.flag (live [(Obj.SpsConfig.enable, 1)]) Obj.SpsConfig.enable = true ∧
      State.spsDue (State.tickTo (live [(Obj.SpsConfig.enable, 1)]) 10) = true ∧
      (live [(Obj.SpsConfig.enable, 1)]).web.spsReq = none ∧
      (∀ (e : Nat), (live [(Obj.SpsConfig.enable, 1)]).web.spsEnd = some e → e + 1000 ≤ max (live [(Obj.SpsConfig.enable, 1)]).now 10 / 10)) ∧
    (State.fieldOn sensing ∧
      State.flag sensing Obj.SpsConfig.enable = true ∧
      State.spsDue (State.tickTo sensing 10) = true ∧
      (sensing.web.spsReq ≠ none ∨ ∃ e, sensing.web.spsEnd = some e ∧ max sensing.now 10 / 10 < e + 1000)) ∧
    (State.fieldOn ended ∧
      State.flag ended Obj.SpsConfig.enable = true ∧
      State.spsDue (State.tickTo ended 10) = true ∧
      (ended.web.spsReq ≠ none ∨ ∃ e, ended.web.spsEnd = some e ∧ max ended.now 10 / 10 < e + 1000)) ∧
    (sensing.web.spsReq = some (0, 0) ∧
      (0 ≠ if State.flag sensing Obj.SpsConfig.crcInvert = true then 2 ^ State.nat sensing Obj.SpsConfig.crcBits - 1 - spsCrc (State.nat sensing Obj.SpsConfig.crcBits) (State.nat sensing Obj.SpsConfig.crcPoly) (5 % 2 ^ State.nat sensing Obj.SpsConfig.wordBits) (State.nat sensing Obj.SpsConfig.wordBits) (State.nat sensing Obj.SpsConfig.crcInit) else spsCrc (State.nat sensing Obj.SpsConfig.crcBits) (State.nat sensing Obj.SpsConfig.crcPoly) (5 % 2 ^ State.nat sensing Obj.SpsConfig.wordBits) (State.nat sensing Obj.SpsConfig.wordBits) (State.nat sensing Obj.SpsConfig.crcInit))) ∧
    ((36 ≠ if State.flag sensing Obj.SpsConfig.crcInvert = true then 2 ^ State.nat sensing Obj.SpsConfig.crcBits - 1 - spsCrc (State.nat sensing Obj.SpsConfig.crcBits) (State.nat sensing Obj.SpsConfig.crcPoly) (5 % 2 ^ State.nat sensing Obj.SpsConfig.wordBits) (State.nat sensing Obj.SpsConfig.wordBits) (State.nat sensing Obj.SpsConfig.crcInit) else spsCrc (State.nat sensing Obj.SpsConfig.crcBits) (State.nat sensing Obj.SpsConfig.crcPoly) (5 % 2 ^ State.nat sensing Obj.SpsConfig.wordBits) (State.nat sensing Obj.SpsConfig.wordBits) (State.nat sensing Obj.SpsConfig.crcInit))) ∧
    (0 + 100 * State.nat sensing Obj.SpsConfig.wordTimeout ≤ max sensing.now 10000000 / 10) ∧
    (State.fieldOn moving ∧
      moving.web.lineVN ≠ 0 ∧
      2 * 10 ^ 10 * moving.web.lineVD < (max moving.now 1000 - 10 * moving.web.lineT) * moving.web.lineVN) := by
  refine ⟨⟨?_, ?_, ?_, ?_, ?_⟩, ⟨?_, ?_, ?_, ?_⟩, ⟨?_, ?_, ?_, ?_⟩, ⟨?_, ?_⟩, ?_, ?_, ⟨?_, ?_, ?_⟩⟩ <;>
    first | decide +kernel | exact opt_all _ (by decide +kernel) | (unfold State.fieldOn; decide +kernel) | (unfold State.hostOn; decide +kernel) | (unfold State.noEpisode; decide +kernel) | exact ⟨by decide +kernel, by decide +kernel, ok_of (by decide +kernel)⟩ | rfl
/-- The hypotheses of each clause of `WebWritesTakeEffect` are met. -/
theorem witness_WebWritesTakeEffect :
    (1 < 2 ∧
      State.accepts (live []) ope (Obj.EncoderConfig.counterPreset 1) (leBytes 8 (-5)) (Val.num (-5)) ∧
      State.anyPlane (live []) = false ∧
      (∀ (x : SchedEntry), x ∈ (live []).sched.table → x.lineKey = true)) ∧
    (0 < 2 ∧
      State.accepts (live []) ope (Obj.EncoderConfig.counterPreset 0) (leBytes 8 7) (Val.num 7) ∧
      0 = State.source (live [])) ∧
    (State.accepts (live [(Obj.SpsConfig.enable, 1)]) ope Obj.SpsConfig.loadFromSps [1#8] (Val.num 1) ∧
      State.anyPlane (live [(Obj.SpsConfig.enable, 1)]) = false) ∧
    (State.accepts (live []) ope (Obj.EncoderConfig.indexArm 1) [1#8] (Val.num 1)) ∧
    (State.accepts (live []) ope Obj.WebSource.checkReset [1#8] (Val.num 1)) ∧
    (State.accepts (live [(Obj.PositionCertainty.positionState, 1)]) ope Obj.PositionCertainty.uncertainClear [1#8] (Val.num 1) ∧
      (∀ (e : Nat), e < 2 → State.encInUse (live [(Obj.PositionCertainty.positionState, 1)]) e = true → State.calm (State.tickTo (live [(Obj.PositionCertainty.positionState, 1)]) 10) e = true) ∧
      State.disagrees (live [(Obj.PositionCertainty.positionState, 1)]) = false ∧
      (live [(Obj.PositionCertainty.positionState, 1)]).web.disagree = false) ∧
    (3 < 4 ∧
      State.accepts (live bar) ope (Obj.LineGenerator.lineLoad 3) (leBytes 8 (-9)) (Val.num (-9)) ∧
      State.flag (live bar) (Obj.PlaneConfig.enable 3) = false) ∧
    (State.accepts (live [(Obj.WebSource.checkSource, 0)]) svc Obj.WebSource.primarySource [1#8] (Val.num 1) ∧
      State.nat (live [(Obj.WebSource.checkSource, 0)]) Obj.WebSource.checkSource ≠ 1 + 1 ∧
      State.anyPlane (live [(Obj.WebSource.checkSource, 0)]) = false ∧
      (∀ (x : SchedEntry), x ∈ (live [(Obj.WebSource.checkSource, 0)]).sched.table → x.lineKey = true)) := by
  refine ⟨⟨?_, ?_, ?_, ?_⟩, ⟨?_, ?_, ?_⟩, ⟨?_, ?_⟩, ?_, ?_, ⟨?_, ?_, ?_, ?_⟩, ⟨?_, ?_, ?_⟩, ⟨?_, ?_, ?_, ?_⟩⟩ <;>
    first | decide +kernel | exact opt_all _ (by decide +kernel) | (unfold State.fieldOn; decide +kernel) | (unfold State.hostOn; decide +kernel) | (unfold State.noEpisode; decide +kernel) | exact ⟨by decide +kernel, by decide +kernel, ok_of (by decide +kernel)⟩ | rfl
/-- The hypotheses of each clause of `ScheduleWritesTakeEffect` are met. -/
theorem witness_ScheduleWritesTakeEffect :
    (State.accepts (live []) ope Obj.scheduleInsert markerBytes (Val.bytes markerBytes) ∧
      (∀ (p : SchedEntry × Bool), p ∈ parseEntries (List.length markerBytes / 16) (live []).sched.nextSeq markerBytes → State.entryAbort (live []) p.fst p.snd = 0) ∧
      List.length (live []).sched.table + List.length markerBytes / 16 ≤ 2048) ∧
    ((∀ (p : SchedEntry × Bool), p ∈ parseEntries (List.length markerBytes / 16) (live []).sched.nextSeq markerBytes → State.entryAbort (live []) p.fst p.snd = 0 ∧ State.entryLate (live []) p.fst = false) ∧
      (∀ (p : SchedEntry × Bool), p ∈ parseEntries (List.length markerBytes / 16) (live []).sched.nextSeq markerBytes → p.fst.action ≠ 1)) ∧
    (State.accepts (live []) ope Obj.scheduleInsert lateBytes (Val.bytes lateBytes) ∧
      (∀ (p : SchedEntry × Bool), p ∈ parseEntries (List.length lateBytes / 16) (live []).sched.nextSeq lateBytes → State.entryAbort (live []) p.fst p.snd = 0) ∧
      List.length (live []).sched.table + List.length lateBytes / 16 ≤ 2048) ∧
    (State.accepts (live bar) ope Obj.scheduleInsert startBytes (Val.bytes startBytes) ∧
      (∀ (p : SchedEntry × Bool), p ∈ parseEntries (List.length startBytes / 16) (live bar).sched.nextSeq startBytes → State.entryAbort (live bar) p.fst p.snd = 0 ∧ State.entryLate (live bar) p.fst = false) ∧
      List.length (live bar).sched.table + List.length startBytes / 16 ≤ 2048) ∧
    (State.accepts (live []) ope Obj.scheduleInsert (markerBytes ++ badMarker) (Val.bytes (markerBytes ++ badMarker)) ∧
      parseEntries (List.length (markerBytes ++ badMarker) / 16) (live []).sched.nextSeq (markerBytes ++ badMarker) = [parseEntry markerBytes 0] ++ [parseEntry badMarker 1] ∧
      (∀ (q : SchedEntry × Bool), q ∈ [parseEntry markerBytes 0] → State.entryAbort (live []) q.fst q.snd = 0) ∧
      State.entryAbort (live []) (parseEntry badMarker 1).fst (parseEntry badMarker 1).snd ≠ 0) ∧
    (State.accepts fullTable ope Obj.scheduleInsert markerBytes (Val.bytes markerBytes) ∧
      (∀ (p : SchedEntry × Bool), p ∈ parseEntries (List.length markerBytes / 16) fullTable.sched.nextSeq markerBytes → State.entryAbort fullTable p.fst p.snd = 0) ∧
      2048 < List.length fullTable.sched.table + List.length markerBytes / 16) ∧
    (State.accepts markers ope Obj.ScheduleCancel.cancelTag (leBytes 2 9) (Val.num 9)) ∧
    (State.accepts markers ope Obj.ScheduleCancel.cancelAll [1#8] (Val.num 1)) := by
  refine ⟨⟨?_, ?_, ?_⟩, ⟨?_, ?_⟩, ⟨?_, ?_, ?_⟩, ⟨?_, ?_, ?_⟩, ⟨?_, ?_, ?_, ?_⟩, ⟨?_, ?_, ?_⟩, ?_, ?_⟩ <;>
    first | decide +kernel | exact opt_all _ (by decide +kernel) | (unfold State.fieldOn; decide +kernel) | (unfold State.hostOn; decide +kernel) | (unfold State.noEpisode; decide +kernel) | exact ⟨by decide +kernel, by decide +kernel, ok_of (by decide +kernel)⟩ | rfl
/-- The hypotheses of each clause of `LineSynchronousWriteWaits` are met. -/
theorem witness_LineSynchronousWriteWaits :
    (0 < 4 ∧
      State.accepts printing ope (16384 * 256 + 8) (leBytes 4 5) (Val.num 5) ∧
      vendorAccess ope.role 16384 = false ∧
      descOf (16384 * 256 + 8) = some (def0 4194312) ∧
      (def0 4194312).acc = Acc.rwl ∧
      boundPlane printing.dict (16384 * 256 + 8) = some 0 ∧
      State.flag printing (Obj.PlaneConfig.enable 0) = true ∧
      (∀ (h : Nat), within 16640 64 16384 = some h → inUse printing.dict h = true) ∧
      (∀ (j : Nat), planePhaseOf (16384 * 256 + 8) = some j → State.planePhaseOk printing j (Val.int (Val.num 5)) = true)) ∧
    (State.accepts printing ope (16640 * 256 + 10) (leBytes 1 0) (Val.num 0) ∧
      vendorAccess ope.role 16640 = false ∧
      descOf (16640 * 256 + 10) = some (def0 4259850) ∧
      (def0 4259850).acc = Acc.rwl ∧
      boundPlane printing.dict (16640 * 256 + 10) = some 0 ∧
      (∀ (h : Nat), within 16640 64 16640 = some h → inUse printing.dict h = true) ∧
      (∀ (j : Nat), planePhaseOf (16640 * 256 + 10) = some j → State.planePhaseOk printing j (Val.int (Val.num 0)) = true)) ∧
    (State.accepts printing ope (16384 * 256 + 7) (leBytes 2 5) (Val.num 5) ∧
      descOf (16384 * 256 + 7) = some (def0 4194311) ∧
      (def0 4194311).acc = Acc.rwl ∧
      boundPlane printing.dict (16384 * 256 + 7) = some 0 ∧
      (∀ (j : Nat), planePhaseOf (16384 * 256 + 7) = some j → State.planePhaseOk printing j (Val.int (Val.num 5)) = true)) ∧
    (State.accepts rwlWaits ope (16384 * 256 + 8) (leBytes 4 5) (Val.num 5) ∧
      boundPlane rwlWaits.dict (16384 * 256 + 8) = some 0 ∧
      State.flag rwlWaits (Obj.PlaneConfig.enable 0) = false ∧
      (∀ (h : Nat), within 16640 64 16384 = some h → inUse rwlWaits.dict h = true) ∧
      (∀ (j : Nat), planePhaseOf (16384 * 256 + 8) = some j → State.planePhaseOk rwlWaits j (Val.int (Val.num 5)) = true)) ∧
    (State.accepts rwlWaits ope (16384 * 256 + 8) (leBytes 4 0) (Val.num 0) ∧
      (∀ (j : Nat), planePhaseOf (16384 * 256 + 8) = some j → State.planePhaseOk rwlWaits j (Val.int (Val.num 0)) = true)) ∧
    (State.accepts (live bar) ope (16641 * 256 + 10) (leBytes 1 0) (Val.num 0) ∧
      vendorAccess ope.role 16641 = false ∧
      descOf (16641 * 256 + 10) = some (def0 4260106) ∧
      (def0 4260106).acc = Acc.rwl ∧
      (boundPlane (live bar).dict (16641 * 256 + 10) = none ∨ ∃ h, within 16640 64 16641 = some h ∧ inUse (live bar).dict h = false) ∧
      (∀ (j : Nat), planePhaseOf (16641 * 256 + 10) = some j → State.planePhaseOk (live bar) j (Val.int (Val.num 0)) = true)) := by
  refine ⟨⟨?_, ?_, ?_, ?_, ?_, ?_, ?_, ?_, ?_⟩, ⟨?_, ?_, ?_, ?_, ?_, ?_, ?_⟩, ⟨?_, ?_, ?_, ?_, ?_⟩, ⟨?_, ?_, ?_, ?_, ?_⟩, ⟨?_, ?_⟩, ⟨?_, ?_, ?_, ?_, ?_, ?_⟩⟩ <;>
    first | decide +kernel | exact opt_all _ (by decide +kernel) | (unfold State.fieldOn; decide +kernel) | (unfold State.hostOn; decide +kernel) | (unfold State.noEpisode; decide +kernel) | exact ⟨by decide +kernel, by decide +kernel, ok_of (by decide +kernel)⟩ | rfl
/-- The hypotheses of each clause of `PlanesEnableAndDisable` are met. -/
theorem witness_PlanesEnableAndDisable :
    (0 < 4 ∧
      State.accepts running ope (Obj.PlaneConfig.enable 0) [1#8] (Val.num 1) ∧
      State.flag running (Obj.PlaneConfig.enable 0) = false ∧
      geometryCheck running.dict (State.exts running) 0 = (0, 255) ∧
      (State.enableAbort (State.tickTo running 10) 0).fst = 0 ∧
      running.pow.state = 0 ∧
      running.sched.table = [] ∧
      running.sched.rwl = [] ∧
      (State.raiseNeed (State.enableAbort (State.tickTo running 10) 0).snd (max (State.planeNeed (State.enableAbort (State.tickTo running 10) 0).snd (0 :: State.enabled (State.enableAbort (State.tickTo running 10) 0).snd)) (State.needNow (State.enableAbort (State.tickTo running 10) 0).snd).snd)).snd = false) ∧
    (State.accepts holding ope (Obj.PlaneConfig.enable 0) [1#8] (Val.num 1) ∧
      State.flag holding (Obj.PlaneConfig.enable 0) = false ∧
      geometryCheck holding.dict (State.exts holding) 0 = (0, 255) ∧
      (State.enableAbort (State.tickTo holding 10) 0).fst = 0 ∧
      holding.pow.state ≠ 0) ∧
    ((State.accepts (live (List.filter (fun p => p.fst != Obj.Trestle.trestleRegion) bar)) ope (Obj.PlaneConfig.enable 0) [1#8] (Val.num 1)) ∧
      (State.flag (live (List.filter (fun p => p.fst != Obj.Trestle.trestleRegion) bar)) (Obj.PlaneConfig.enable 0) = false) ∧
      (geometryCheck (live (List.filter (fun p => p.fst != Obj.Trestle.trestleRegion) bar)).dict (State.exts (live (List.filter (fun p => p.fst != Obj.Trestle.trestleRegion) bar))) 0 = (9, 255)) ∧
      9 ≠ 0 ∧
      ((State.enableAbort (State.tickTo (live (List.filter (fun p => p.fst != Obj.Trestle.trestleRegion) bar)) 10) 0).fst ≠ 50528257)) ∧
    (State.accepts printing ope (Obj.PlaneConfig.enable 0) [0#8] (Val.num 0) ∧
      State.flag printing (Obj.PlaneConfig.enable 0) = true) ∧
    (State.accepts (live bar) ope Obj.PlaneCheck.checkPlane [0#8] (Val.num 0) ∧
      (geometryCheck (List.foldl (fun d g => overlay d g.snd) (live bar).dict (live bar).groups.staged) (State.exts (live bar)) 0 = (0, 255))) := by
  refine ⟨⟨?_, ?_, ?_, ?_, ?_, ?_, ?_, ?_, ?_⟩, ⟨?_, ?_, ?_, ?_, ?_⟩, ⟨?_, ?_, ?_, ?_, ?_⟩, ⟨?_, ?_⟩, ⟨?_, ?_⟩⟩ <;>
    first | decide +kernel | exact opt_all _ (by decide +kernel) | (unfold State.fieldOn; decide +kernel) | (unfold State.hostOn; decide +kernel) | (unfold State.noEpisode; decide +kernel) | exact ⟨by decide +kernel, by decide +kernel, ok_of (by decide +kernel)⟩ | rfl
end Web

/-! ### Pages, inflate engines and screening (spec/05, 06) -/

namespace Pages
/-- A deposit's container: job 1, page 1, plane 0, one line of 64 columns of one bit, its CRC-32s right. -/
def header (plane : Nat) (raw : Bytes) : Bytes :=
  let h := leBytes 4 0x54535A41 ++ leBytes 1 1 ++ leBytes 1 plane ++ leBytes 1 1 ++ leBytes 1 0 ++ leBytes 4 1 ++ leBytes 4 1 ++ leBytes 6 0 ++ leBytes 2 0 ++
    leBytes 4 1 ++ leBytes 4 0 ++ leBytes 4 64 ++ leBytes 1 0 ++ leBytes 3 0 ++ leBytes 4 8 ++ leBytes 4 8 ++ leBytes 4 (crc32 raw) ++ leBytes 8 0
  h ++ leBytes 4 (crc32 h)
def tile : Bytes := leBytes 8 0x55
def depositBody (plane : Nat) : Bytes := leBytes 2 0 ++ leBytes 2 0 ++ leBytes 4 7 ++ header plane tile ++ tile
/-- The same page on plane 0, not started. -/
def onePage : Page := { job := 1, page := 1, length := 1, startMode := 0, startLine := 0, format := 1, res := 0, stripLines := 1, bands := [⟨0, 64, false⟩], start := none, last := 0, chain := true, waits := false, cut := false, faulted := [], judged := 0 }
/-- The host has opened session 0 to the field island with role V. -/
def noted (s : State) : State := { s with span := { s.span with noted := [(0, 3, 0)] } }
def inked : State := noted (live (bar ++ store))
def queuedPage : State := inked.setPlane 0 { Plane.init with pages := [onePage] }
def fullStore : State := inked.setN Obj.StripStore.storeFree 0
def assembling : State := inked.setRxF 1 { CellRx.init with msg := some (2, (depositBody 0).take 74, false) }
def otherPage : State := inked.setPlane 0 { Plane.init with pages := [{ onePage with bands := [⟨64, 64, false⟩] }] }
def cutOff : State := { inked with span := { inked.span with lostF := true } }
/-- A descriptor of the page of one line in one band. -/
def pageBytes : Bytes := leBytes 4 1 ++ leBytes 4 1 ++ leBytes 6 1 ++ leBytes 1 0 ++ leBytes 1 1 ++ leBytes 6 0 ++ leBytes 1 1 ++ leBytes 1 0 ++ leBytes 4 1 ++ leBytes 4 0 ++ leBytes 4 0 ++ leBytes 3 64 ++ leBytes 1 0
def badPage : Bytes := leBytes 4 1 ++ leBytes 4 1 ++ leBytes 6 0 ++ leBytes 1 0 ++ leBytes 1 1 ++ leBytes 6 0 ++ leBytes 1 1 ++ leBytes 1 0 ++ leBytes 4 1 ++ leBytes 4 0 ++ leBytes 4 0 ++ leBytes 3 64 ++ leBytes 1 0
/-- Plane 0 prints a page of 100 lines from line 0; lines up to 4 have opened. -/
def longPage : Page := { onePage with length := 100, start := some 0, last := 99 }
def active : State := (live (bar ++ [(Obj.PlaneConfig.enable 0, 1)])).setPlane 0 { Plane.init with pages := [longPage], opened := 4, hwm := 4 * 2 ^ 48, acc := 4 * 2 ^ 48 }
def waiting : FireLine := { line := 3, target := 2 ^ 50, codes := some [], classes := [], st := .waiting, ts := 0, prev := none, stamp := 0, frame := .closed, frameStart := 0, frameEnd := 0, energy := 0, drops := 0, flags := 0, hold := none, atRisk := false, sawStat := false, sawHard := false, cut := false }
def activeHead : State := active.setHead 0 { Head.init with lines := [waiting] }
def strip1 : Strip := stripOf (header 0 tile ++ tile)
def boundStrip : Strip := { strip1 with bound := true }
def busyStrip (crc : Nat) : Strip := { strip1 with bound := true, st := .inflating 0, crc := crc }
def orphan : State := inked.setStrips { Strips.init with held := [strip1] }
def heldQueue : State := (inked.setPlane 0 { Plane.init with pages := [onePage] }).setN (Obj.PageQueue.held 0) 1
def needy : State := inked.setN Obj.Dvfs.needMHz 1000
/-- The strip of a started page waits for an engine. -/
def startedPage : Page := { onePage with start := some 5, last := 5 }
def waitingStrip : State := ((inked.setN (Obj.PlaneConfig.enable 0) 1).setPlane 0 { Plane.init with pages := [startedPage] }).setStrips { Strips.init with held := [boundStrip] }
def inflating (crc : Nat) : State := (inked.setPlane 0 { Plane.init with pages := [startedPage] }).setStrips { Strips.init with held := [busyStrip crc] }
def line7 : OpenLine := { line := 7, page := none, fresh := false, heads := [0], cfg := inked.dict, ntab := [] }
def line7c : OpenLine := { line7 with page := some (1, 1, 7), fresh := true }
/-- Line 7 of plane 0 has opened in no page. -/
def opened7 : State := inked.setPlane 0 { Plane.init with lines := [line7] }
def contonePage : Page := { onePage with format := 16, start := some 7, last := 7 }
def contone : State := inked.setPlane 0 { Plane.init with pages := [contonePage], opened := 7, lines := [line7c] }
def nozzles64 : Bytes := leBytes 4 128 ++ leBytes 4 0 ++ (List.replicate 64 (leBytes 8 0x4001)).flatten
def badNozzle : Bytes := leBytes 4 128 ++ leBytes 4 0 ++ leBytes 8 (2 ^ 39) ++ (List.replicate 63 (leBytes 8 0x4001)).flatten
/-- The hypotheses of each clause of `DepositsAreAnswered` are met. -/
theorem witness_DepositsAreAnswered :
    (State.fieldOn inked ∧
      State.firewall inked 2 (depositBody 0) = 0 ∧
      inked.span.lostF = false ∧
      State.depositStatus inked (List.drop 8 (depositBody 0)) ≤ 1 ∧
      State.pageFor inked (stripOf (List.drop 8 (depositBody 0))) = none) ∧
    (State.fieldOn queuedPage ∧
      State.firewall queuedPage 2 (depositBody 0) = 0 ∧
      queuedPage.span.lostF = false ∧
      State.depositStatus queuedPage (List.drop 8 (depositBody 0)) ≤ 1) ∧
    (State.firewall inked 2 (depositBody 1) = 0 ∧
      2 ≤ State.depositStatus inked (List.drop 8 (depositBody 1))) ∧
    (State.fieldOn fullStore ∧
      State.firewall fullStore 2 (depositBody 0) = 0 ∧
      fullStore.span.lostF = false ∧
      2 ≤ State.depositStatus fullStore (List.drop 8 (depositBody 0)) ∧
      State.depositStatus fullStore (List.drop 8 (depositBody 0)) = 4) ∧
    (State.fieldOn otherPage ∧
      State.firewall otherPage 2 (depositBody 0) = 0 ∧
      otherPage.span.lostF = false ∧
      State.depositStatus otherPage (List.drop 8 (depositBody 0)) ≤ 1) ∧
    (State.fieldOn cutOff ∧
      State.firewall cutOff 2 (depositBody 0) = 0 ∧
      cutOff.span.lostF = true) ∧
    (State.fieldOn assembling ∧
      State.firewall assembling 3 (leBytes 4 7 ++ leBytes 4 0) = 0 ∧
      (State.rxF assembling 1).msg = some (2, List.take 74 (depositBody 0), false) ∧
      fld (List.take 74 (depositBody 0)) 4 4 = fld (leBytes 4 7 ++ leBytes 4 0) 0 4 ∧
      8 ≤ List.length (List.take 74 (depositBody 0))) := by
  refine ⟨⟨?_, ?_, ?_, ?_, ?_⟩, ⟨?_, ?_, ?_, ?_⟩, ⟨?_, ?_⟩, ⟨?_, ?_, ?_, ?_, ?_⟩, ⟨?_, ?_, ?_, ?_⟩, ⟨?_, ?_, ?_⟩, ⟨?_, ?_, ?_, ?_, ?_⟩⟩ <;>
    first | decide +kernel | exact opt_all _ (by decide +kernel) | (unfold State.fieldOn; decide +kernel) | (unfold State.hostOn; decide +kernel) | (unfold State.noEpisode; decide +kernel) | exact ⟨by decide +kernel, by decide +kernel, ok_of (by decide +kernel)⟩ | rfl
/-- The hypotheses of each clause of `PageQueueWritesTakeEffect` are met. -/
theorem witness_PageQueueWritesTakeEffect :
    (0 < 4 ∧
      State.accepts needy ope (Obj.PageQueue.pageAppend 0) pageBytes (Val.bytes pageBytes) ∧
      State.parsePage needy 0 pageBytes = some onePage ∧
      List.length (State.plane needy 0).pages < 1024 ∧
      max (State.planeNeed (State.setPages (State.tickTo needy 10) 0 ((State.plane needy 0).pages ++ [onePage])) (State.enabled (State.setPages (State.tickTo needy 10) 0 ((State.plane needy 0).pages ++ [onePage])))) (State.needNow (State.setPages (State.tickTo needy 10) 0 ((State.plane needy 0).pages ++ [onePage]))).snd ≤ State.nat needy Obj.Dvfs.needMHz ∧
      State.flag needy (Obj.PlaneConfig.enable 0) = false) ∧
    (State.accepts inked ope (Obj.PageQueue.pageAppend 0) badPage (Val.bytes badPage) ∧
      State.parsePage inked 0 badPage = none) ∧
    (State.accepts activeHead ope (Obj.PageQueue.pageAbort 0) [1#8] (Val.num 1) ∧
      (∃ p, p ∈ (State.plane activeHead 0).pages ∧ Option.isSome p.start = true ∧ p.cut = false)) ∧
    (State.accepts activeHead ope (Obj.PageQueue.pageAbort 0) [2#8] (Val.num 2)) ∧
    (State.accepts orphan ope Obj.StripStore.flushJob (leBytes 4 1) (Val.num 1)) ∧
    (State.accepts orphan ope Obj.StripStore.flushOrphans [1#8] (Val.num 1)) ∧
    (State.accepts heldQueue ope (Obj.PageQueue.resume 0) [1#8] (Val.num 1) ∧
      State.flag heldQueue (Obj.PageQueue.held 0) = true) := by
  refine ⟨⟨?_, ?_, ?_, ?_, ?_, ?_⟩, ⟨?_, ?_⟩, ⟨?_, ?_⟩, ?_, ?_, ?_, ⟨?_, ?_⟩⟩ <;>
    first | decide +kernel | exact opt_all _ (by decide +kernel) | (unfold State.fieldOn; decide +kernel) | (unfold State.hostOn; decide +kernel) | (unfold State.noEpisode; decide +kernel) | exact ⟨by decide +kernel, by decide +kernel, ok_of (by decide +kernel)⟩ | rfl
/-- The hypotheses of each clause of `InflateEnginesWork` are met. -/
theorem witness_InflateEnginesWork :
    (State.fieldOn waitingStrip ∧
      State.nextStrip (State.tickTo waitingStrip 10) = some boundStrip ∧
      State.freeEngine waitingStrip boundStrip = some 0) ∧
    (State.fieldOn (inflating (crc32 tile)) ∧
      0 < 16 ∧
      State.engineStrip (inflating (crc32 tile)) 0 = some (busyStrip (crc32 tile)) ∧
      (busyStrip (crc32 tile)).dead = false ∧
      ((if (busyStrip (crc32 tile)).comp = 0 then Except.ok (busyStrip (crc32 tile)).data else inflate (busyStrip (crc32 tile)).raw (busyStrip (crc32 tile)).data) = Except.ok tile) ∧
      crc32 tile = (busyStrip (crc32 tile)).crc) ∧
    (State.fieldOn (inflating 1) ∧
      State.engineStrip (inflating 1) 0 = some (busyStrip 1) ∧
      (busyStrip 1).dead = false ∧
      ((if (busyStrip 1).comp = 0 then Except.ok (busyStrip 1).data else inflate (busyStrip 1).raw (busyStrip 1).data) = Except.ok tile) ∧
      crc32 tile ≠ (busyStrip 1).crc) ∧
    (15 < 16 ∧
      State.accepts inked ope (Obj.EngineStatus.reset 15) [1#8] (Val.num 1) ∧
      (State.engineStrip inked 15 = none ∨ bit (State.nat inked Obj.FieldGates.enable) 30 = false)) ∧
    (State.accepts (inflating 1) ope (Obj.EngineStatus.reset 0) [1#8] (Val.num 1) ∧
      State.engineStrip (inflating 1) 0 ≠ none ∧
      bit (State.nat (inflating 1) Obj.FieldGates.enable) 30 = true ∧
      State.waits (inflating 1) BlockKind.engine 0 = false) ∧
    (State.fieldOn inked ∧
      (State.engineStrip inked 0 = none ∨ bit (State.nat inked Obj.FieldGates.enable) 30 = false)) := by
  refine ⟨⟨?_, ?_, ?_⟩, ⟨?_, ?_, ?_, ?_, ?_, ?_⟩, ⟨?_, ?_, ?_, ?_, ?_⟩, ⟨?_, ?_, ?_⟩, ⟨?_, ?_, ?_, ?_⟩, ⟨?_, ?_⟩⟩ <;>
    first | decide +kernel | exact opt_all _ (by decide +kernel) | (unfold State.fieldOn; decide +kernel) | (unfold State.hostOn; decide +kernel) | (unfold State.noEpisode; decide +kernel) | exact ⟨by decide +kernel, by decide +kernel, ok_of (by decide +kernel)⟩ | rfl
/-- The hypotheses of each clause of `LinesAreScreened` are met. -/
theorem witness_LinesAreScreened :
    (State.fieldOn opened7 ∧
      (opened7.span.lostF = false ∨ opened7.pow.state ≠ 0) ∧
      (State.plane opened7 0).lines = [line7] ∧
      line7.page = none ∧
      line7.fresh = false ∧
      0 < 4) ∧
    (State.fieldOn contone ∧
      (contone.span.lostF = false ∨ contone.pow.state ≠ 0) ∧
      (State.plane contone 0).lines = [line7c] ∧
      line7c.page = some (1, 1, 7) ∧
      (List.find? (fun q => q.job == 1 && q.page == 1 && q.start == some 7) (State.plane contone 0).pages = some contonePage) ∧
      dotBits contonePage.format = none) ∧
    (State.accepts inked svc Obj.NozzleTable.nozzleWrite nozzles64 (Val.bytes nozzles64) ∧
      (List.length nozzles64 - 8) % 512 = 0 ∧
      520 ≤ List.length nozzles64 ∧
      List.length nozzles64 ≤ 65544 ∧
      fld nozzles64 0 4 % 64 = 0 ∧
      fld nozzles64 0 4 + (List.length nozzles64 - 8) / 8 ≤ State.pool inked ∧
      fld nozzles64 4 4 = 0 ∧
      (∀ (i : Nat), i < (List.length nozzles64 - 8) / 8 → entryOk (fld nozzles64 (8 + 8 * i) 8) = true)) ∧
    (State.accepts inked svc Obj.NozzleTable.nozzleWrite badNozzle (Val.bytes badNozzle) ∧
      0 < (List.length badNozzle - 8) / 8 ∧
      entryOk (fld badNozzle (8 + 8 * 0) 8) = false) := by
  refine ⟨⟨?_, ?_, ?_, ?_, ?_, ?_⟩, ⟨?_, ?_, ?_, ?_, ?_, ?_⟩, ⟨?_, ?_, ?_, ?_, ?_, ?_, ?_, ?_⟩, ⟨?_, ?_, ?_⟩⟩ <;>
    first | decide +kernel | exact opt_all _ (by decide +kernel) | (unfold State.fieldOn; decide +kernel) | (unfold State.hostOn; decide +kernel) | (unfold State.noEpisode; decide +kernel) | exact ⟨by decide +kernel, by decide +kernel, ok_of (by decide +kernel)⟩ | rfl
end Pages

/-! ### The Pier link (spec/07) -/

namespace PierLink
/-- A STAT block as the carrier sends it. -/
def stat (kind data : Nat) : Block := (ctrl (0x87 + kind * 2 ^ 8 + data * 2 ^ 16)).2
/-- Ports 0 to 3 are those of pier 0: port 0 in state `st` and stage `g`. -/
def port (st g : Nat) (p : Port) : State := (live (bar ++ [(Obj.PortStatus.state 0, (st : Int)), (Obj.PortStatus.stage 0, (g : Int))])).setPort 0 p
def duePort : State := port 0 0 { Port.init with due := true }
def trying : State := port 1 2 { Port.init with start := 0 }
def asking : State := port 1 6 { Port.init with locked := true, rxLock := true, aligned := true }
def asked (nz : Nat) : State := port 1 6 { Port.init with locked := true, ident := [(0, 5), (1, 0), (2, nz * 65536)] }
def claiming : State := port 1 7 { Port.init with locked := true }
def claimed : State := port 1 7 { Port.init with locked := true, claim := some 6 }
def up : State := port 2 8 { Port.init with locked := true, wasUp := true }
def resting : State := port 3 0 { Port.init with downAt := some 0 }
def off : State := port 6 0 Port.init
def offServed : State := off.setN (Obj.PierConfig.service 0) 1
def waiting : FireLine := { line := 3, target := 2 ^ 50, codes := some [], classes := [], st := .waiting, ts := 0, prev := none, stamp := 0, frame := .closed, frameStart := 0, frameEnd := 0, energy := 0, drops := 0, flags := 0, hold := none, atRisk := false, sawStat := false, sawHard := false, cut := false }
/-- Step 3 locks; the third attempt in a row fails. -/
def locking : State := port 1 3 Port.init
def failing : State := port 1 4 { Port.init with fails := 2 }
/-- A frame of port 0 is on its way. -/
def framing : State := up.setHead 0 { Head.init with lines := [{ waiting with frame := .sent, frameEnd := 1000 }] }
/-- The hypotheses of each clause of `BringUpAdvances` are met. -/
theorem witness_BringUpAdvances :
    (State.fieldOn duePort ∧
      0 < 64 ∧
      0 < State.nHeads duePort ∧
      (State.port duePort 0).due = true ∧
      State.inService duePort 0 = true ∧
      State.nat duePort (Obj.Clocks.xtalState 1) = 1) ∧
    (State.fieldOn (State.setPort duePort 63 ({ Port.init with due := true })) ∧
      63 < 64 ∧
      63 < State.nHeads (State.setPort duePort 63 ({ Port.init with due := true })) ∧
      (State.port (State.setPort duePort 63 ({ Port.init with due := true })) 63).due = true ∧
      State.inService (State.setPort duePort 63 ({ Port.init with due := true })) 63 = true ∧
      State.nat (State.setPort duePort 63 ({ Port.init with due := true })) (Obj.Clocks.xtalState 1) = 1) ∧
    (State.fieldOn trying ∧
      0 < State.nHeads trying ∧
      State.portState trying 0 = 1 ∧
      (State.port trying 0).due = false ∧
      (State.port trying 0).locked = false ∧
      State.nat trying (Obj.PortStatus.stage 0) < 3) ∧
    (State.fieldOn locking ∧
      0 < State.nHeads locking ∧
      State.portState locking 0 = 1 ∧
      (State.port locking 0).due = false ∧
      (State.port locking 0).locked = false ∧
      3 ≤ State.nat locking (Obj.PortStatus.stage 0)) ∧
    (State.nat trying (Obj.PortStatus.stage 0) < 6 ∧
      (State.port trying 0).fallback = false ∧
      ((State.port trying 0).start + 5 * 10 ^ 7 ≤ max trying.now 60000000 ∨ ∃ b, State.stepBound trying 0 (State.nat trying (Obj.PortStatus.stage 0)) = some b ∧ (State.port trying 0).stageAt + b ≤ max trying.now 60000000) ∧
      ((State.port trying 0).fails + 1 < 3 ∨ State.nat trying (Obj.PierConfig.lineCode (0 / 4)) ≠ 1) ∧
      (State.port trying 0).fails + 1 < 3) ∧
    (((State.port trying 0).start + 5 * 10 ^ 7 ≤ max trying.now 10000000 ∨ ∃ b, State.stepBound trying 0 (State.nat trying (Obj.PortStatus.stage 0)) = some b ∧ (State.port trying 0).stageAt + b ≤ max trying.now 10000000)) ∧
    (State.fieldOn failing ∧
      0 < State.nHeads failing ∧
      State.portState failing 0 = 1 ∧
      (State.port failing 0).due = false ∧
      State.nat failing (Obj.PortStatus.stage 0) < 6 ∧
      (State.port failing 0).fallback = false ∧
      ((State.port failing 0).start + 5 * 10 ^ 7 ≤ max failing.now 60000000 ∨ ∃ b, State.stepBound failing 0 (State.nat failing (Obj.PortStatus.stage 0)) = some b ∧ (State.port failing 0).stageAt + b ≤ max failing.now 60000000) ∧
      ((State.port failing 0).fails + 1 < 3 ∨ State.nat failing (Obj.PierConfig.lineCode (0 / 4)) ≠ 1) ∧
      3 ≤ (State.port failing 0).fails + 1) ∧
    (State.fieldOn asking ∧
      0 < State.nHeads asking ∧
      State.portState asking 0 = 1 ∧
      (State.port asking 0).due = false ∧
      6 ≤ State.nat asking (Obj.PortStatus.stage 0) ∧
      State.role asking < 2 ∧
      (State.port asking 0).stageAt + 10 ^ 6 ≤ max asking.now 1000000) ∧
    (State.fieldOn (State.setN asking (Obj.HeadRecord.plane 0) 255) ∧
      0 < State.nHeads (State.setN asking (Obj.HeadRecord.plane 0) 255) ∧
      State.portState (State.setN asking (Obj.HeadRecord.plane 0) 255) 0 = 1 ∧
      (State.port (State.setN asking (Obj.HeadRecord.plane 0) 255) 0).due = false ∧
      6 ≤ State.nat (State.setN asking (Obj.HeadRecord.plane 0) 255) (Obj.PortStatus.stage 0) ∧
      State.role (State.setN asking (Obj.HeadRecord.plane 0) 255) < 2 ∧
      (State.port (State.setN asking (Obj.HeadRecord.plane 0) 255) 0).stageAt + 10 ^ 6 ≤ max (State.setN asking (Obj.HeadRecord.plane 0) 255).now 1000000) ∧
    (State.fieldOn resting ∧
      State.portState resting 0 = 3 ∧
      (State.port resting 0).downAt = some 0 ∧
      0 + 10 ^ 7 * State.nat resting (Obj.PierConfig.retryInterval (0 / 4)) ≤ max resting.now 10000000000000) := by
  refine ⟨⟨?_, ?_, ?_, ?_, ?_, ?_⟩, ⟨?_, ?_, ?_, ?_, ?_, ?_⟩, ⟨?_, ?_, ?_, ?_, ?_, ?_⟩, ⟨?_, ?_, ?_, ?_, ?_, ?_⟩, ⟨?_, ?_, ?_, ?_, ?_⟩, ?_, ⟨?_, ?_, ?_, ?_, ?_, ?_, ?_, ?_, ?_⟩, ⟨?_, ?_, ?_, ?_, ?_, ?_, ?_⟩, ⟨?_, ?_, ?_, ?_, ?_, ?_, ?_⟩, ⟨?_, ?_, ?_, ?_⟩⟩ <;>
    first | decide +kernel | exact opt_all _ (by decide +kernel) | (unfold State.fieldOn; decide +kernel) | (unfold State.hostOn; decide +kernel) | (unfold State.noEpisode; decide +kernel) | exact ⟨by decide +kernel, by decide +kernel, ok_of (by decide +kernel)⟩ | rfl
/-- The hypotheses of each clause of `StatBlocksDriveBringUp` are met. -/
theorem witness_StatBlocksDriveBringUp :
    (State.fieldOn asking ∧
      0 < 64 ∧
      0 < State.nHeads asking ∧
      isStat 2 (stat 2 (1 + 7 * 2 ^ 4)) = true ∧
      State.portState asking 0 = 1 ∧
      State.nat asking (Obj.PortStatus.stage 0) = 6 ∧
      bits (BitVec.toNat (stat 2 (1 + 7 * 2 ^ 4))) 19 16 < 4 ∧
      (List.length (List.filter (fun x => x.fst != bits (BitVec.toNat (stat 2 (1 + 7 * 2 ^ 4))) 19 16) (State.port asking 0).ident ++ [(bits (BitVec.toNat (stat 2 (1 + 7 * 2 ^ 4))) 19 16, bits (BitVec.toNat (stat 2 (1 + 7 * 2 ^ 4))) 51 20)]) ≠ 4) ∧
      bit (BitVec.toNat (stat 2 (1 + 7 * 2 ^ 4))) 14 = false) ∧
    (State.fieldOn (asked 640) ∧
      0 < State.nHeads (asked 640) ∧
      isStat 2 (stat 2 (3 + 9 * 2 ^ 4)) = true ∧
      State.portState (asked 640) 0 = 1 ∧
      State.nat (asked 640) (Obj.PortStatus.stage 0) = 6 ∧
      bits (BitVec.toNat (stat 2 (3 + 9 * 2 ^ 4))) 19 16 < 4 ∧
      (List.length (List.filter (fun x => x.fst != bits (BitVec.toNat (stat 2 (3 + 9 * 2 ^ 4))) 19 16) (State.port (asked 640) 0).ident ++ [(bits (BitVec.toNat (stat 2 (3 + 9 * 2 ^ 4))) 19 16, bits (BitVec.toNat (stat 2 (3 + 9 * 2 ^ 4))) 51 20)]) = 4) ∧
      inUse (asked 640).dict 0 = true ∧
      (inUse (asked 640).dict 0 = false ∨ nozzles (asked 640).dict 0 = (fun n => Option.getD (Option.map (fun x => x.snd) (List.find? (fun p => p.fst == n) (List.filter (fun x => x.fst != bits (BitVec.toNat (stat 2 (3 + 9 * 2 ^ 4))) 19 16) (State.port (asked 640) 0).ident ++ [(bits (BitVec.toNat (stat 2 (3 + 9 * 2 ^ 4))) 19 16, bits (BitVec.toNat (stat 2 (3 + 9 * 2 ^ 4))) 51 20)]))) 0) 2 / 65536)) ∧
    (State.fieldOn (asked 320) ∧
      0 < State.nHeads (asked 320) ∧
      State.portState (asked 320) 0 = 1 ∧
      State.nat (asked 320) (Obj.PortStatus.stage 0) = 6 ∧
      (List.length (List.filter (fun x => x.fst != bits (BitVec.toNat (stat 2 (3 + 9 * 2 ^ 4))) 19 16) (State.port (asked 320) 0).ident ++ [(bits (BitVec.toNat (stat 2 (3 + 9 * 2 ^ 4))) 19 16, bits (BitVec.toNat (stat 2 (3 + 9 * 2 ^ 4))) 51 20)]) = 4) ∧
      inUse (asked 320).dict 0 = true ∧
      (nozzles (asked 320).dict 0 ≠ (fun n => Option.getD (Option.map (fun x => x.snd) (List.find? (fun p => p.fst == n) (List.filter (fun x => x.fst != bits (BitVec.toNat (stat 2 (3 + 9 * 2 ^ 4))) 19 16) (State.port (asked 320) 0).ident ++ [(bits (BitVec.toNat (stat 2 (3 + 9 * 2 ^ 4))) 19 16, bits (BitVec.toNat (stat 2 (3 + 9 * 2 ^ 4))) 51 20)]))) 0) 2 / 65536)) ∧
    (State.fieldOn claiming ∧
      0 < State.nHeads claiming ∧
      isStat 3 (stat 3 5) = true ∧
      State.portState claiming 0 = 1 ∧
      State.nat claiming (Obj.PortStatus.stage 0) = 7 ∧
      (State.port claiming 0).due = false ∧
      State.role claiming = 0 ∧
      (State.port claiming 0).claim = none ∧
      bits (BitVec.toNat (stat 3 5)) 47 16 < 4294967295) ∧
    (State.fieldOn claimed ∧
      0 < State.nHeads claimed ∧
      isStat 3 (stat 3 (6 + 2 ^ 32)) = true ∧
      State.portState claimed 0 = 1 ∧
      State.nat claimed (Obj.PortStatus.stage 0) = 7 ∧
      (State.port claimed 0).due = false ∧
      State.role claimed = 0 ∧
      Option.isSome (State.port claimed 0).claim = true ∧
      bits (BitVec.toNat (stat 3 (6 + 2 ^ 32))) 49 48 = 1) ∧
    (isStat 3 (stat 3 (9 + 2 * 2 ^ 32)) = true ∧
      bits (BitVec.toNat (stat 3 (9 + 2 * 2 ^ 32))) 49 48 ≠ 1) ∧
    (State.fieldOn trying ∧
      0 < State.nHeads trying ∧
      isStat 4 (stat 4 5) = true ∧
      State.role trying ≠ 1 ∧
      State.portState trying 0 = 1) ∧
    (State.fieldOn up ∧
      0 < State.nHeads up ∧
      isStat 4 (stat 4 4) = true ∧
      State.role up ≠ 1 ∧
      State.portState up 0 = 2 ∧
      bit (BitVec.toNat (stat 4 4)) 16 = false) := by
  refine ⟨⟨?_, ?_, ?_, ?_, ?_, ?_, ?_, ?_, ?_⟩, ⟨?_, ?_, ?_, ?_, ?_, ?_, ?_, ?_, ?_⟩, ⟨?_, ?_, ?_, ?_, ?_, ?_, ?_⟩, ⟨?_, ?_, ?_, ?_, ?_, ?_, ?_, ?_, ?_⟩, ⟨?_, ?_, ?_, ?_, ?_, ?_, ?_, ?_, ?_⟩, ⟨?_, ?_⟩, ⟨?_, ?_, ?_, ?_, ?_⟩, ⟨?_, ?_, ?_, ?_, ?_, ?_⟩⟩ <;>
    first | decide +kernel | exact opt_all _ (by decide +kernel) | (unfold State.fieldOn; decide +kernel) | (unfold State.hostOn; decide +kernel) | (unfold State.noEpisode; decide +kernel) | exact ⟨by decide +kernel, by decide +kernel, ok_of (by decide +kernel)⟩ | rfl
/-- The hypotheses of each clause of `PierLossesTakeThePortDown` are met. -/
theorem witness_PierLossesTakeThePortDown :
    (State.fieldOn up ∧
      0 < 64 ∧
      State.portState up 0 = 2 ∧
      State.role up ≠ 1 ∧
      (State.port up 0).statAt + 10 ^ 6 ≤ max up.now 1000000) ∧
    (0 < State.nHeads up ∧
      State.portState up 0 ≠ 0 ∧
      State.portState up 0 ≠ 6 ∧
      (State.port up 0).markAt + State.markPeriod up 0 ≤ max up.now 10000000) ∧
    (blockOk (stat 4 5 ^^^ 1#64) = false ∧
      (State.port up 0).checkAt = none) := by
  refine ⟨⟨?_, ?_, ?_, ?_, ?_⟩, ⟨?_, ?_, ?_, ?_⟩, ⟨?_, ?_⟩⟩ <;>
    first | decide +kernel | exact opt_all _ (by decide +kernel) | (unfold State.fieldOn; decide +kernel) | (unfold State.hostOn; decide +kernel) | (unfold State.noEpisode; decide +kernel) | exact ⟨by decide +kernel, by decide +kernel, ok_of (by decide +kernel)⟩ | rfl
/-- The hypotheses of each clause of `PiersResetAndServe` are met. -/
theorem witness_PiersResetAndServe :
    (0 < 16 ∧
      State.accepts up svc (Obj.PierConfig.reset 0) [1#8] (Val.num 1) ∧
      State.nat up (Obj.PierConfig.service 0) = 0 ∧
      (State.pierBusy (State.tickTo up 10) 0 = false ∨ bit (State.nat up Obj.FieldGates.enable) 0 = false)) ∧
    (15 < 16 ∧
      State.accepts duePort svc (Obj.PierConfig.reset 15) [1#8] (Val.num 1) ∧
      State.nat duePort (Obj.PierConfig.service 15) = 0 ∧
      (State.pierBusy (State.tickTo duePort 10) 15 = false ∨ bit (State.nat duePort Obj.FieldGates.enable) 15 = false)) ∧
    (State.accepts up svc (Obj.PierConfig.service 0) [1#8] (Val.num 1) ∧
      State.num up (Obj.PierConfig.service 0) = 0) ∧
    (State.accepts framing svc (Obj.PierConfig.reset 0) [1#8] (Val.num 1) ∧
      State.nat framing (Obj.PierConfig.service 0) = 0 ∧
      State.pierBusy (State.tickTo framing 10) 0 = true ∧
      bit (State.nat framing Obj.FieldGates.enable) 0 = true) ∧
    (State.accepts offServed svc (Obj.PierConfig.service 0) [0#8] (Val.num 0) ∧
      State.num offServed (Obj.PierConfig.service 0) = 1) := by
  refine ⟨⟨?_, ?_, ?_, ?_⟩, ⟨?_, ?_, ?_, ?_⟩, ⟨?_, ?_⟩, ⟨?_, ?_, ?_, ?_⟩, ⟨?_, ?_⟩⟩ <;>
    first | decide +kernel | exact opt_all _ (by decide +kernel) | (unfold State.fieldOn; decide +kernel) | (unfold State.hostOn; decide +kernel) | (unfold State.noEpisode; decide +kernel) | exact ⟨by decide +kernel, by decide +kernel, ok_of (by decide +kernel)⟩ | rfl
end PierLink

/-! ### Firing and nozzle health (spec/08, 09) -/

namespace Fire
/-- Head 0's port is UP; the web moves 1,000,000 counts per second over one line a count, line 0 crossed at 0. -/
def base0 : State :=
  let s := (live (bar ++ [(Obj.PortStatus.state 0, 2), (Obj.PortStatus.stage 0, 8), (Obj.HeadThermal.state 0, 0), (Obj.PlaneConfig.enable 0, 1), (Obj.PlaneConfig.dropBits 0, 1)])).setPort 0 { Port.init with locked := true, wasUp := true }
  ({ s with web := { s.web with lineVN := 1000000, lineVD := 1, lineFwd := true } }).setPlane 0 { Plane.init with q := 2 ^ 48 }
def fl (st : FireState) (fr : FrameState) : FireLine := { line := 1, target := 2 ^ 48, codes := some (List.replicate 640 0), classes := [0, 0, 0, 0, 0, 0, 0], st := st, ts := 60000, prev := none, stamp := 0, frame := fr, frameStart := 0, frameEnd := 0, energy := 0, drops := 0, flags := 0, hold := none, atRisk := false, sawStat := false, sawHard := false, cut := false }
def withLine (f : FireLine) : State := base0.setHead 0 { Head.init with lines := [f] }
def fresh : State := withLine (fl .waiting .closed)
def ready0 : State := withLine (fl .waiting .window)
def committed0 : State := withLine (fl .committed .window)
def sent0 : State := withLine (fl .committed .sent)
def blankF : FireLine := { fl .waiting .window with hold := some 8 }
def blanked : State := withLine blankF
def strobed0 : State := withLine (fl .strobed .sent)
def highStrobe : State := base0.setHead 0 { Head.init with hstb := true }
/-- Only a STAT of another kind showed the cut-off. -/
def cutLine : FireLine := { fl .strobed .sent with sawStat := true, sawHard := true, cut := true }
def stat (kind data : Nat) : Block := (ctrl (0x87 + kind * 2 ^ 8 + data * 2 ^ 16)).2
/-- The STAT of line 1 at 25 °C, its owner this part. -/
def lineOk : Block := (ctrl (0x87 + 1 * 2 ^ 16 + 1600 * 2 ^ 40 + 2 ^ 54)).2
def sweeping : State := (base0.setN (Obj.HeadHealth.measureChunk 0) 64).setMeas 0 { Meas.init with sweeping := true }
def measuring : State := base0.setMeas 0 { Meas.init with sweeping := true, chunk := some (0, 64, 0, false) }
def sweepDue : State := base0.setMeas 0 { Meas.init with due := true }
/-- Nozzle 7 waits for its confirmation; an offset run of head 0 is the first calibration run due. -/
def confirming : State := base0.setMeas 0 { Meas.init with confirm := [(7, 700, 0)] }
def offsetDue : State := let s := base0.setMeas 0 { Meas.init with offset := true }; { s with cal := { s.cal with due := [{ subj := 4, inst := 0, since := 0, warned := false }] } }
def defect (applied proposed : Bool) : Defect := { chan := 5, kind := 0, source := 0, method := 0, applied := applied, proposed := proposed, probe := false, unhidden := false, manual := 0, forced := false, stamp := 0, confirms := 0, clears := 0, value := 0, appliedAt := -10 ^ 18, okSince := true, probeLine := 0, validAt := -10 ^ 18 }
def withDefect (d : Defect) : State := let s := live (bar ++ [(Obj.CameraPort.enable 0, 1), (Obj.PipelineConfig.coverEnd 0, 1000)]); { s with health := { s.health with table := [d] } }
def manualBytes : Bytes := leBytes 4 9 ++ leBytes 1 6 ++ leBytes 1 2 ++ leBytes 1 0 ++ leBytes 1 0x10 ++ leBytes 8 0
def queuedDefect : State := let s := live bar; { s with health := { s.health with queue := [defect false true] } }
def fullHealth : State := let s := live bar; { s with health := { s.health with table := List.replicate 4096 (defect true false) } }
/-- The hypotheses of each clause of `FramesGoOutOrAreLate` are met. -/
theorem witness_FramesGoOutOrAreLate :
    (State.fieldOn fresh ∧
      State.nextLine fresh 0 = some (fl FireState.waiting FrameState.closed) ∧
      (fl FireState.waiting FrameState.closed).frame = FrameState.closed ∧
      (∀ (r : Nat), (State.head fresh 0).resolved = some r → r + State.holdoff fresh 0 ≤ max fresh.now 10)) ∧
    (State.fieldOn ready0 ∧
      0 < 64 ∧
      State.ready (State.tickTo ready0 10) 0 = some (fl FireState.waiting FrameState.window) ∧
      State.owner ready0 = true ∧
      State.linkBusy (State.tickTo ready0 10) 0 = false ∧
      State.behind (State.tickTo ready0 10) 0 (fl FireState.waiting FrameState.window) = false ∧
      (∀ (ts : Nat), State.strobeDue (State.tickTo ready0 10) 0 (fl FireState.waiting FrameState.window) = some ts → State.htxFree (State.tickTo ready0 10) 0 + (if (List.all (Option.getD (fl FireState.waiting FrameState.window).codes []) fun x => x == 0) = true then 2 else 2 + cdiv (payloadCount ready0.dict 0) (State.laneOf ready0 0).snd) * blockTime (linkRate ready0.dict 0) + 10 * State.nat ready0 Obj.FiringTiming.strobeSetup ≤ ts)) ∧
    (State.fieldOn committed0 ∧
      ((State.findLine committed0 0 fun f => f.st == FireState.committed) = some (fl FireState.committed FrameState.window)) ∧
      (fl FireState.committed FrameState.window).ts - 10 * State.nat committed0 Obj.FiringTiming.strobeSetup ≤ max committed0.now 50000 ∧
      ((fl FireState.committed FrameState.window).frame = FrameState.sent → (fl FireState.committed FrameState.window).ts - 10 * State.nat committed0 Obj.FiringTiming.strobeSetup < (fl FireState.committed FrameState.window).frameEnd) ∧
      (State.head committed0 0).held = [] ∧
      (∀ (g : FireLine), g ∈ (State.head committed0 0).lines → g.st ≠ FireState.strobed → bit g.flags 4 = false → (fl FireState.committed FrameState.window).line ≤ g.line)) := by
  refine ⟨⟨?_, ?_, ?_, ?_⟩, ⟨?_, ?_, ?_, ?_, ?_, ?_, ?_⟩, ⟨?_, ?_, ?_, ?_, ?_, ?_⟩⟩ <;>
    first | decide +kernel | exact opt_all _ (by decide +kernel) | (unfold State.fieldOn; decide +kernel) | (unfold State.hostOn; decide +kernel) | (unfold State.noEpisode; decide +kernel) | exact ⟨by decide +kernel, by decide +kernel, ok_of (by decide +kernel)⟩ | rfl
/-- The hypotheses of each clause of `StrobesCommitFireAndConfirm` are met. -/
theorem witness_StrobesCommitFireAndConfirm :
    (State.fieldOn ready0 ∧
      0 < 64 ∧
      ((State.findLine ready0 0 fun f => f.st == FireState.waiting) = some (fl FireState.waiting FrameState.window)) ∧
      State.owner ready0 = true ∧
      State.predict (State.tickTo ready0 10) (State.planeOf ready0 0) (fl FireState.waiting FrameState.window).target = some 10000 ∧
      10000 ≤ max ready0.now 10 + 10 * State.nat ready0 Obj.FiringTiming.commitLead ∧
      State.cause (State.tickTo ready0 10) 0 (fl FireState.waiting FrameState.window) (max ready0.now 10 + 10 * State.nat ready0 Obj.FiringTiming.commitLead) = none ∧
      10000 < max ready0.now 10 + 10 * State.nat ready0 Obj.FiringTiming.commitLead) ∧
    (State.fieldOn blanked ∧
      ((State.findLine blanked 0 fun f => f.st == FireState.waiting) = some blankF) ∧
      State.owner blanked = true ∧
      State.predict (State.tickTo blanked 10) (State.planeOf blanked 0) blankF.target = some 10000 ∧
      10000 ≤ max blanked.now 10 + 10 * State.nat blanked Obj.FiringTiming.commitLead) ∧
    (State.withheld (State.tickTo blanked 10) 0 blankF = true ∧
      State.cause (State.tickTo blanked 10) 0 blankF 10000 = some 8 ∧
      (State.head blanked 0).held = [] ∧
      (∀ (g : FireLine), g ∈ (State.head blanked 0).lines → g.st ≠ FireState.strobed → bit g.flags 4 = false → blankF.line ≤ g.line)) ∧
    (State.fieldOn sent0 ∧
      ((State.findLine sent0 0 fun f => f.st == FireState.committed) = some (fl FireState.committed FrameState.sent)) ∧
      (fl FireState.committed FrameState.sent).ts ≤ max sent0.now 60000 ∧
      (fl FireState.committed FrameState.sent).frame = FrameState.sent ∧
      (fl FireState.committed FrameState.sent).frameEnd ≤ (fl FireState.committed FrameState.sent).ts - 10 * State.nat sent0 Obj.FiringTiming.strobeSetup) ∧
    (State.fieldOn highStrobe ∧
      (State.head highStrobe 0).hstb = true ∧
      (State.head highStrobe 0).hstbAt + 10 * State.nat highStrobe Obj.FiringTiming.strobeWidth ≤ max highStrobe.now 1000000) ∧
    (State.fieldOn strobed0 ∧
      ((State.findLine strobed0 0 fun f => f.st == FireState.strobed && decide (f.ts + 40000 ≤ max strobed0.now 200000)) = some (fl FireState.strobed FrameState.sent)) ∧
      (¬((fl FireState.strobed FrameState.sent).sawStat = true ∧ (fl FireState.strobed FrameState.sent).sawHard = true ∧ (fl FireState.strobed FrameState.sent).cut = true ∧ State.nat strobed0 (Obj.HeadThermal.state 0) < 2))) ∧
    (State.fieldOn (withLine cutLine) ∧
      ((State.findLine (withLine cutLine) 0 fun f => f.st == FireState.strobed && decide (f.ts + 40000 ≤ max (withLine cutLine).now 200000)) = some cutLine) ∧
      (cutLine.sawStat = true ∧ cutLine.sawHard = true ∧ cutLine.cut = true ∧ State.nat (withLine cutLine) (Obj.HeadThermal.state 0) < 2)) := by
  refine ⟨⟨?_, ?_, ?_, ?_, ?_, ?_, ?_, ?_⟩, ⟨?_, ?_, ?_, ?_, ?_⟩, ⟨?_, ?_, ?_, ?_⟩, ⟨?_, ?_, ?_, ?_, ?_⟩, ⟨?_, ?_, ?_⟩, ⟨?_, ?_, ?_⟩, ⟨?_, ?_, ?_⟩⟩ <;>
    first | decide +kernel | exact opt_all _ (by decide +kernel) | (unfold State.fieldOn; decide +kernel) | (unfold State.hostOn; decide +kernel) | (unfold State.noEpisode; decide +kernel) | exact ⟨by decide +kernel, by decide +kernel, ok_of (by decide +kernel)⟩ | rfl
/-- The hypotheses of each clause of `LineStatsConfirmAndWarm` are met. -/
theorem witness_LineStatsConfirmAndWarm :
    (State.fieldOn strobed0 ∧
      0 < 64 ∧
      0 < State.nHeads strobed0 ∧
      isStat 0 lineOk = true ∧
      State.portState strobed0 0 = 2 ∧
      bits (BitVec.toNat lineOk) 55 54 = 1 ∧
      (∀ (f : FireLine), f ∈ (State.head strobed0 0).lines → f.cut = true → 2 ≤ State.nat strobed0 (Obj.HeadThermal.state 0)) ∧
      nextThermal (State.nat strobed0 (Obj.HeadThermal.state 0)) (Int.toNat (clamp (↑(bits (BitVec.toNat lineOk) 53 40) + State.num strobed0 (Obj.HeadCal.tempOffset 0)) 0 16383)) (State.nat strobed0 (Obj.HeadThermal.tsoft 0)) (State.nat strobed0 (Obj.HeadThermal.thard 0)) (bit (BitVec.toNat lineOk) 13) (bit (BitVec.toNat lineOk) 14) = State.nat strobed0 (Obj.HeadThermal.state 0) ∧
      (List.filter (fun f => f.st == FireState.strobed && decide (f.ts ≤ max strobed0.now 61000 ∧ max strobed0.now 61000 < f.ts + 40000)) (State.head strobed0 0).lines = [fl FireState.strobed FrameState.sent]) ∧
      low 24 (fl FireState.strobed FrameState.sent).line = bits (BitVec.toNat lineOk) 39 16 ∧
      (fl FireState.strobed FrameState.sent).atRisk = false) := by
  refine ⟨?_, ?_, ?_, ?_, ?_, ?_, ?_, ?_, ?_, ?_, ?_⟩ <;>
    first | decide +kernel | exact opt_all _ (by decide +kernel) | (unfold State.fieldOn; decide +kernel) | (unfold State.hostOn; decide +kernel) | (unfold State.noEpisode; decide +kernel) | exact ⟨by decide +kernel, by decide +kernel, ok_of (by decide +kernel)⟩ | rfl
/-- The hypotheses of each clause of `MeasurementsSweepHeads` are met. -/
theorem witness_MeasurementsSweepHeads :
    (State.fieldOn sweeping ∧
      (State.meas_ sweeping 0).confirm = [] ∧
      (State.meas_ sweeping 0).offset = false ∧
      (State.meas_ sweeping 0).sweeping = true ∧
      (State.meas_ sweeping 0).next < nozzles sweeping.dict 0 ∧
      State.mayMeasure (State.tickTo sweeping 10) 0 (min (State.nat sweeping (Obj.HeadHealth.measureChunk 0)) (nozzles sweeping.dict 0 - (State.meas_ sweeping 0).next)) = true) ∧
    (State.fieldOn confirming ∧
      State.mayMeasure (State.tickTo confirming 10) 0 1 = true ∧
      (Option.map (fun c => c.fst) (List.head? (State.meas_ confirming 0).confirm) = some 7 ∧ 0 = 0 ∧ true = true ∨ (State.meas_ confirming 0).confirm = [] ∧ (State.meas_ confirming 0).offset = true ∧ State.calFirst confirming 4 0 = true ∧ 7 = 0 ∧ 0 = 1 ∧ true = false)) ∧
    (State.fieldOn offsetDue ∧
      State.mayMeasure (State.tickTo offsetDue 10) 0 1 = true ∧
      (Option.map (fun c => c.fst) (List.head? (State.meas_ offsetDue 0).confirm) = some 0 ∧ 1 = 0 ∧ false = true ∨ (State.meas_ offsetDue 0).confirm = [] ∧ (State.meas_ offsetDue 0).offset = true ∧ State.calFirst offsetDue 4 0 = true ∧ 0 = 0 ∧ 1 = 1 ∧ false = false)) ∧
    (State.fieldOn measuring ∧
      0 < 64 ∧
      0 < State.nHeads measuring ∧
      State.portState measuring 0 ≠ 0 ∧
      State.portState measuring 0 ≠ 6 ∧
      isStat 1 (stat 1 (5 + 700 * 2 ^ 16)) = true ∧
      (State.meas_ measuring 0).chunk = some (0, 64, 0, false) ∧
      bit (BitVec.toNat (stat 1 (5 + 700 * 2 ^ 16))) 46 = false ∧
      0 ≤ bits (BitVec.toNat (stat 1 (5 + 700 * 2 ^ 16))) 31 16 ∧
      bits (BitVec.toNat (stat 1 (5 + 700 * 2 ^ 16))) 31 16 < 0 + 64 ∧
      bits (BitVec.toNat (stat 1 (5 + 700 * 2 ^ 16))) 31 16 < nozzles measuring.dict 0) ∧
    (isStat 1 (stat 1 (5 + 2 ^ 30)) = true ∧
      bit (BitVec.toNat (stat 1 (5 + 2 ^ 30))) 46 = true) ∧
    (State.fieldOn sweepDue ∧
      0 < State.nHeads sweepDue ∧
      0 < nozzles sweepDue.dict 0 ∧
      (State.meas_ sweepDue 0).sweeping = false ∧
      ((State.meas_ sweepDue 0).due = true ∨ 0 < State.nat sweepDue (Obj.HeadHealth.sweepInterval 0) ∧ (State.meas_ sweepDue 0).doneAt + 10 ^ 9 * State.num sweepDue (Obj.HeadHealth.sweepInterval 0) ≤ TimeBase.ns (State.tickTo sweepDue 10).tim.slave)) ∧
    (State.accepts base0 ope (Obj.HeadHealth.sweepNow 0) [1#8] (Val.num 1) ∧
      (State.meas_ base0 0).sweeping = false) ∧
    (State.accepts sweeping ope (Obj.HeadHealth.sweepNow 0) [1#8] (Val.num 1)) := by
  refine ⟨⟨?_, ?_, ?_, ?_, ?_, ?_⟩, ⟨?_, ?_, ?_⟩, ⟨?_, ?_, ?_⟩, ⟨?_, ?_, ?_, ?_, ?_, ?_, ?_, ?_, ?_, ?_, ?_⟩, ⟨?_, ?_⟩, ⟨?_, ?_, ?_, ?_, ?_⟩, ⟨?_, ?_⟩, ?_⟩ <;>
    first | decide +kernel | exact opt_all _ (by decide +kernel) | (unfold State.fieldOn; decide +kernel) | (unfold State.hostOn; decide +kernel) | (unfold State.noEpisode; decide +kernel) | exact ⟨by decide +kernel, by decide +kernel, ok_of (by decide +kernel)⟩ | rfl
/-- The hypotheses of each clause of `DefectEntriesFollowTheRules` are met. -/
theorem witness_DefectEntriesFollowTheRules :
    (State.fieldOn (withDefect (defect true false)) ∧
      State.defect (withDefect (defect true false)) 5 = some (defect true false) ∧
      (defect true false).applied = true ∧
      (defect true false).probe = false ∧
      (defect true false).source ≤ 1 ∧
      (defect true false).okSince = true ∧
      State.nat (withDefect (defect true false)) Obj.HealthControl.mode = 0 ∧
      State.covered (withDefect (defect true false)) 5 = true ∧
      (defect true false).appliedAt + 10 ^ 9 * State.num (withDefect (defect true false)) Obj.HealthControl.probeHoldoff ≤ TimeBase.ns (State.tickTo (withDefect (defect true false)) 10).tim.slave) ∧
    (State.fieldOn (withDefect (defect false false)) ∧
      State.defect (withDefect (defect false false)) 5 = some (defect false false) ∧
      (defect false false).applied = false ∧
      (defect false false).proposed = false ∧
      (withDefect (defect false false)).health.queue = [] ∧
      (defect false false).validAt + 10 ^ 9 * State.num (withDefect (defect false false)) Obj.HealthControl.pendingTimeout ≤ TimeBase.ns (State.tickTo (withDefect (defect false false)) 10).tim.slave) ∧
    (State.accepts (withDefect (defect false true)) ope Obj.DefectEdit.confirm (leBytes 4 5) (Val.num 5) ∧
      5 < State.pool (withDefect (defect false true)) ∧
      State.defect (withDefect (defect false true)) 5 = some (defect false true) ∧
      (defect false true).proposed = true) ∧
    (State.accepts (withDefect (defect false true)) ope Obj.DefectEdit.confirm (leBytes 4 6) (Val.num 6) ∧
      6 < State.pool (withDefect (defect false true)) ∧
      State.defect (withDefect (defect false true)) 6 = none) ∧
    (State.accepts (withDefect (defect true false)) ope Obj.DefectEdit.defectRemove (leBytes 4 5) (Val.num 5) ∧
      5 < State.pool (withDefect (defect true false)) ∧
      Option.isSome (State.defect (withDefect (defect true false)) 5) = true ∧
      (withDefect (defect true false)).health.queue = []) ∧
    (State.accepts queuedDefect ope Obj.DefectEdit.defectRemove (leBytes 4 5) (Val.num 5) ∧
      5 < State.pool queuedDefect ∧
      State.defect queuedDefect 5 = none ∧
      (∃ e, e ∈ queuedDefect.health.queue ∧ e.chan = 5)) ∧
    (State.accepts (live bar) ope Obj.DefectEdit.defectWrite manualBytes (Val.bytes manualBytes) ∧
      List.length manualBytes % 16 = 0 ∧
      16 ≤ List.length manualBytes ∧
      List.length manualBytes ≤ 4096 ∧
      (∀ (r : Bytes), r ∈ splitRecs (List.length manualBytes / 16) manualBytes → Option.isSome (State.parseDefect (State.tickTo (live bar) 10) r) = true) ∧
      List.length (live bar).health.table < 4096 ∧
      List.length (live bar).health.table + List.length (splitRecs (List.length manualBytes / 16) manualBytes) ≤ 4096) ∧
    (State.accepts fullHealth ope Obj.DefectEdit.defectWrite manualBytes (Val.bytes manualBytes) ∧
      (∀ (r : Bytes), r ∈ splitRecs (List.length manualBytes / 16) manualBytes → Option.isSome (State.parseDefect (State.tickTo fullHealth 10) r) = true) ∧
      4096 ≤ List.length fullHealth.health.table) ∧
    (State.accepts (live bar) ope Obj.DefectEdit.defectWrite (leBytes 16 1) (Val.bytes (leBytes 16 1)) ∧
      (∃ r, r ∈ splitRecs (List.length (leBytes 16 1) / 16) (leBytes 16 1) ∧ State.parseDefect (State.tickTo (live bar) 10) r = none)) := by
  refine ⟨⟨?_, ?_, ?_, ?_, ?_, ?_, ?_, ?_, ?_⟩, ⟨?_, ?_, ?_, ?_, ?_, ?_⟩, ⟨?_, ?_, ?_, ?_⟩, ⟨?_, ?_, ?_⟩, ⟨?_, ?_, ?_, ?_⟩, ⟨?_, ?_, ?_, ?_⟩, ⟨?_, ?_, ?_, ?_, ?_, ?_, ?_⟩, ⟨?_, ?_, ?_⟩, ⟨?_, ?_⟩⟩ <;>
    first | decide +kernel | exact opt_all _ (by decide +kernel) | (unfold State.fieldOn; decide +kernel) | (unfold State.hostOn; decide +kernel) | (unfold State.noEpisode; decide +kernel) | exact ⟨by decide +kernel, by decide +kernel, ok_of (by decide +kernel)⟩ | rfl
end Fire

/-! ### Cameras and inspection (spec/10, 11) -/

namespace Eyes
/-- Camera 0 is enabled, with frames of 8 by 2 pixels. -/
def eye : List (Nat × Int) := bar ++ [(Obj.CameraPort.enable 0, 1), (Obj.CameraPort.width 0, 8), (Obj.CameraPort.height 0, 2), (Obj.CameraPort.state 0, 1), (Obj.CameraPort.ringFrames 0, 4), (Obj.PipelineConfig.coverEnd 0, 639), (Obj.PipelineConfig.coverStart 1, 640), (Obj.PipelineConfig.coverEnd 1, 641)]
def exp0' : Expect := { tp := 0, key := 0, lineKey := false, plane := 0, phase := 0, pos := 0, delayed := false, late := false }
def trig0 : Trigger := { seq := 0, camera := 0, key := 5, lineKey := false, plane := 0, phase := 0, tag := 1, due := some 10, committed := true, delayed := false, late := false, spaced := false }
def triggered : State := let s := live eye; s.setSched { s.sched with trigs := [trig0] }
def pulsing (b : Nat) : State := triggered.setCam 0 { Cam.init with pulse := some b }
def exp0 : Expect := { tp := 0, key := 5, lineKey := false, plane := 0, phase := 0, pos := 0, delayed := false, late := false }
def expecting : State := let s := (live eye).setCam 0 { Cam.init with expects := [exp0] }; s
def frameOf (rows : List (Option (List Nat))) : Frame := { cam := 0, num := 3, accepted := true, inLine := false, exp := some exp0, field := 3, idx := 1, start := 0, marks := [0, 0, 0, 0], ref := none, cfg := (live eye).dict, rows := rows, long := false, head := [], slot := true, done := false, jobs := 0 }
def row : Option (List Nat) := some [1, 2, 3, 4, 5, 6, 7, 8]
def framing (f : Frame) : State := (live eye).setCam 0 { Cam.init with frame := some f, count := 4 }
def ringed : State := (live eye).setCam 0 { Cam.init with ring := [frameOf [row, row]] }
def rawHead (n : Nat) : PacketHeader := { vc := 0, vcx := 0, dt := 44, wordCount := n, ecc := 0 }
def startHead (e : Nat) : PacketHeader := { vc := 0, vcx := 0, dt := 0, wordCount := 7, ecc := e }
def endHead : PacketHeader := { startHead 0 with dt := 1 }
def noEye : State := live (eye.filter (fun p => p.1 != Obj.CameraPort.enable 0))
def twoEyes : State := live (eye.map (fun p => if p.1 = Obj.PipelineConfig.coverStart 1 then (p.1, 639) else p))
def rated (s : State) : State := s.setN (Obj.OperatingPoint.frequency 0) 4000
def flatting : State := let s := live eye; { s with cal := { s.cal with flats := [(0, { start := 0, frames := 1, sums := [], rows := 2 })] } }
def recs : Bytes := leBytes 8 0x0110
def gen0 (r : List Bytes) : Gen := { num := 7, first := none, done := none, failed := false, recs := r }
def genning (l : List Gen) : State := (live eye).setCam 0 { Cam.init with queue := l }
def bus0 (n : Bool) : BusReport := { nack := n, lost := false, stretch := 0, sent := 2 }
def win0 : Win := { idx := 0, first := 0, lines := 1, cfg := [], closed := [], parts := [], stats := [], cx := [], cy := [] }
def windowed : State :=
  let s := live (eye ++ [(Obj.AnalysisControl.renderActive, 1), (Obj.AnalysisControl.planeMask, 1), (Obj.PlaneConfig.enable 0, 1)])
  let s := { s with web := { s.web with posHwm := 100 * 2 ^ 48 } }
  (s.setPlane 0 { Plane.init with q := 2 ^ 48, hwm := 100 * 2 ^ 48 }).setAna 0 { Ana.init with wins := [win0] }
/-- Two cameras watch the plane. -/
def windowed2 : State := windowed.setN (Obj.CameraPort.enable 1) 1
def unwatched (region slack : Int) : State := live (eye ++ [(Obj.PlaneConfig.enable 0, 1), (Obj.Trestle.trestleRegion, region), (Obj.AnalysisControl.renderSlack, slack)])
/-- The hypotheses of each clause of `TriggersPulseAndExpire` are met. -/
theorem witness_TriggersPulseAndExpire :
    (State.fieldOn triggered ∧
      0 < 4 ∧
      State.flag triggered (Obj.CameraPort.enable 0) = true ∧
      (List.find? (fun g => g.camera == 0 && match g.due with | some d => decide (d ≤ max triggered.now 10) | none => false) triggered.sched.trigs = some trig0) ∧
      (State.cam triggered 0).pulse = none ∧
      (∀ (b : Nat), (State.cam triggered 0).pulseEnd = some b → b + 10 * State.nat triggered (Obj.TriggerConfig.trigWidth 0) ≤ max triggered.now 10)) ∧
    (State.fieldOn (pulsing 5) ∧
      State.flag (pulsing 5) (Obj.CameraPort.enable 0) = true ∧
      (List.find? (fun g => g.camera == 0 && match g.due with | some d => decide (d ≤ max (pulsing 5).now 10) | none => false) (pulsing 5).sched.trigs = some trig0) ∧
      (State.cam (pulsing 5) 0).pulse = some 5 ∧
      max (pulsing 5).now 10 < 5 + 2 * (10 * State.nat (pulsing 5) (Obj.TriggerConfig.trigWidth 0)) ∧
      trig0.spaced = false) ∧
    (5 + 10 * State.nat (pulsing 5) (Obj.TriggerConfig.trigWidth 0) ≤ max (pulsing 5).now 100000000) ∧
    (State.fieldOn expecting ∧
      (∃ e, e ∈ (State.cam expecting 0).expects ∧ (fun e => decide (e.tp + 1000 * State.num expecting (Obj.TriggerConfig.windowMax 0) ≤ TimeBase.ns (State.tickTo expecting 10000000000000).tim.slave)) e = true)) := by
  refine ⟨⟨?_, ?_, ?_, ?_, ?_, ?_⟩, ⟨?_, ?_, ?_, ?_, ?_, ?_⟩, ?_, ⟨?_, ?_⟩⟩ <;>
    first | decide +kernel | exact opt_all _ (by decide +kernel) | (unfold State.fieldOn; decide +kernel) | (unfold State.hostOn; decide +kernel) | (unfold State.noEpisode; decide +kernel) | exact ⟨by decide +kernel, by decide +kernel, ok_of (by decide +kernel)⟩ | rfl
/-- The hypotheses of each clause of `FramesAreMatchedAndStored` are met. -/
theorem witness_FramesAreMatchedAndStored :
    (State.fieldOn expecting ∧
      0 < 4 ∧
      0 < State.nCams expecting ∧
      State.flag expecting (Obj.CameraPort.enable 0) = true ∧
      (startHead 0).ecc ≤ 1 ∧
      (startHead 0).vc = State.nat expecting (Obj.CameraPort.imageVc 0) ∧
      (startHead 0).vcx = 0 ∧
      (State.cam expecting 0).frame = none ∧
      List.length (State.cam expecting 0).ring < State.nat expecting (Obj.CameraPort.ringFrames 0) ∧
      (List.find? (fun e => decide (1000 * State.num expecting (Obj.TriggerConfig.windowMin 0) ≤ TimeBase.ns (State.tickTo expecting 200000).tim.slave - e.tp ∧ TimeBase.ns (State.tickTo expecting 200000).tim.slave - e.tp ≤ 1000 * State.num expecting (Obj.TriggerConfig.windowMax 0))) (State.cam expecting 0).expects = some exp0) ∧
      (startHead 0).ecc = 0) ∧
    ((startHead 1).ecc ≤ 1 ∧
      (startHead 1).vc = State.nat expecting (Obj.CameraPort.imageVc 0) ∧
      (startHead 1).vcx = 0 ∧
      (startHead 1).ecc = 1) ∧
    (State.fieldOn (live eye) ∧
      0 < State.nCams (live eye) ∧
      State.flag (live eye) (Obj.CameraPort.enable 0) = true ∧
      (startHead 0).vc = State.nat (live eye) (Obj.CameraPort.imageVc 0) ∧
      (State.cam (live eye) 0).frame = none ∧
      (∀ (e : Expect), e ∈ (State.cam (live eye) 0).expects → ¬(1000 * State.num (live eye) (Obj.TriggerConfig.windowMin 0) ≤ TimeBase.ns (State.tickTo (live eye) 200000).tim.slave - e.tp ∧ TimeBase.ns (State.tickTo (live eye) 200000).tim.slave - e.tp ≤ 1000 * State.num (live eye) (Obj.TriggerConfig.windowMax 0)))) ∧
    (State.fieldOn (framing (frameOf [])) ∧
      0 < State.nCams (framing (frameOf [])) ∧
      State.flag (framing (frameOf [])) (Obj.CameraPort.enable 0) = true ∧
      (rawHead 12).ecc = 0 ∧
      (rawHead 12).vc = State.nat (framing (frameOf [])) (Obj.CameraPort.imageVc 0) ∧
      (rawHead 12).vcx = 0 ∧
      (rawHead 12).dt = State.nat (framing (frameOf [])) (Obj.CameraPort.dataType 0) ∧
      3 < (rawHead 12).dt ∧
      (State.cam (framing (frameOf [])) 0).frame = some (frameOf []) ∧
      (frameOf []).accepted = true ∧
      List.length (frameOf []).rows < Frame.height (frameOf []) ∧
      ((rawHead 12).wordCount == Frame.width (frameOf []) * pixelBits (rawHead 12).dt / 8 && true && List.length (leBytes 12 77) == (rawHead 12).wordCount) = true) ∧
    (((rawHead 12).wordCount == Frame.width (frameOf []) * pixelBits (rawHead 12).dt / 8 && false && List.length (leBytes 12 77) == (rawHead 12).wordCount) = false) ∧
    (State.fieldOn (framing (frameOf [row, row])) ∧
      0 < State.nCams (framing (frameOf [row, row])) ∧
      State.flag (framing (frameOf [row, row])) (Obj.CameraPort.enable 0) = true ∧
      (rawHead 12).vc = State.nat (framing (frameOf [row, row])) (Obj.CameraPort.imageVc 0) ∧
      (rawHead 12).dt = State.nat (framing (frameOf [row, row])) (Obj.CameraPort.dataType 0) ∧
      (State.cam (framing (frameOf [row, row])) 0).frame = some (frameOf [row, row]) ∧
      (frameOf [row, row]).accepted = true ∧
      Frame.height (frameOf [row, row]) ≤ List.length (frameOf [row, row]).rows ∧
      (frameOf [row, row]).long = false) ∧
    ((2 ≤ ({ rawHead 8 with ecc := 2 }).ecc ∨ ({ rawHead 8 with ecc := 2 }).ecc = 0 ∧ (({ rawHead 8 with ecc := 2 }).vc ≠ State.nat (live eye) (Obj.CameraPort.imageVc 0) ∨ ({ rawHead 8 with ecc := 2 }).vcx ≠ 0 ∨ ({ rawHead 8 with ecc := 2 }).dt ≠ State.nat (live eye) (Obj.CameraPort.dataType 0) ∧ 3 < ({ rawHead 8 with ecc := 2 }).dt))) ∧
    ((2 ≤ ({ rawHead 8 with vc := 1 }).ecc ∨ ({ rawHead 8 with vc := 1 }).ecc = 0 ∧ (({ rawHead 8 with vc := 1 }).vc ≠ State.nat (live eye) (Obj.CameraPort.imageVc 0) ∨ ({ rawHead 8 with vc := 1 }).vcx ≠ 0 ∨ ({ rawHead 8 with vc := 1 }).dt ≠ State.nat (live eye) (Obj.CameraPort.dataType 0) ∧ 3 < ({ rawHead 8 with vc := 1 }).dt))) ∧
    ((frameOf [row, row]).inLine = false ∧
      State.waits (framing (frameOf [row, row])) BlockKind.camera 0 = false ∧
      endHead.ecc = 0 ∧
      endHead.vc = State.nat (framing (frameOf [row, row])) (Obj.CameraPort.imageVc 0) ∧
      endHead.vcx = 0 ∧
      (State.cam (framing (frameOf [row, row])) 0).packet + 10000 * State.nat (framing (frameOf [row, row])) (Obj.CameraPort.frameTimeout 0) ≤ max (framing (frameOf [row, row])).now 100000000000) ∧
    (State.fieldOn (framing (frameOf [row])) ∧
      (State.cam (framing (frameOf [row])) 0).frame = some (frameOf [row]) ∧
      (frameOf [row]).inLine = false ∧
      (frameOf [row]).accepted = true ∧
      State.waits (framing (frameOf [row])) BlockKind.camera 0 = false ∧
      0 < State.nCams (framing (frameOf [row])) ∧
      State.flag (framing (frameOf [row])) (Obj.CameraPort.enable 0) = true ∧
      endHead.vc = State.nat (framing (frameOf [row])) (Obj.CameraPort.imageVc 0) ∧
      List.length (frameOf [row]).rows < Frame.height (frameOf [row]) ∧
      (State.cam (framing (frameOf [row])) 0).packet + 10000 * State.nat (framing (frameOf [row])) (Obj.CameraPort.frameTimeout 0) ≤ max (framing (frameOf [row])).now 100000000000) ∧
    (State.fieldOn ringed ∧
      (List.foldl (fun m f => match m with | none => some f | some g => if f.start < g.start then some f else some g) none (List.flatMap (fun c => List.filter (fun f => !f.done && !f.inLine) (State.cam ringed c).ring) (List.range 4)) = some (frameOf [row, row]))) := by
  refine ⟨⟨?_, ?_, ?_, ?_, ?_, ?_, ?_, ?_, ?_, ?_, ?_⟩, ⟨?_, ?_, ?_, ?_⟩, ⟨?_, ?_, ?_, ?_, ?_, ?_⟩, ⟨?_, ?_, ?_, ?_, ?_, ?_, ?_, ?_, ?_, ?_, ?_, ?_⟩, ?_, ⟨?_, ?_, ?_, ?_, ?_, ?_, ?_, ?_, ?_⟩, ?_, ?_, ⟨?_, ?_, ?_, ?_, ?_, ?_⟩, ⟨?_, ?_, ?_, ?_, ?_, ?_, ?_, ?_, ?_, ?_⟩, ⟨?_, ?_⟩⟩ <;>
    first | decide +kernel | exact opt_all _ (by decide +kernel) | (unfold State.fieldOn; decide +kernel) | (unfold State.hostOn; decide +kernel) | (unfold State.noEpisode; decide +kernel) | exact ⟨by decide +kernel, by decide +kernel, ok_of (by decide +kernel)⟩ | rfl
/-- The hypotheses of each clause of `CameraPortsStartAndStop` are met. -/
theorem witness_CameraPortsStartAndStop :
    (0 < 4 ∧
      State.accepts (rated noEye) ope (Obj.CameraPort.enable 0) [1#8] (Val.num 1) ∧
      State.flag (rated noEye) (Obj.CameraPort.enable 0) = false ∧
      coversOk (overlay (rated noEye).dict [(Obj.CameraPort.enable 0, Val.num 1)]) = true ∧
      ((rated noEye).pow.state = 2 ∨ max (State.needNow (rated noEye)).fst (State.cameraNeed (rated noEye) (State.inLine (rated noEye)) (State.inLine (rated noEye) == 0 || State.flag (rated noEye) (Obj.CameraPort.enable (State.inLine (rated noEye))))) ≤ State.opFreq (rated noEye) (State.nat (rated noEye) Obj.Dvfs.opInForce))) ∧
    (1 < 4 ∧
      State.accepts twoEyes ope (Obj.CameraPort.enable 1) [1#8] (Val.num 1) ∧
      State.flag twoEyes (Obj.CameraPort.enable 1) = false ∧
      coversOk (overlay twoEyes.dict [(Obj.CameraPort.enable 1, Val.num 1)]) = false) ∧
    (State.accepts (framing (frameOf [row])) ope (Obj.CameraPort.enable 0) [0#8] (Val.num 0) ∧
      State.flag (framing (frameOf [row])) (Obj.CameraPort.enable 0) = true ∧
      (∀ (k : Nat), k < 4 → (State.anaOf (framing (frameOf [row])) k).wins = [])) ∧
    (State.accepts noEye ope (Obj.CameraPort.enable 0) [0#8] (Val.num 0) ∧
      (∀ (k : Nat), k < 4 → (State.anaOf noEye k).wins = [])) ∧
    (State.accepts ringed ope (Obj.CameraPort.reset 0) [1#8] (Val.num 1) ∧
      (State.cam ringed 0).frame = none) ∧
    (State.accepts (framing (frameOf [row])) ope (Obj.CameraPort.reset 0) [1#8] (Val.num 1) ∧
      Option.isSome (State.cam (framing (frameOf [row])) 0).frame = true) ∧
    (State.accepts (rated (live eye)) ope Obj.CameraSelect.inLineCamera [0#8] (Val.num 0) ∧
      ((rated (live eye)).pow.state = 2 ∨ max (State.needNow (rated (live eye))).fst (State.cameraNeed (rated (live eye)) 0 (State.flag (rated (live eye)) (Obj.CameraPort.enable 0))) ≤ State.opFreq (rated (live eye)) (State.nat (rated (live eye)) Obj.Dvfs.opInForce))) ∧
    (State.accepts (rated (live eye)) ope Obj.CameraSelect.inLineCamera [3#8] (Val.num 3) ∧
      ((rated (live eye)).pow.state = 2 ∨ max (State.needNow (rated (live eye))).fst (State.cameraNeed (rated (live eye)) 3 (State.flag (rated (live eye)) (Obj.CameraPort.enable 3))) ≤ State.opFreq (rated (live eye)) (State.nat (rated (live eye)) Obj.Dvfs.opInForce))) ∧
    (State.fieldOn flatting ∧
      (List.find? (fun p => p.fst == 0) flatting.cal.flats = some (0, { start := 0, frames := 1, sums := [], rows := 2 })) ∧
      ({ start := 0, frames := 1, sums := [], rows := 2 } : FlatRun).start + 10 ^ 11 ≤ max flatting.now 200000000000) := by
  refine ⟨⟨?_, ?_, ?_, ?_, ?_⟩, ⟨?_, ?_, ?_, ?_⟩, ⟨?_, ?_, ?_⟩, ⟨?_, ?_⟩, ⟨?_, ?_⟩, ⟨?_, ?_⟩, ⟨?_, ?_⟩, ⟨?_, ?_⟩, ⟨?_, ?_, ?_⟩⟩ <;>
    first | decide +kernel | exact opt_all _ (by decide +kernel) | (unfold State.fieldOn; decide +kernel) | (unfold State.hostOn; decide +kernel) | (unfold State.noEpisode; decide +kernel) | exact ⟨by decide +kernel, by decide +kernel, ok_of (by decide +kernel)⟩ | rfl
/-- The hypotheses of each clause of `GenerationsAreWrittenOrFail` are met. -/
theorem witness_GenerationsAreWrittenOrFail :
    (0 < 4 ∧
      State.accepts (live eye) ope (Obj.SensorControl.generationWrite 0) recs (Val.bytes recs) ∧
      List.all (chunks 8 128 recs) genRecordOk = true ∧
      List.length (State.cam (live eye) 0).queue < 16) ∧
    (State.accepts (genning (List.replicate 16 (gen0 [recs]))) ope (Obj.SensorControl.generationWrite 0) recs (Val.bytes recs) ∧
      16 ≤ List.length (State.cam (genning (List.replicate 16 (gen0 [recs]))) 0).queue) ∧
    (State.fieldOn (genning [gen0 [recs]]) ∧
      (State.cam (genning [gen0 [recs]]) 0).queue = [gen0 [recs]] ∧
      (gen0 [recs]).recs = [recs] ∧
      busError (bus0 true) (State.nat (genning [gen0 [recs]]) (Obj.SensorControl.i2cTimeout 0)) = true) ∧
    (busError (bus0 false) (State.nat (genning [gen0 [recs]]) (Obj.SensorControl.i2cTimeout 0)) = false) ∧
    (State.fieldOn (genning [gen0 [recs, recs]]) ∧
      (State.cam (genning [gen0 [recs, recs]]) 0).queue = [gen0 [recs, recs]] ∧
      (gen0 [recs, recs]).recs = [recs, recs] ∧
      busError (bus0 false) (State.nat (genning [gen0 [recs, recs]]) (Obj.SensorControl.i2cTimeout 0)) = false ∧
      [recs] ≠ []) := by
  refine ⟨⟨?_, ?_, ?_, ?_⟩, ⟨?_, ?_⟩, ⟨?_, ?_, ?_, ?_⟩, ?_, ⟨?_, ?_, ?_, ?_, ?_⟩⟩ <;>
    first | decide +kernel | exact opt_all _ (by decide +kernel) | (unfold State.fieldOn; decide +kernel) | (unfold State.hostOn; decide +kernel) | (unfold State.noEpisode; decide +kernel) | exact ⟨by decide +kernel, by decide +kernel, ok_of (by decide +kernel)⟩ | rfl
/-- The hypotheses of each clause of `InspectionWindowsClose` are met. -/
theorem witness_InspectionWindowsClose :
    (State.fieldOn windowed ∧
      0 < 4 ∧
      bit (State.nat windowed Obj.AnalysisControl.renderActive) 0 = true ∧
      State.flag windowed (Obj.CameraPort.enable 0) = true ∧
      (List.find? (fun w => !List.contains w.closed 0) (State.anaOf windowed 0).wins = some win0) ∧
      State.windowPassed (State.tickTo windowed 10) 0 0 win0 = true ∧
      State.allClosed windowed { idx := win0.idx, first := win0.first, lines := win0.lines, cfg := win0.cfg, closed := win0.closed ++ [0], parts := win0.parts, stats := win0.stats, cx := win0.cx, cy := win0.cy } = true) ∧
    (State.accepts windowed ope Obj.AnalysisControl.planeMask [1#8] (Val.num 1) ∧
      (∀ (k : Nat), k < 4 → bit 1 k = true → State.flag windowed (Obj.PlaneConfig.enable k) = true → bit (State.nat windowed Obj.AnalysisControl.renderActive) k = true)) ∧
    (State.accepts windowed ope Obj.AnalysisControl.planeMask [0#8] (Val.num 0) ∧
      (∀ (k : Nat), k < 4 → bit 0 k = true → State.flag windowed (Obj.PlaneConfig.enable k) = true → bit (State.nat windowed Obj.AnalysisControl.renderActive) k = true)) ∧
    (State.fieldOn windowed2 ∧
      bit (State.nat windowed2 Obj.AnalysisControl.renderActive) 0 = true ∧
      State.flag windowed2 (Obj.CameraPort.enable 0) = true ∧
      (List.find? (fun w => !List.contains w.closed 0) (State.anaOf windowed2 0).wins = some win0) ∧
      State.windowPassed (State.tickTo windowed2 10) 0 0 win0 = true ∧
      State.allClosed windowed2 { idx := win0.idx, first := win0.first, lines := win0.lines, cfg := win0.cfg, closed := win0.closed ++ [0], parts := win0.parts, stats := win0.stats, cx := win0.cx, cy := win0.cy } = false) ∧
    (State.accepts (unwatched 0 0) ope Obj.AnalysisControl.planeMask [1#8] (Val.num 1) ∧
      bit 1 0 = true ∧
      State.flag (unwatched 0 0) (Obj.PlaneConfig.enable 0) = true ∧
      bit (State.nat (unwatched 0 0) Obj.AnalysisControl.renderActive) 0 = false ∧
      (∀ (j : Nat), j < 4 → j ≠ 0 → bit 1 j = bit (State.nat (unwatched 0 0) Obj.AnalysisControl.renderActive) j) ∧
      State.startAnalysis (State.setVal (State.tickTo (unwatched 0 0) 10) Obj.AnalysisControl.planeMask (Val.num 1)) 0 = some (Option.getD (State.startAnalysis (State.setVal (State.tickTo (unwatched 0 0) 10) Obj.AnalysisControl.planeMask (Val.num 1)) 0) State.reset)) ∧
    (State.accepts (unwatched 0 64) ope Obj.AnalysisControl.planeMask [1#8] (Val.num 1) ∧
      State.flag (unwatched 0 64) (Obj.PlaneConfig.enable 0) = true ∧
      bit (State.nat (unwatched 0 64) Obj.AnalysisControl.renderActive) 0 = false ∧
      (∀ (j : Nat), j < 4 → j ≠ 0 → bit 1 j = bit (State.nat (unwatched 0 64) Obj.AnalysisControl.renderActive) j) ∧
      State.startAnalysis (State.setVal (State.tickTo (unwatched 0 64) 10) Obj.AnalysisControl.planeMask (Val.num 1)) 0 = none) := by
  refine ⟨⟨?_, ?_, ?_, ?_, ?_, ?_, ?_⟩, ⟨?_, ?_⟩, ⟨?_, ?_⟩, ⟨?_, ?_, ?_, ?_, ?_, ?_⟩, ⟨?_, ?_, ?_, ?_, ?_, ?_⟩, ⟨?_, ?_, ?_, ?_, ?_⟩⟩ <;>
    first | decide +kernel | exact opt_all _ (by decide +kernel) | (unfold State.fieldOn; decide +kernel) | (unfold State.hostOn; decide +kernel) | (unfold State.noEpisode; decide +kernel) | exact ⟨by decide +kernel, by decide +kernel, ok_of (by decide +kernel)⟩ | rfl
end Eyes

/-! ### DRAM (spec/12) -/

namespace Ram
def dram : List (Nat × Int) := bar ++ [(Obj.DramStatus.refreshInterval 0, 3900), (Obj.DramPolicy.postponeBelow, 50)]
def cold : State := live dram
def owing : State := live (dram ++ [(Obj.DramStatus.owed 0, 2)])
def hot1 : State := (live (dram ++ [(Obj.DramStatus.hot 0, 1)])).setSub 0 { Sub.init with cool := 1 }
def hammered (n : Nat) : State := cold.setSub 0 { Sub.init with tables := [(3, [⟨0, 100, n⟩])] }
def atStep6 : State := let s := live []; { s with rst := { s.rst with fieldStep := 6 } }
def sweep (lo hi : Nat) : LaneSweep := { readLo := lo, readHi := hi, writeLo := lo, writeHi := hi }
/-- Every Vref value of every lane passes from `lo` to `hi`. -/
def trained (lo hi : Nat) : TrainResult := let l := List.replicate 8 (2 ^ (hi + 1) - 2 ^ lo); { lanes := List.replicate 5 { read := l, write := l }, steps := [1, 1, 1, 1] }
def due2 : CalDue := { subj := 2, inst := 0, since := 0, warned := false }
def retrainDue : State := let s := cold; { s with cal := { s.cal with due := [due2] } }
def retraining : State := live (dram ++ [(Obj.DramStatus.state 0, 4)]) |>.setVal (Obj.DramStatus.eyeMap 0) (.bytes (List.replicate 10 [35#8, 15#8]).flatten)
/-- The hypotheses of each clause of `DramRefreshesAndReads` are met. -/
theorem witness_DramRefreshesAndReads :
    (State.fieldOn cold ∧
      0 < 4 ∧
      State.serving cold 0 = true ∧
      (State.subch cold 0).due ≤ max cold.now 10 ∧
      (State.flag cold (Obj.DramStatus.hot 0) = false ∧ State.subState cold 0 = 3 ∧ 0 < State.nat cold Obj.DramPolicy.postponeBelow ∧ State.nat cold (Obj.DramStatus.owed 0) < 4)) ∧
    (3 < 4 ∧
      State.serving cold 3 = true ∧
      (State.subch cold 3).due ≤ max cold.now 10 ∧
      (¬(State.flag cold (Obj.DramStatus.hot 3) = false ∧ State.subState cold 3 = 3 ∧ 90 < State.nat cold Obj.DramPolicy.postponeBelow ∧ State.nat cold (Obj.DramStatus.owed 3) < 4))) ∧
    (State.fieldOn owing ∧
      State.serving owing 0 = true ∧
      0 < State.nat owing (Obj.DramStatus.owed 0) ∧
      State.nat owing Obj.DramPolicy.postponeBelow ≤ 90) ∧
    ((State.subch owing 0).polled + 10000 * State.nat owing Obj.DramPolicy.tempPoll ≤ max owing.now 100000000000 ∧
      true ∈ [true] ∧
      State.flag owing (Obj.DramStatus.hot 0) = false) ∧
    (State.fieldOn hot1 ∧
      State.serving hot1 0 = true ∧
      (State.subch hot1 0).polled + 10000 * State.nat hot1 Obj.DramPolicy.tempPoll ≤ max hot1.now 100000000000 ∧
      (¬true ∈ [false, false]) ∧
      State.flag hot1 (Obj.DramStatus.hot 0) = true ∧
      (State.subch hot1 0).cool = 1) ∧
    (State.fieldOn (hammered 5) ∧
      State.serving (hammered 5) 0 = true ∧
      3 < 32 ∧
      (hammerAct (State.nat (hammered 5) Obj.DramPolicy.hammerThreshold) 0 100 (smGet (fun x => []) (State.subch (hammered 5) 0).tables 3) = ([{ rank := 0, row := 100, count := 6 }], false))) ∧
    (State.fieldOn (hammered (State.nat (live dram) Obj.DramPolicy.hammerThreshold)) ∧
      State.serving (hammered (State.nat (live dram) Obj.DramPolicy.hammerThreshold)) 0 = true ∧
      (hammerAct (State.nat (hammered (State.nat (live dram) Obj.DramPolicy.hammerThreshold)) Obj.DramPolicy.hammerThreshold) 0 100 (smGet (fun x => []) (State.subch (hammered (State.nat (live dram) Obj.DramPolicy.hammerThreshold)) 0).tables 3) = ([{ rank := 0, row := 100, count := 0 }], true))) ∧
    (State.fieldOn (State.setSub cold 0 ({ Sub.init with errs := List.replicate 300 5 })) ∧
      State.serving (State.setSub cold 0 ({ Sub.init with errs := List.replicate 300 5 })) 0 = true ∧
      (State.nat (State.setSub cold 0 ({ Sub.init with errs := List.replicate 300 5 })) Obj.DramPolicy.ueLimit < List.length (List.filter (fun e => decide (max (State.setSub cold 0 ({ Sub.init with errs := List.replicate 300 5 })).now 10 < e + 10 ^ 7)) (State.subch (State.setSub cold 0 ({ Sub.init with errs := List.replicate 300 5 })) 0).errs) + 1)) := by
  refine ⟨⟨?_, ?_, ?_, ?_, ?_⟩, ⟨?_, ?_, ?_, ?_⟩, ⟨?_, ?_, ?_, ?_⟩, ⟨?_, ?_, ?_⟩, ⟨?_, ?_, ?_, ?_, ?_, ?_⟩, ⟨?_, ?_, ?_, ?_⟩, ⟨?_, ?_, ?_⟩, ⟨?_, ?_, ?_⟩⟩ <;>
    first | decide +kernel | exact opt_all _ (by decide +kernel) | (unfold State.fieldOn; decide +kernel) | (unfold State.hostOn; decide +kernel) | (unfold State.noEpisode; decide +kernel) | exact ⟨by decide +kernel, by decide +kernel, ok_of (by decide +kernel)⟩ | rfl
/-- The hypotheses of each clause of `DramTrainsAndRetrains` are met. -/
theorem witness_DramTrainsAndRetrains :
    (State.fieldOn atStep6 ∧
      atStep6.rst.fieldStep = 6 ∧
      atStep6.rst.field.run = true ∧
      (∀ (v : Nat), v < 4 → v < State.nSub atStep6 → (fun v => match (List.replicate 4 (trained 10 60))[v]? with | some r => dramSupported (State.nat atStep6 Obj.DramConfig.ranks) (State.nat atStep6 Obj.DramConfig.density) (State.nat atStep6 Obj.DramConfig.dataRate) && trainGood r (List.getD [1, 1] (v / 2) 0) (State.nat atStep6 Obj.DramPolicy.minEyeWidth) | none => false) v = true)) ∧
    (State.fieldOn retrainDue ∧
      0 < 4 ∧
      State.isDue retrainDue 2 0 = true ∧
      State.calFirst retrainDue 2 0 = true ∧
      State.subState retrainDue 0 = 3 ∧
      (∀ (j : Nat), j < 4 → State.subState retrainDue j ≠ 4) ∧
      (∀ (e : Nat), retrainDue.cal.retrained = some e → e + 10 ^ 7 ≤ max retrainDue.now 10) ∧
      (75 ≤ 80 ∨ State.anyPlane retrainDue = false)) ∧
    (State.fieldOn retraining ∧
      State.subState retraining 0 = 4 ∧
      List.length (List.replicate 5 (sweep 28 42)) = 5 ∧
      ((List.all (List.replicate 5 (sweep 28 42)) fun x => laneWide x (State.nat retraining Obj.DramPolicy.minEyeWidth)) = false)) ∧
    (List.length (List.replicate 5 (sweep 33 34)) = 5 ∧
      ((List.all (List.replicate 5 (sweep 33 34)) fun x => laneWide x (State.nat retraining Obj.DramPolicy.minEyeWidth)) = false)) ∧
    (List.length (List.replicate 5 (sweep 5 60)) = 5 ∧
      ((List.all (List.replicate 5 (sweep 5 60)) fun x => laneWide x (State.nat retraining Obj.DramPolicy.minEyeWidth)) = true) ∧
      max retraining.now 10 ≤ (State.subch retraining 0).retrain + 480000 ∧
      ((State.subch retraining 0).retrain + 480000 < max retraining.now 10 ∨ (fun n => List.all (List.zipIdx (List.replicate 5 (sweep 5 60))) fun p => windowOk (fld (eyeMapOf (State.byt retraining (Obj.DramStatus.eyeMap 0))) (4 * p.snd) 1) p.fst.readLo p.fst.readHi n && windowOk (fld (eyeMapOf (State.byt retraining (Obj.DramStatus.eyeMap 0))) (4 * p.snd + 2) 1) p.fst.writeLo p.fst.writeHi n) (State.nat retraining Obj.CalLimits.dramMaxShift) = false ∨ (fun n => List.all (List.zipIdx (List.replicate 5 (sweep 5 60))) fun p => windowOk (fld (eyeMapOf (State.byt retraining (Obj.DramStatus.eyeMap 0))) (4 * p.snd) 1) p.fst.readLo p.fst.readHi n && windowOk (fld (eyeMapOf (State.byt retraining (Obj.DramStatus.eyeMap 0))) (4 * p.snd + 2) 1) p.fst.writeLo p.fst.writeHi n) 255 = false)) := by
  refine ⟨⟨?_, ?_, ?_, ?_⟩, ⟨?_, ?_, ?_, ?_, ?_, ?_, ?_, ?_⟩, ⟨?_, ?_, ?_, ?_⟩, ⟨?_, ?_⟩, ⟨?_, ?_, ?_, ?_⟩⟩ <;>
    first | decide +kernel | exact opt_all _ (by decide +kernel) | (unfold State.fieldOn; decide +kernel) | (unfold State.hostOn; decide +kernel) | (unfold State.noEpisode; decide +kernel) | exact ⟨by decide +kernel, by decide +kernel, ok_of (by decide +kernel)⟩ | rfl
end Ram

/-! ### Compression (spec/13) -/

namespace Coding
/-- Session 0 owns ring 0, an archive ring; 100 archive blocks are free. -/
def comp : List (Nat × Int) := bar ++ [(Obj.Session.state 0, 1), (Obj.Session.rings 0, 1), (Obj.Ring.direction 0, 1), (Obj.CompressionControl.archiveBlocksFree, 100)]
def region1 : Bytes := List.replicate 24 0#8 ++ leBytes 8 (2 ^ 20) ++ List.replicate 64 0#8
def pressing : State := (live comp).setVal Obj.RegionMap.regionTable (.bytes region1)
def descriptor (mode : Nat) : Bytes := leBytes 4 9 ++ leBytes 1 1 ++ leBytes 1 mode ++ leBytes 1 0 ++ leBytes 1 0 ++ leBytes 8 0 ++ leBytes 4 3 ++ leBytes 4 2 ++ leBytes 2 0 ++ leBytes 2 0 ++ leBytes 4 77
def job9 (mode : Nat) : Job := { newJob 9 (some 0) 0 3 (2 * archiveBlock) with region := 1, mode := mode, tag := 77 }
def queued9 : State := pressing.setChan 0 { CompChan.init with queue := [job9 0] }
def running9 (mode : Nat) : State := pressing.setChan 0 { CompChan.init with run := some (job9 mode) }
/-- Job 9 with 70,000 input bytes has stopped with one byte left to write. -/
def stopJob : Job := { job9 0 with len := 70000, rest := [1#8], held := 32768, room := 0 }
def stopped9 : State := let s := pressing.setChan 0 { CompChan.init with run := some stopJob, stopAt := some 0 }; { s with span := { s.span with lostF := true } }
/-- The hypotheses of each clause of `CompressionJobsRun` are met (for the encoder and the verifier that the premises name). -/
theorem witness_CompressionJobsRun
    (h1 : Config.deflateBody (deep 0) 1 (job9 0).level (job9 0).hist [1#8, 2#8, 3#8] (decide ((job9 0).len ≤ (job9 0).consumed + List.length [1#8, 2#8, 3#8])) = [])
    (h2 : Config.deflateBody (deep 0) 2 (job9 1).level (job9 1).hist [1#8, 2#8, 3#8] (decide ((job9 1).len ≤ (job9 1).consumed + List.length [1#8, 2#8, 3#8])) = List.replicate 348 false) :
    (0 < 8 ∧
      State.accepts pressing ope (Obj.Channel.submit 0) (descriptor 0) (Val.bytes (descriptor 0)) ∧
      State.submitAbort pressing ope.sess 0 (descriptor 0) = 0) ∧
    (State.accepts pressing ope (Obj.Channel.submit 0) (descriptor 7) (Val.bytes (descriptor 7)) ∧
      State.submitAbort pressing ope.sess 0 (descriptor 7) ≠ 0) ∧
    (State.fieldOn queued9 ∧
      (State.chan queued9 0).run = none ∧
      (State.chan queued9 0).queue = [job9 0]) ∧
    (State.fieldOn (running9 0) ∧
      (State.chan (running9 0) 0).run = some (job9 0) ∧
      (State.chan (running9 0) 0).stopAt = none ∧
      State.waits (running9 0) BlockKind.channel 0 = false) ∧
    (List.length [1#8, 2#8, 3#8] = min 32768 ((job9 0).len - (job9 0).consumed) ∧
      0 < (job9 0).len ∧
      ((job9 0).frame = none ∨ [1#8, 2#8, 3#8] = sub (job9 0).input (job9 0).consumed (min 32768 ((job9 0).len - (job9 0).consumed))) ∧
      List.length (deflated (deep 0) (job9 0).mode (job9 0).level (job9 0).hist [1#8, 2#8, 3#8] (decide ((job9 0).len ≤ (job9 0).consumed + List.length [1#8, 2#8, 3#8]))) < List.length (storedBits (List.length (job9 0).bits) (decide ((job9 0).len ≤ (job9 0).consumed + List.length [1#8, 2#8, 3#8])) [1#8, 2#8, 3#8]) ∧
      verifyBlock (job9 0).hist [1#8, 2#8, 3#8] (decide ((job9 0).len ≤ (job9 0).consumed + List.length [1#8, 2#8, 3#8])) (deflated (deep 0) (job9 0).mode (job9 0).level (job9 0).hist [1#8, 2#8, 3#8] (decide ((job9 0).len ≤ (job9 0).consumed + List.length [1#8, 2#8, 3#8]))) = false) ∧
    (State.fieldOn (running9 1) ∧
      (State.chan (running9 1) 0).run = some (job9 1) ∧
      (State.chan (running9 1) 0).stopAt = none ∧
      List.length [1#8, 2#8, 3#8] = min 32768 ((job9 1).len - (job9 1).consumed) ∧
      0 < (job9 1).len ∧
      ((job9 1).frame = none ∨ [1#8, 2#8, 3#8] = sub (job9 1).input (job9 1).consumed (min 32768 ((job9 1).len - (job9 1).consumed))) ∧
      List.length (job9 1).fill < archiveBlock ∧
      (List.length (storedBits (List.length (job9 1).bits) (decide ((job9 1).len ≤ (job9 1).consumed + List.length [1#8, 2#8, 3#8])) [1#8, 2#8, 3#8]) ≤ List.length (deflated (deep 0) (job9 1).mode (job9 1).level (job9 1).hist [1#8, 2#8, 3#8] (decide ((job9 1).len ≤ (job9 1).consumed + List.length [1#8, 2#8, 3#8]))) ∨ verifyBlock (job9 1).hist [1#8, 2#8, 3#8] (decide ((job9 1).len ≤ (job9 1).consumed + List.length [1#8, 2#8, 3#8])) (deflated (deep 0) (job9 1).mode (job9 1).level (job9 1).hist [1#8, 2#8, 3#8] (decide ((job9 1).len ≤ (job9 1).consumed + List.length [1#8, 2#8, 3#8]))) = true) ∧
      (List.length (job9 1).bits + min (List.length (storedBits (List.length (job9 1).bits) (decide ((job9 1).len ≤ (job9 1).consumed + List.length [1#8, 2#8, 3#8])) [1#8, 2#8, 3#8])) (List.length (deflated (deep 0) (job9 1).mode (job9 1).level (job9 1).hist [1#8, 2#8, 3#8] (decide ((job9 1).len ≤ (job9 1).consumed + List.length [1#8, 2#8, 3#8])))) + 7) / 8 ≤ (job9 1).room ∧
      List.length (storedBits (List.length (job9 1).bits) (decide ((job9 1).len ≤ (job9 1).consumed + List.length [1#8, 2#8, 3#8])) [1#8, 2#8, 3#8]) ≤ List.length (deflated (deep 0) (job9 1).mode (job9 1).level (job9 1).hist [1#8, 2#8, 3#8] (decide ((job9 1).len ≤ (job9 1).consumed + List.length [1#8, 2#8, 3#8]))) ∧
      decide ((job9 1).len ≤ (job9 1).consumed + List.length [1#8, 2#8, 3#8]) = true) ∧
    (State.accepts stopped9 ope Obj.CompressionControl.resume (leBytes 4 9 ++ leBytes 4 1) (Val.bytes (leBytes 4 9 ++ leBytes 4 1)) ∧
      fld (leBytes 4 9 ++ leBytes 4 1) 0 4 ≠ 0 ∧
      0 < fld (leBytes 4 9 ++ leBytes 4 1) 4 4 ∧
      fld (leBytes 4 9 ++ leBytes 4 1) 4 4 ≤ 16384 ∧
      State.stoppedChannel stopped9 ope.sess (fld (leBytes 4 9 ++ leBytes 4 1) 0 4) = some 0 ∧
      (State.chan stopped9 0).run = some stopJob ∧
      ↑(fld (leBytes 4 9 ++ leBytes 4 1) 4 4) ≤ State.num stopped9 Obj.CompressionControl.archiveBlocksFree ∧
      List.length stopJob.rest ≤ stopJob.room + fld (leBytes 4 9 ++ leBytes 4 1) 4 4 * archiveBlock ∧
      stopJob.cancel = false ∧
      List.length stopJob.fill < archiveBlock ∧
      stopJob.consumed + stopJob.held < stopJob.len) ∧
    (State.accepts pressing ope Obj.CompressionControl.resume (leBytes 4 9 ++ leBytes 4 1) (Val.bytes (leBytes 4 9 ++ leBytes 4 1)) ∧
      State.stoppedChannel pressing ope.sess (fld (leBytes 4 9 ++ leBytes 4 1) 0 4) = none) ∧
    (State.fieldOn stopped9 ∧
      (State.chan stopped9 0).stopAt = some 0 ∧
      0 + 10 ^ 7 * State.nat stopped9 Obj.CompressionControl.resumeTimeout ≤ max stopped9.now (10 ^ 13)) ∧
    (State.accepts queued9 ope Obj.CompressionControl.cancel (leBytes 4 9) (Val.num 9) ∧
      9 ∈ State.jobIds queued9 ope.sess) ∧
    (State.accepts queued9 ope Obj.CompressionControl.cancel (leBytes 4 8) (Val.num 8) ∧
      (¬8 ∈ State.jobIds queued9 ope.sess)) ∧
    (State.accepts queued9 ope (Obj.Channel.reset 0) [1#8] (Val.num 1) ∧
      ((State.chan queued9 0).run = none ∨ Option.isSome (State.chan queued9 0).stopAt = true)) ∧
    (State.accepts (running9 0) ope (Obj.Channel.reset 0) [1#8] (Val.num 1) ∧
      Option.isSome (State.chan (running9 0) 0).run = true) := by
  refine ⟨⟨?_, ?_, ?_⟩, ⟨?_, ?_⟩, ⟨?_, ?_, ?_⟩, ⟨?_, ?_, ?_, ?_⟩, ⟨?_, ?_, ?_, ?_, ?_⟩, ⟨?_, ?_, ?_, ?_, ?_, ?_, ?_, ?_, ?_, ?_, ?_⟩, ⟨?_, ?_, ?_, ?_, ?_, ?_, ?_, ?_, ?_, ?_, ?_⟩, ⟨?_, ?_⟩, ⟨?_, ?_, ?_⟩, ⟨?_, ?_⟩, ⟨?_, ?_⟩, ⟨?_, ?_⟩, ⟨?_, ?_⟩⟩ <;>
    first | decide +kernel | exact opt_all _ (by decide +kernel) | (unfold State.fieldOn; decide +kernel) | (unfold State.hostOn; decide +kernel) | (unfold State.noEpisode; decide +kernel) | exact ⟨by decide +kernel, by decide +kernel, ok_of (by decide +kernel)⟩ | rfl | (unfold deflated typedBlock; rw [h1]; decide +kernel) | (unfold deflated typedBlock; rw [h2]; decide +kernel)
end Coding

/-! ### The dictionary, groups and images (spec/14) -/

namespace Access
def plain : State := live bar
def noCams : State := plain.setN Obj.Identity.cameraPorts 0
/-- Group 4 holds a staged black level of camera 0. -/
def staging4 : State := plain.setStaged 4 [(Obj.PipelineConfig.blackLevel 0 0, .num 100)]
def badStaged : State := plain.setStaged 4 [(Obj.RegionMap.archiveSize, .num (2 ^ 40))]
/-- A read block of an eye map, and blocks of a write of the nozzle table. -/
def readHead (key off n : Nat) : Bytes := leBytes 2 (key / 256 : Nat) ++ leBytes 1 (key % 256 : Nat) ++ leBytes 1 4 ++ leBytes 4 off ++ leBytes 4 0 ++ leBytes 2 n ++ leBytes 2 0
def writeHead (key flags off total n : Nat) : Bytes := leBytes 2 (key / 256 : Nat) ++ leBytes 1 (key % 256 : Nat) ++ leBytes 1 flags ++ leBytes 4 off ++ leBytes 4 total ++ leBytes 2 n ++ leBytes 2 0
def firstBlock : Bytes := writeHead Obj.NozzleTable.nozzleWrite 1 0 8200 4096 ++ List.replicate 4096 0#8
def nextBlock : Bytes := writeHead Obj.NozzleTable.nozzleWrite 0 9 8200 4 ++ leBytes 4 0
def moving0 : Transfer := { sess := 0, key := Obj.NozzleTable.nozzleWrite, data := leBytes 16 0, total := 8200, last := 0 }
def transferring : State := { plain with groups := { plain.groups with transfers := [moving0] } }
def saving : State := { plain with flash := { plain.flash with saving := some (1, [1#8, 2#8]) } }
/-- The hypotheses of each clause of `ObjectsAreReadAndWritten` are met. -/
theorem witness_ObjectsAreReadAndWritten :
    (12336 ∈ [8707, 8968, 12320, 12336, 17408, 28673, 40960] ∧
      1 < 256 ∧
      descOf (12336 * 256 + 1) = some (def0 (12336 * 256 + 1)) ∧
      (def0 (12336 * 256 + 1)).acc = Acc.rw ∧
      State.accepts plain ope (12336 * 256 + 1) (encodeVal (def0 (12336 * 256 + 1)).ty (State.val plain (12336 * 256 + 1))) (Val.num (State.num plain (12336 * 256 + 1))) ∧
      relatedOk (smSet objDefault plain.dict (12336 * 256 + 1) (Val.num (State.num plain (12336 * 256 + 1)))) 12336 = true) ∧
    (8707 ∈ [8707, 8968, 12320, 12336, 17408, 28673, 40960] ∧
      descOf (8707 * 256 + 1) = some (def0 (8707 * 256 + 1)) ∧
      (def0 (8707 * 256 + 1)).acc = Acc.rw ∧
      State.accepts plain svc (8707 * 256 + 1) (encodeVal (def0 (8707 * 256 + 1)).ty (State.val plain (8707 * 256 + 1))) (Val.num (State.num plain (8707 * 256 + 1))) ∧
      relatedOk (smSet objDefault plain.dict (8707 * 256 + 1) (Val.num (State.num plain (8707 * 256 + 1)))) 8707 = true) ∧
    (8968 ∈ [8707, 8968, 12320, 12336, 17408, 28673, 40960] ∧
      descOf (8968 * 256 + 1) = some (def0 (8968 * 256 + 1)) ∧
      (def0 (8968 * 256 + 1)).acc = Acc.rw ∧
      State.accepts plain svc (8968 * 256 + 1) (encodeVal (def0 (8968 * 256 + 1)).ty (State.val plain (8968 * 256 + 1))) (Val.num (State.num plain (8968 * 256 + 1))) ∧
      relatedOk (smSet objDefault plain.dict (8968 * 256 + 1) (Val.num (State.num plain (8968 * 256 + 1)))) 8968 = true) ∧
    (12320 ∈ [8707, 8968, 12320, 12336, 17408, 28673, 40960] ∧
      2 < 256 ∧
      descOf (12320 * 256 + 2) = some (def0 (12320 * 256 + 2)) ∧
      (def0 (12320 * 256 + 2)).acc = Acc.rw ∧
      State.accepts plain svc (12320 * 256 + 2) (encodeVal (def0 (12320 * 256 + 2)).ty (State.val plain (12320 * 256 + 2))) (Val.num (State.num plain (12320 * 256 + 2))) ∧
      relatedOk (smSet objDefault plain.dict (12320 * 256 + 2) (Val.num (State.num plain (12320 * 256 + 2)))) 12320 = true) ∧
    (28673 ∈ [8707, 8968, 12320, 12336, 17408, 28673, 40960] ∧
      descOf (28673 * 256 + 1) = some (def0 (28673 * 256 + 1)) ∧
      (def0 (28673 * 256 + 1)).acc = Acc.rw ∧
      State.accepts plain svc (28673 * 256 + 1) (encodeVal (def0 (28673 * 256 + 1)).ty (State.val plain (28673 * 256 + 1))) (Val.num (State.num plain (28673 * 256 + 1))) ∧
      relatedOk (smSet objDefault plain.dict (28673 * 256 + 1) (Val.num (State.num plain (28673 * 256 + 1)))) 28673 = true) ∧
    (40960 ∈ [8707, 8968, 12320, 12336, 17408, 28673, 40960] ∧
      descOf (40960 * 256 + 1) = some (def0 (40960 * 256 + 1)) ∧
      (def0 (40960 * 256 + 1)).acc = Acc.rw ∧
      State.accepts plain svc (40960 * 256 + 1) (encodeVal (def0 (40960 * 256 + 1)).ty (State.val plain (40960 * 256 + 1))) (Val.num (State.num plain (40960 * 256 + 1))) ∧
      relatedOk (smSet objDefault plain.dict (40960 * 256 + 1) (Val.num (State.num plain (40960 * 256 + 1)))) 40960 = true) ∧
    (vendorAccess ope.role 12336 = false ∧
      State.hostUp plain = true ∧
      ope.sess ≤ 256 ∧
      State.permit plain ope.role (12336 * 256 + 1) true = 0 ∧
      Ty.code (def0 (12336 * 256 + 1)).ty ≠ 127) ∧
    (State.permit plain ope.role (12336 * 256 + 1) false = 0 ∧
      State.absent plain (12336 * 256 + 1) = false ∧
      (def0 (12336 * 256 + 1)).ty ≠ Ty.str ∧
      (def0 (12336 * 256 + 1)).ty ≠ Ty.dom) ∧
    (vendorAccess ope.role 24576 = false ∧
      State.hostUp noCams = true ∧
      descOf (24576 * 256 + 1) = some (def0 (24576 * 256 + 1)) ∧
      State.permit noCams ope.role (24576 * 256 + 1) false = 0 ∧
      State.absent noCams (24576 * 256 + 1) = true) ∧
    (vendorAccess ope.role 4095 = false ∧
      State.permit plain ope.role (4095 * 256 + 1) false ≠ 0) := by
  refine ⟨⟨?_, ?_, ?_, ?_, ?_, ?_⟩, ⟨?_, ?_, ?_, ?_, ?_⟩, ⟨?_, ?_, ?_, ?_, ?_⟩, ⟨?_, ?_, ?_, ?_, ?_, ?_⟩, ⟨?_, ?_, ?_, ?_, ?_⟩, ⟨?_, ?_, ?_, ?_, ?_⟩, ⟨?_, ?_, ?_, ?_, ?_⟩, ⟨?_, ?_, ?_, ?_⟩, ⟨?_, ?_, ?_, ?_, ?_⟩, ⟨?_, ?_⟩⟩ <;>
    first | decide +kernel | exact opt_all _ (by decide +kernel) | (unfold State.fieldOn; decide +kernel) | (unfold State.hostOn; decide +kernel) | (unfold State.noEpisode; decide +kernel) | exact ⟨by decide +kernel, by decide +kernel, ok_of (by decide +kernel)⟩ | rfl
/-- The hypotheses of each clause of `GroupsStageAndCommit` are met. -/
theorem witness_GroupsStageAndCommit :
    (vendorAccess svc.role (Obj.PipelineConfig.blackLevel 0 0 / 256) = false ∧
      Obj.PipelineConfig.blackLevel 0 0 % 256 < 256 ∧
      descOf (Obj.PipelineConfig.blackLevel 0 0 / 256 * 256 + Obj.PipelineConfig.blackLevel 0 0 % 256) = some (def0 (Obj.PipelineConfig.blackLevel 0 0)) ∧
      (def0 (Obj.PipelineConfig.blackLevel 0 0)).acc = Acc.rws ∧
      State.accepts plain svc (Obj.PipelineConfig.blackLevel 0 0 / 256 * 256 + Obj.PipelineConfig.blackLevel 0 0 % 256) (leBytes 2 100) (Val.num 100) ∧
      State.groupFor plain (State.sess plain svc.sess).staging (Obj.PipelineConfig.blackLevel 0 0 / 256 * 256 + Obj.PipelineConfig.blackLevel 0 0 % 256) < 256 ∧
      (State.stage plain (State.groupFor plain (State.sess plain svc.sess).staging (Obj.PipelineConfig.blackLevel 0 0 / 256 * 256 + Obj.PipelineConfig.blackLevel 0 0 % 256)) (Obj.PipelineConfig.blackLevel 0 0 / 256 * 256 + Obj.PipelineConfig.blackLevel 0 0 % 256) (Val.num 100)).snd = 0) ∧
    (4 < 256 ∧
      State.accepts staging4 ope (Obj.CommitGroup.commit 4) [1#8] (Val.num 1) ∧
      State.staged staging4 4 ≠ [] ∧
      State.commitCheck staging4 (State.staged staging4 4) = 0 ∧
      (∀ (e : Nat × Val), e ∈ State.staged staging4 4 → e.fst ≠ Obj.CommitGroup.commitCount 4) ∧
      (List.Pairwise (fun e f => e.fst ≠ f.fst) (State.staged staging4 4))) ∧
    (State.accepts badStaged ope (Obj.CommitGroup.commit 4) [1#8] (Val.num 1) ∧
      State.staged badStaged 4 ≠ [] ∧
      State.commitCheck badStaged (State.staged badStaged 4) ≠ 0) ∧
    (State.accepts staging4 ope (Obj.CommitGroup.discard 4) [1#8] (Val.num 1)) ∧
    (State.accepts staging4 ope (Obj.CommitGroup.binding 4) [0#8] (Val.num 0)) ∧
    (0 < 256 ∧
      State.accepts plain ope (Obj.CommitGroup.binding 0) [255#8] (Val.num 255) ∧
      State.staged plain 0 = []) := by
  refine ⟨⟨?_, ?_, ?_, ?_, ?_, ?_, ?_⟩, ⟨?_, ?_, ?_, ?_, ?_, ?_⟩, ⟨?_, ?_, ?_⟩, ?_, ?_, ⟨?_, ?_, ?_⟩⟩ <;>
    first | decide +kernel | exact opt_all _ (by decide +kernel) | (unfold State.fieldOn; decide +kernel) | (unfold State.hostOn; decide +kernel) | (unfold State.noEpisode; decide +kernel) | exact ⟨by decide +kernel, by decide +kernel, ok_of (by decide +kernel)⟩ | rfl
/-- The image of this part fits in its flash area. -/
theorem image_fits : ((plain.tickTo 10).image (if plain.selectCopy = 0 then 0 else fld (plain.flash.copy plain.selectCopy) 8 4 + 1)).length ≤ 2 ^ 22 := by
  unfold State.image
  dsimp only
  rw [List.length_append]
  exact Nat.le_trans (Nat.add_le_add_left (List.length_take_le 96 _) _) (by decide +kernel)

/-- The hypotheses of each clause of `TransfersAndImages` are met. -/
theorem witness_TransfersAndImages :
    (vendorAccess ope.role (fld (readHead (Obj.DramStatus.eyeMap 0) 0 64) 0 2) = false ∧
      State.hostUp plain = true ∧
      ope.sess ≤ 256 ∧
      descOf (blockKey (readHead (Obj.DramStatus.eyeMap 0) 0 64)) = some (def0 (Obj.DramStatus.eyeMap 0)) ∧
      (def0 (Obj.DramStatus.eyeMap 0)).ty = Ty.dom ∧
      State.permit plain ope.role (blockKey (readHead (Obj.DramStatus.eyeMap 0) 0 64)) false = 0 ∧
      State.absent plain (blockKey (readHead (Obj.DramStatus.eyeMap 0) 0 64)) = false ∧
      List.length (readHead (Obj.DramStatus.eyeMap 0) 0 64) = 16 ∧
      bit (fld (readHead (Obj.DramStatus.eyeMap 0) 0 64) 3 1) 2 = true ∧
      fld (readHead (Obj.DramStatus.eyeMap 0) 0 64) 3 1 < 8 ∧
      fld (readHead (Obj.DramStatus.eyeMap 0) 0 64) 12 2 ≤ 4096) ∧
    (vendorAccess ope.role (fld (readHead (Obj.DramStatus.eyeMap 0) 99 4096) 0 2) = false ∧
      descOf (blockKey (readHead (Obj.DramStatus.eyeMap 0) 99 4096)) = some (def0 (Obj.DramStatus.eyeMap 0)) ∧
      State.permit plain ope.role (blockKey (readHead (Obj.DramStatus.eyeMap 0) 99 4096)) false = 0 ∧
      State.absent plain (blockKey (readHead (Obj.DramStatus.eyeMap 0) 99 4096)) = false ∧
      List.length (readHead (Obj.DramStatus.eyeMap 0) 99 4096) = 16 ∧
      bit (fld (readHead (Obj.DramStatus.eyeMap 0) 99 4096) 3 1) 2 = true ∧
      fld (readHead (Obj.DramStatus.eyeMap 0) 99 4096) 3 1 < 8 ∧
      fld (readHead (Obj.DramStatus.eyeMap 0) 99 4096) 12 2 ≤ 4096) ∧
    (vendorAccess svc.role (fld firstBlock 0 2) = false ∧
      svc.sess ≤ 256 ∧
      descOf (blockKey firstBlock) = some (def0 Obj.NozzleTable.nozzleWrite) ∧
      (def0 Obj.NozzleTable.nozzleWrite).ty = Ty.dom ∧
      State.permit plain svc.role (blockKey firstBlock) true = 0 ∧
      16 ≤ List.length firstBlock ∧
      fld firstBlock 14 2 = 0 ∧
      fld firstBlock 3 1 = 1 ∧
      fld firstBlock 4 4 = 0 ∧
      fld firstBlock 12 2 = 4096 ∧
      List.length firstBlock = 16 + 4096 ∧
      4096 < fld firstBlock 8 4 ∧
      Desc.fits (def0 Obj.NozzleTable.nozzleWrite) (fld firstBlock 8 4) = true ∧
      (List.length (List.filter (fun y => y.sess == svc.sess && y.key != blockKey firstBlock) plain.groups.transfers) < 8)) ∧
    (vendorAccess svc.role (fld nextBlock 0 2) = false ∧
      State.hostUp transferring = true ∧
      descOf (blockKey nextBlock) = some (def0 Obj.NozzleTable.nozzleWrite) ∧
      State.permit transferring svc.role (blockKey nextBlock) true = 0 ∧
      16 ≤ List.length nextBlock ∧
      fld nextBlock 14 2 = 0 ∧
      fld nextBlock 3 1 = 0 ∧
      State.transfer transferring svc.sess (blockKey nextBlock) = some moving0 ∧
      max transferring.now 10 ≤ moving0.last + oneSec ∧
      Transfer.take moving0 (max transferring.now 10) nextBlock = none) ∧
    (State.transfer transferring 0 (Obj.NozzleTable.nozzleWrite / 256 * 256 + Obj.NozzleTable.nozzleWrite % 256) = some moving0 ∧
      moving0.last + oneSec < max transferring.now 20000000000) ∧
    (State.accepts plain svc Obj.ImageControl.imageSave [1#8] (Val.num 1) ∧
      plain.flash.saving = none ∧
      plain.rst.recovery = false ∧
      (State.selectCopy plain ≠ 0 → fld (Flash.copy plain.flash (State.selectCopy plain)) 8 4 ≠ 4294967294) ∧
      (List.length (State.image (State.tickTo plain 10) (if State.selectCopy plain = 0 then 0 else fld (Flash.copy plain.flash (State.selectCopy plain)) 8 4 + 1)) ≤ 2 ^ 22)) ∧
    (State.hostOn saving ∧
      saving.flash.saving = some (1, [1#8, 2#8])) ∧
    (State.accepts plain svc Obj.ImageControl.imageInvalidate [1#8] (Val.num 1)) ∧
    (State.accepts saving svc Obj.ImageControl.imageInvalidate [2#8] (Val.num 2) ∧
      Option.isSome saving.flash.saving = true) := by
  refine ⟨⟨?_, ?_, ?_, ?_, ?_, ?_, ?_, ?_, ?_, ?_, ?_⟩, ⟨?_, ?_, ?_, ?_, ?_, ?_, ?_, ?_⟩, ⟨?_, ?_, ?_, ?_, ?_, ?_, ?_, ?_, ?_, ?_, ?_, ?_, ?_, ?_⟩, ⟨?_, ?_, ?_, ?_, ?_, ?_, ?_, ?_, ?_, ?_⟩, ⟨?_, ?_⟩, ⟨?_, ?_, ?_, ?_, ?_⟩, ⟨?_, ?_⟩, ?_, ⟨?_, ?_⟩⟩ <;>
    first | decide +kernel | exact opt_all _ (by decide +kernel) | (unfold State.fieldOn; decide +kernel) | (unfold State.hostOn; decide +kernel) | (unfold State.noEpisode; decide +kernel) | exact ⟨by decide +kernel, by decide +kernel, ok_of (by decide +kernel)⟩ | rfl | exact image_fits
end Access

/-! ### Sessions and rings (spec/15) -/

namespace Hosts
/-- Host port 0 is enabled; session 0 is open on it. -/
def netted (st : Nat) : List (Nat × Int) := bar ++ [(Obj.HostPort.enable 0, 1), (Obj.HostPort.ipv4Address 0, 0x0A000001), (Obj.Session.state 0, (st : Int)), (Obj.Session.port 0, 0), (Obj.Session.rings 0, 1), (Obj.Ring.direction 0, 0), (Obj.Ring.session 0, 0), (Obj.Session.role 0, 1), (Obj.Ngalis.openSessions, 1), (Obj.Ngalis.handshaking, 1)]
def sess0 : Sess := { Sess.init with low := 5, hi := 5 }
def withSess (st : Nat) (x : Sess) : State := (live (netted st)).setSess 0 x
def opened0 : State := withSess 2 sess0
def shaking (x : Sess) : State := withSess 1 x
def frameHead (dport : Nat) : FrameHead := { proto := 17, v6 := false, extra := false, frag := false, tags := 0, vlan := 0, dport := dport, sumOk := true }
/-- A datagram head: magic, version, type, session, sequence, flags, length, fragment. -/
def datagramHead (typ sess seq len : Nat) : Bytes := leBytes 2 0x474E ++ leBytes 1 1 ++ leBytes 1 typ ++ leBytes 4 sess ++ leBytes 8 seq ++ leBytes 2 0 ++ leBytes 2 len ++ leBytes 4 0
def part9 : RxPart := { seq := 9, head := [], parts := [], first := 0 }
def parted : State := withSess 2 { sess0 with parts := [part9] }
def access7 : NetMsg := { seq := 7, typ := 4, body := [], at_ := 0 }
def waiting7 : State := withSess 2 { sess0 with wait := [access7] }
def lostSpan : State := { opened0 with span := { opened0.span with lostH := true } }
def ringed0 : State := { opened0 with net := { opened0.net with rings := [(0, [{ typ := 8, body := [3#8], seq := 5, ready := 0, stamp := 0 }])] } }
def descr0 : Descr := { typ := 8, body := [3#8], seq := 5, ready := 0, stamp := 0 }
def egress0 : State := (ringed0.setN (Obj.Ring.direction 0) 1)
def hello : Bytes := leBytes 1 1 ++ leBytes 129 3
def full : State := (live (netted 2)).setN Obj.Ngalis.handshaking 32
def anonymous : State := (shaking sess0).setN Obj.Security.observerOpen 1
def proved (m : Nat) : State := shaking { sess0 with cred := some m }
/-- The hypotheses of each clause of `MessagesAndRingsMove` are met (for the encoder and the verifier that the premises name). -/
theorem witness_MessagesAndRingsMove (hgcm : Config.gcmOk (List.take 32 (State.sess opened0 (fld (datagramHead 4 0 9 4 ++ leBytes 20 9) 4 4)).key) (hostNonce (State.sess opened0 (fld (datagramHead 4 0 9 4 ++ leBytes 20 9) 4 4)).key (fld (datagramHead 4 0 9 4 ++ leBytes 20 9) 8 8)) (List.take 20 (datagramHead 4 0 9 4 ++ leBytes 20 9)) (List.drop 24 (datagramHead 4 0 9 4 ++ leBytes 20 9)) = false) :
    (State.hostUp opened0 = true ∧
      State.portOn opened0 0 = true ∧
      State.frameOk opened0 0 ({ frameHead 18700 with frag := true }) = false) ∧
    (State.frameOk opened0 0 (frameHead 18700) = true ∧
      (frameHead 18700).proto ≠ 1 ∧
      (frameHead 18700).proto ≠ 2 ∧
      (frameHead 18700).sumOk = true ∧
      State.listens opened0 (frameHead 18700).dport = true ∧
      (frameHead 18700).dport ≠ 319 ∧
      (frameHead 18700).dport ≠ 320 ∧
      24 ≤ List.length (datagramHead 1 0 0 4 ++ leBytes 4 9) ∧
      fld (datagramHead 1 0 0 4 ++ leBytes 4 9) 0 2 = 18254 ∧
      fld (datagramHead 1 0 0 4 ++ leBytes 4 9) 18 2 ≤ 65519 ∧
      fld (datagramHead 1 0 0 4 ++ leBytes 4 9) 3 1 = 1 ∧
      fld (datagramHead 1 0 0 4 ++ leBytes 4 9) 4 4 = 0 ∧
      bit (fld (datagramHead 1 0 0 4 ++ leBytes 4 9) 16 2) 0 = false ∧
      (frameHead 18700).dport = State.nat opened0 Obj.Ngalis.udpPort ∧
      fld (datagramHead 1 0 0 4 ++ leBytes 4 9) 20 2 = 0 ∧
      List.length (datagramHead 1 0 0 4 ++ leBytes 4 9) = 24 + fld (datagramHead 1 0 0 4 ++ leBytes 4 9) 18 2 ∧
      fld (datagramHead 1 0 0 4 ++ leBytes 4 9) 2 1 = 1) ∧
    (24 ≤ List.length (datagramHead 4 0 9 4 ++ leBytes 20 9) ∧
      fld (datagramHead 4 0 9 4 ++ leBytes 20 9) 0 2 = 18254 ∧
      fld (datagramHead 4 0 9 4 ++ leBytes 20 9) 18 2 ≤ 65519 ∧
      fld (datagramHead 4 0 9 4 ++ leBytes 20 9) 3 1 ≠ 1 ∧
      fld (datagramHead 4 0 9 4 ++ leBytes 20 9) 2 1 = 1 ∧
      fld (datagramHead 4 0 9 4 ++ leBytes 20 9) 4 4 < 256 ∧
      State.sessState opened0 (fld (datagramHead 4 0 9 4 ++ leBytes 20 9) 4 4) ≠ 0 ∧
      (frameHead 18700).dport = (State.sess opened0 (fld (datagramHead 4 0 9 4 ++ leBytes 20 9) 4 4)).udp ∧
      (State.sess opened0 (fld (datagramHead 4 0 9 4 ++ leBytes 20 9) 4 4)).parts = [] ∧
      fld (datagramHead 4 0 9 4 ++ leBytes 20 9) 20 2 = 0 ∧
      List.length (datagramHead 4 0 9 4 ++ leBytes 20 9) = 24 + fld (datagramHead 4 0 9 4 ++ leBytes 20 9) 18 2 + 16 ∧
      Config.gcmOk (List.take 32 (State.sess opened0 (fld (datagramHead 4 0 9 4 ++ leBytes 20 9) 4 4)).key) (hostNonce (State.sess opened0 (fld (datagramHead 4 0 9 4 ++ leBytes 20 9) 4 4)).key (fld (datagramHead 4 0 9 4 ++ leBytes 20 9) 8 8)) (List.take 20 (datagramHead 4 0 9 4 ++ leBytes 20 9)) (List.drop 24 (datagramHead 4 0 9 4 ++ leBytes 20 9)) = false) ∧
    (State.hostUp parted = true ∧
      (∃ m, m ∈ (State.sess parted 0).parts ∧ m.seq = 9 ∧ m.first + 100000000 ≤ max parted.now 200000000)) ∧
    (State.hostUp waiting7 = true ∧
      (List.getLast? (List.filter (fun m => decide ((State.sess waiting7 0).low < m.seq) && decide (m.at_ + State.nat waiting7 Obj.Ngalis.reorderHold * 10000 ≤ max waiting7.now 2000000000)) (State.sess waiting7 0).wait) = some access7)) ∧
    (0 < 256 ∧
      State.ringsOf opened0 0 0 = [0] ∧
      opened0.span.lostH = false) ∧
    (State.hostUp lostSpan = true ∧
      State.ringsOf lostSpan 0 0 = [0] ∧
      lostSpan.span.lostH = true) ∧
    (0 < 64 ∧
      ringed0.hostEv = [] ∧
      State.accepts ringed0 ope (Obj.Ring.reset 0) [1#8] (Val.num 1) ∧
      State.nat ringed0 (Obj.Ring.session 0) = ope.sess) ∧
    ((State.setN ringed0 (Obj.Ring.session 0) 3).hostEv = [] ∧
      State.accepts (State.setN ringed0 (Obj.Ring.session 0) 3) ope (Obj.Ring.reset 0) [1#8] (Val.num 1) ∧
      State.nat (State.setN ringed0 (Obj.Ring.session 0) 3) (Obj.Ring.session 0) ≠ ope.sess) ∧
    (State.hostUp egress0 = true ∧
      egress0.hostEv = [] ∧
      State.ring egress0 0 = [descr0] ∧
      State.nat egress0 (Obj.Ring.direction 0) = 1 ∧
      State.nat egress0 (Obj.Ring.session 0) < 256 ∧
      State.ringPort egress0 0 = 0 ∧
      (State.sess egress0 (State.nat egress0 (Obj.Ring.session 0))).txSeq ≤ 2 ^ 48 ∧
      (State.launchTime (State.tickTo egress0 10) 0 descr0).fst ≤ State.islandNs (State.tickTo egress0 10) Side.host ∧
      State.lowerDue egress0 0 0 (State.launchTime (State.tickTo egress0 10) 0 descr0).fst = false) ∧
    ((State.launchTime (State.tickTo egress0 100000) 0 descr0).fst ≤ State.islandNs (State.tickTo egress0 100000) Side.host ∧
      State.lowerDue egress0 0 0 (State.launchTime (State.tickTo egress0 100000) 0 descr0).fst = false ∧
      ((State.launchTime egress0 0 descr0).snd || decide ((State.launchTime egress0 0 descr0).fst + 16 < State.islandNs (State.tickTo egress0 100000) Side.host)) = true ∧
      0 < 5) ∧
    (State.hostOn opened0 ∧
      State.flag opened0 (Obj.HostPort.linkState 0) = false) ∧
    (State.hostOn (State.setN opened0 (Obj.HostPort.linkState 0) 1) ∧
      State.portOn (State.setN opened0 (Obj.HostPort.linkState 0) 1) 0 = true ∧
      State.flag (State.setN opened0 (Obj.HostPort.linkState 0) 1) (Obj.HostPort.linkState 0) = true) := by
  refine ⟨⟨?_, ?_, ?_⟩, ⟨?_, ?_, ?_, ?_, ?_, ?_, ?_, ?_, ?_, ?_, ?_, ?_, ?_, ?_, ?_, ?_, ?_⟩, ⟨?_, ?_, ?_, ?_, ?_, ?_, ?_, ?_, ?_, ?_, ?_, ?_⟩, ⟨?_, ?_⟩, ⟨?_, ?_⟩, ⟨?_, ?_, ?_⟩, ⟨?_, ?_, ?_⟩, ⟨?_, ?_, ?_, ?_⟩, ⟨?_, ?_, ?_⟩, ⟨?_, ?_, ?_, ?_, ?_, ?_, ?_, ?_, ?_⟩, ⟨?_, ?_, ?_, ?_⟩, ⟨?_, ?_⟩, ⟨?_, ?_, ?_⟩⟩ <;>
    first | decide +kernel | exact opt_all _ (by decide +kernel) | (unfold State.fieldOn; decide +kernel) | (unfold State.hostOn; decide +kernel) | (unfold State.noEpisode; decide +kernel) | exact ⟨by decide +kernel, by decide +kernel, ok_of (by decide +kernel)⟩ | rfl | exact hgcm
/-- The hypotheses of each clause of `SessionsOpenAndClose` are met. -/
theorem witness_SessionsOpenAndClose :
    (State.hostUp opened0 = true ∧
      0 < 5 ∧
      List.length hello = 130 ∧
      fld hello 0 1 = 1 ∧
      State.freeCtx opened0 = some 1 ∧
      State.nat opened0 Obj.Ngalis.handshaking < 32) ∧
    (State.hostUp full = true ∧
      (State.freeCtx full = none ∨ 32 ≤ State.nat full Obj.Ngalis.handshaking)) ∧
    (State.hostUp anonymous = true ∧
      0 < 256 ∧
      State.sessState anonymous 0 = 1 ∧
      (State.sess anonymous 0).cred = none ∧
      State.judgeKeyx (State.tickTo anonymous 10) 0 (leBytes 200 0) = some (1, 2)) ∧
    (State.hostUp (State.setN (shaking sess0) Obj.Security.observerOpen 0) = true ∧
      State.sessState (State.setN (shaking sess0) Obj.Security.observerOpen 0) 0 = 1 ∧
      (State.sess (State.setN (shaking sess0) Obj.Security.observerOpen 0) 0).cred = none ∧
      State.judgeKeyx (State.tickTo (State.setN (shaking sess0) Obj.Security.observerOpen 0) 10) 0 (leBytes 200 0) = none) ∧
    (State.hostUp (proved 1) = true ∧
      State.sessState (proved 1) 0 = 1 ∧
      (State.sess (proved 1) 0).cred = some 1 ∧
      bit 1 (fld (leBytes 12 0) 0 1) = true ∧
      admitsIssuer (State.lifecycle (proved 1)) (State.issuer (proved 1) 0) (fld (leBytes 12 0) 0 1) (State.ownerGrant (proved 1)) = true) ∧
    (bit 1 (fld (leBytes 12 3) 0 1) = false) ∧
    (State.hostUp (shaking sess0) = true ∧
      State.sessState (shaking sess0) 0 = 1 ∧
      (State.sess (shaking sess0) 0).hsAt + State.nat (shaking sess0) Obj.Ngalis.handshakeTimeout * 10000000 ≤ max (shaking sess0).now (10 ^ 12)) ∧
    (State.sessState opened0 0 = 2) ∧
    ((State.sess opened0 0).lastTx + State.nat opened0 Obj.Ngalis.heartbeatPeriod * 10000000 ≤ max opened0.now (10 ^ 12) ∧
      (State.sess opened0 0).txSeq ≤ 2 ^ 48) ∧
    ((State.sess opened0 0).lastRx + State.nat opened0 Obj.Ngalis.sessionTimeout * 10000000 ≤ max opened0.now (10 ^ 12)) ∧
    (State.accepts opened0 svc (Obj.Session.close 0) [1#8] (Val.num 1)) ∧
    (State.accepts (shaking sess0) svc (Obj.Session.close 0) [1#8] (Val.num 1)) := by
  refine ⟨⟨?_, ?_, ?_, ?_, ?_, ?_⟩, ⟨?_, ?_⟩, ⟨?_, ?_, ?_, ?_, ?_⟩, ⟨?_, ?_, ?_, ?_⟩, ⟨?_, ?_, ?_, ?_, ?_⟩, ?_, ⟨?_, ?_, ?_⟩, ?_, ⟨?_, ?_⟩, ?_, ?_, ?_⟩ <;>
    first | decide +kernel | exact opt_all _ (by decide +kernel) | (unfold State.fieldOn; decide +kernel) | (unfold State.hostOn; decide +kernel) | (unfold State.noEpisode; decide +kernel) | exact ⟨by decide +kernel, by decide +kernel, ok_of (by decide +kernel)⟩ | rfl
end Hosts

/-! ### The Span (spec/16) -/

namespace Crossing
/-- Both crystals run; every channel is in use in both directions. -/
def spanned (st : Nat) (l : List (Nat × Int)) : State :=
  let s := live ([(xtalState .host, 1), (xtalState .field, 1), (Obj.SpanControl.state, 1)] ++ (List.range 12).map (fun c => (Obj.SpanChannel.state c, (st : Int))) ++ l)
  { s with span := { s.span with useH2F := 63, useF2H := 63, goodH2F := 63, goodF2H := 63 } }
def lost (s : State) : State := { s with span := { s.span with lostF := true, lostH := true, linkH := true, linkF := true } }
/-- A cell that carries a TIME message whole. -/
def timeCell : Bytes := leBytes 28 1 ++ List.replicate 224 0#8
def timeCtrl : Block := (ctrl (0x5A + 4 * 2 ^ 8 + 2 ^ 16 + 2 ^ 17 + 28 * 2 ^ 40)).2
def echoCtrl : Block := (ctrl (0x5A + 0x49 * 2 ^ 8 + 2 ^ 16 + 2 ^ 17 + 20 * 2 ^ 40)).2
def heldCell : Cell := { seq := 3, typ := 4, first := true, last := true, data := [], bad := false, chan := 0, at_ := 0 }
def gapped : State := (spanned 2 []).setCellRx 0 { CellRx.init with next := 1, held := [heldCell] }
/-- Channel 6 is due for a LINK_TEST. -/
def failed3 : State := spanned 3 []
def sess1 (x : Sess) : State := (spanned 2 [(Obj.Session.state 0, 2), (Obj.Session.rings 0, 1), (Obj.Ring.direction 0, 1), (Obj.Ring.session 0, 0), (Obj.Ring.depth 0, 8), (Obj.Ring.streamMask 0, 3)]).setSess 0 x
def asked1 : NetMsg := { seq := 7, typ := 4, body := [], at_ := 0 }
def asking1 : State := sess1 { Sess.init with wait := [asked1] }
def strip1 : StripWait := { deposit := 9, seq := 6, plane := 0, job := 1, page := 1, firstLine := 0, firstCol := 0 }
def stripping : State := sess1 { Sess.init with strips := [strip1] }
def dictResp : Bytes := leBytes 2 0 ++ leBytes 2 0 ++ leBytes 8 7 ++ leBytes 4 0 ++ [1#8]
def depAck : Bytes := leBytes 2 0 ++ leBytes 1 1 ++ leBytes 1 0 ++ leBytes 4 9 ++ leBytes 20 0
def eventBody : Bytes := leBytes 4 1 ++ leBytes 2 Ev.spanLost.1 ++ leBytes 1 3 ++ leBytes 29 0
def streamBody : Bytes := leBytes 4 0 ++ leBytes 40 5
def descr1 : Descr := { typ := 11, body := [], seq := 0, ready := 0, stamp := 0 }
def fullRing : State := let s := sess1 Sess.init; { s with net := { s.net with rings := [(0, List.replicate 8 descr1)] } }
def bootReady : State := let s := (sess1 Sess.init).setN (Obj.FirmwareSlot.inUse 2) 1; { s with flash := { s.flash with slots := [(2, leBytes 64 3)] } }
def bootReq : Bytes := leBytes 1 0 ++ leBytes 1 0 ++ leBytes 2 0 ++ leBytes 4 0 ++ leBytes 4 32
def unbooted : State := let s := spanned 2 []; { s with rst := { s.rst with field := { s.rst.field with run := false } }, span := { s.span with boot := [(0, [1#8])] } }
def noted0 : State := let s := spanned 2 []; { s with span := { s.span with noted := [(0, 1, 0)], bootReq := [(0, 0, 0, 0), (1, 0, 0, 0)], boot := [(0, leBytes 20 0)] } }
def readReq (key : Nat) : Bytes := leBytes 2 0 ++ leBytes 1 1 ++ leBytes 1 4 ++ leBytes 8 7 ++ leBytes 2 (key / 256 : Nat) ++ leBytes 1 (key % 256 : Nat) ++ leBytes 1 0
def bootCtl (image op total : Nat) : Bytes := leBytes 1 image ++ leBytes 1 op ++ leBytes 2 0 ++ leBytes 4 total
def debugged (lv : Nat) (p : Nat) : State := let s := noted0.setN Obj.Debug.level lv; { s with pow := { s.pow with state := p } }
def debugBody (l : Nat) : Bytes := leBytes 1 l ++ leBytes 1 0 ++ leBytes 2 77 ++ leBytes 4 0
def ctl (op arg w : Nat) : Bytes := leBytes 1 op ++ leBytes 1 arg ++ leBytes 2 0 ++ leBytes 4 55 ++ leBytes 4 w
/-- The hypotheses of each clause of `SpanChannelsCarry` are met. -/
theorem witness_SpanChannelsCarry :
    (11 < 12 ∧
      State.nat (spanned 0 []) (Obj.SpanChannel.state 11) < 2 ∧
      State.chanOpen (spanned 0 []) 11 = true) ∧
    (0 < 12 ∧
      State.nat (spanned 1 []) (Obj.SpanChannel.state 0) < 2 ∧
      State.chanOpen (spanned 1 []) 0 = true) ∧
    (5 < 12 ∧
      2 ≤ State.nat (spanned 2 []) (Obj.SpanChannel.state 5)) ∧
    (6 < 12 ∧
      3 ≤ State.nat failed3 (Obj.SpanChannel.state 6) ∧
      State.chanOpen failed3 6 = true ∧
      State.testDue (State.tickTo failed3 (10 ^ 12)) 6 = true) ∧
    (List.length (leBytes 252 5) = 252 ∧
      State.hostOn (spanned 3 []) ∧
      (3 ≤ State.nat (spanned 3 []) (Obj.SpanChannel.state ((match Side.host with | Side.host => 6 | Side.field => 0) + fld (leBytes 252 5) 0 1 % 6)))) ∧
    (List.length (leBytes 252 2) = 252 ∧
      State.fieldOn (State.setSpanChan (spanned 4 []) 2 ({ Chan.init with tests := 15 })) ∧
      (3 ≤ State.nat (State.setSpanChan (spanned 4 []) 2 ({ Chan.init with tests := 15 })) (Obj.SpanChannel.state ((match Side.field with | Side.host => 6 | Side.field => 0) + fld (leBytes 252 2) 0 1 % 6))) ∧
      (16 ≤ (State.spanChan (State.setSpanChan (spanned 4 []) 2 ({ Chan.init with tests := 15 })) ((match Side.field with | Side.host => 6 | Side.field => 0) + fld (leBytes 252 2) 0 1 % 6)).tests + 1)) ∧
    (List.length (leBytes 56 62) = 56 ∧
      State.hostOn (spanned 2 [])) ∧
    (List.length (leBytes 56 63) = 56 ∧
      State.fieldOn (lost (spanned 2 [])) ∧
      ((lost (spanned 2 [])).span.lostH = true ∨ (lost (spanned 2 [])).span.lostF = true) ∧
      ((match Side.field with | Side.host => (lost (spanned 2 [])).span.linkF | Side.field => (lost (spanned 2 [])).span.linkH) = true)) ∧
    (3 < 12 ∧
      State.chanOpen (spanned 2 []) 3 = true ∧
      State.nat (spanned 2 []) (Obj.SpanChannel.state 3) = 2 ∧
      checkOk (timeCtrl ^^^ 256#64) = false ∧
      bits (BitVec.toNat (timeCtrl ^^^ 256#64)) 7 0 ≠ 30) ∧
    (checkOk timeCtrl = true ∧
      bits (BitVec.toNat timeCtrl) 7 0 = 90 ∧
      (cellOf timeCtrl timeCell (crc32 timeCell) 3 (max (spanned 2 []).now 10)).bad = false ∧
      (cellOf timeCtrl timeCell (crc32 timeCell) 3 (max (spanned 2 []).now 10)).first = true ∧
      (cellOf timeCtrl timeCell (crc32 timeCell) 3 (max (spanned 2 []).now 10)).last = true ∧
      (cellOf timeCtrl timeCell (crc32 timeCell) 3 (max (spanned 2 []).now 10)).seq = (State.cellRx (spanned 2 []) (rxIx (chanSender 3) (bits (BitVec.toNat timeCtrl) 18 18))).next ∧
      (State.cellRx (spanned 2 []) (rxIx (chanSender 3) (bits (BitVec.toNat timeCtrl) 18 18))).held = [] ∧
      (State.cellRx (spanned 2 []) (rxIx (chanSender 3) (bits (BitVec.toNat timeCtrl) 18 18))).msg = none ∧
      (3 < 6 → State.firewall (spanned 2 []) (cellOf timeCtrl timeCell (crc32 timeCell) 3 (max (spanned 2 []).now 10)).typ (cellOf timeCtrl timeCell (crc32 timeCell) 3 (max (spanned 2 []).now 10)).data = 0) ∧
      (6 ≤ 3 → shapeReason (fieldBody (cellOf timeCtrl timeCell (crc32 timeCell) 3 (max (spanned 2 []).now 10)).typ) (List.length (cellOf timeCtrl timeCell (crc32 timeCell) 3 (max (spanned 2 []).now 10)).data) = 0) ∧
      3 < 6) ∧
    (9 < 12 ∧
      State.chanOpen (spanned 2 []) 9 = true ∧
      State.nat (spanned 2 []) (Obj.SpanChannel.state 9) = 2 ∧
      checkOk echoCtrl = true ∧
      bits (BitVec.toNat echoCtrl) 7 0 = 90 ∧
      (cellOf echoCtrl timeCell (crc32 timeCell) 9 (max (spanned 2 []).now 10)).bad = false ∧
      (cellOf echoCtrl timeCell (crc32 timeCell) 9 (max (spanned 2 []).now 10)).first = true ∧
      (cellOf echoCtrl timeCell (crc32 timeCell) 9 (max (spanned 2 []).now 10)).last = true ∧
      (cellOf echoCtrl timeCell (crc32 timeCell) 9 (max (spanned 2 []).now 10)).seq = (State.cellRx (spanned 2 []) (rxIx (chanSender 9) (bits (BitVec.toNat echoCtrl) 18 18))).next ∧
      (State.cellRx (spanned 2 []) (rxIx (chanSender 9) (bits (BitVec.toNat echoCtrl) 18 18))).held = [] ∧
      (State.cellRx (spanned 2 []) (rxIx (chanSender 9) (bits (BitVec.toNat echoCtrl) 18 18))).msg = none ∧
      (9 < 6 → State.firewall (spanned 2 []) (cellOf echoCtrl timeCell (crc32 timeCell) 9 (max (spanned 2 []).now 10)).typ (cellOf echoCtrl timeCell (crc32 timeCell) 9 (max (spanned 2 []).now 10)).data = 0) ∧
      (6 ≤ 9 → shapeReason (fieldBody (cellOf echoCtrl timeCell (crc32 timeCell) 9 (max (spanned 2 []).now 10)).typ) (List.length (cellOf echoCtrl timeCell (crc32 timeCell) 9 (max (spanned 2 []).now 10)).data) = 0) ∧
      6 ≤ 9) ∧
    ((∃ c, c ∈ (State.cellRx gapped (rxIx Side.host 0)).held ∧ c.at_ + 1000 ≤ max gapped.now 1000000) ∧
      (∀ (c : Cell), c ∈ (State.cellRx gapped (rxIx Side.host 0)).held → c.seq ≠ ((State.cellRx gapped (rxIx Side.host 0)).next + 1) % 65536)) ∧
    ((∀ (a : Nat), (spanned 2 []).span.sentAt = some a → a + 10000000 ≤ max (spanned 2 []).now 10) ∧
      (spanned 2 []).span.useH2F ≠ 0 ∧
      State.fieldOn (spanned 2 []) ∧
      (spanned 2 []).span.useF2H ≠ 0) ∧
    ((spanned 2 []).rst.field.run = true ∧
      (spanned 2 []).span.lostF = false ∧
      (spanned 2 []).span.validF + (spanned 2 []).span.fieldLoss * 10000000 ≤ max (spanned 2 []).now (10 ^ 12) ∧
      (spanned 2 []).span.lostH = false) ∧
    (State.hostUp (spanned 2 []) = true ∧
      State.nat (spanned 2 []) Obj.SpanControl.state = 1 ∧
      (spanned 2 []).span.validH + State.nat (spanned 2 []) Obj.SpanControl.lossTimeout * 10000000 ≤ max (spanned 2 []).now (10 ^ 12)) := by
  refine ⟨⟨?_, ?_, ?_⟩, ⟨?_, ?_, ?_⟩, ⟨?_, ?_⟩, ⟨?_, ?_, ?_, ?_⟩, ⟨?_, ?_, ?_⟩, ⟨?_, ?_, ?_, ?_⟩, ⟨?_, ?_⟩, ⟨?_, ?_, ?_, ?_⟩, ⟨?_, ?_, ?_, ?_, ?_⟩, ⟨?_, ?_, ?_, ?_, ?_, ?_, ?_, ?_, ?_, ?_, ?_⟩, ⟨?_, ?_, ?_, ?_, ?_, ?_, ?_, ?_, ?_, ?_, ?_, ?_, ?_, ?_⟩, ⟨?_, ?_⟩, ⟨?_, ?_, ?_, ?_⟩, ⟨?_, ?_, ?_, ?_⟩, ⟨?_, ?_, ?_⟩⟩ <;>
    first | decide +kernel | exact opt_all _ (by decide +kernel) | (unfold State.fieldOn; decide +kernel) | (unfold State.hostOn; decide +kernel) | (unfold State.noEpisode; decide +kernel) | exact ⟨by decide +kernel, by decide +kernel, ok_of (by decide +kernel)⟩ | rfl
/-- The hypotheses of each clause of `SpanMessagesReachHost` are met. -/
theorem witness_SpanMessagesReachHost :
    (State.hostOn asking1 ∧
      shapeReason (fieldBody 65) (List.length dictResp) = 0 ∧
      fld dictResp 0 2 < 256 ∧
      State.sessState asking1 (fld dictResp 0 2) = 2 ∧
      (List.find? (fun m => m.seq == fld dictResp 4 8) (State.sess asking1 (fld dictResp 0 2)).wait = some asked1)) ∧
    (State.hostOn stripping ∧
      List.length depAck = 28 ∧
      (List.find? (fun w => w.deposit == fld depAck 4 4) (State.sess stripping (fld depAck 0 2)).strips = some strip1)) ∧
    (State.hostOn (sess1 Sess.init) ∧
      (sess1 Sess.init).hostEv = [] ∧
      List.length eventBody = 36 ∧
      fld eventBody 0 1 = 1 ∧
      State.openSessions (sess1 Sess.init) = [0] ∧
      Sess.selects (State.sess (sess1 Sess.init) 0) (fld (sub eventBody 4 32) 0 2) (fld (sub eventBody 4 32) 2 1) = some 0 ∧
      State.ringFor (sess1 Sess.init) 0 0 = some 0 ∧
      State.ring (sess1 Sess.init) 0 = [] ∧
      0 < State.nat (sess1 Sess.init) (Obj.Ring.depth 0) ∧
      (¬0 ∈ (sess1 Sess.init).span.gaps)) ∧
    (24 ≤ List.length streamBody ∧
      List.length streamBody ≤ 4 + 65519 ∧
      fld streamBody 0 1 < 64 ∧
      State.nat (sess1 Sess.init) (Obj.Ring.session (fld streamBody 0 1)) ≠ 65535 ∧
      State.nat (sess1 Sess.init) (Obj.Ring.direction (fld streamBody 0 1)) = 1 ∧
      List.length (State.ring (sess1 Sess.init) (fld streamBody 0 1)) < State.nat (sess1 Sess.init) (Obj.Ring.depth (fld streamBody 0 1))) ∧
    (State.hostOn fullRing ∧
      fullRing.hostEv = [] ∧
      State.nat fullRing (Obj.Ring.session (fld streamBody 0 1)) ≠ 65535 ∧
      State.nat fullRing (Obj.Ring.direction (fld streamBody 0 1)) = 1 ∧
      State.nat fullRing (Obj.Ring.depth (fld streamBody 0 1)) ≤ List.length (State.ring fullRing (fld streamBody 0 1))) ∧
    (State.hostOn bootReady ∧
      List.length bootReq = 12 ∧
      State.bootSlot bootReady (fld bootReq 0 1) = some 2 ∧
      sub (State.slotBytes bootReady 2) (fld bootReq 4 4) (fld bootReq 8 4) ≠ []) ∧
    (State.hostUp unbooted = true ∧
      List.length (leBytes 8 0) = 8 ∧
      fld (leBytes 8 0) 0 1 = 0 ∧
      fld (leBytes 8 0) 1 1 = 0 ∧
      State.fieldOn unbooted ∧
      unbooted.rst.field.run = false ∧
      unbooted.sec.activateAt = none ∧
      State.bootBytes unbooted 0 ≠ []) ∧
    (State.hostOn (spanned 2 []) ∧
      shapeReason (fieldBody 71) (List.length (leBytes 8 0)) = 0) ∧
    (State.hostOn (spanned 2 [(Obj.Debug.holder, 2), (Obj.Debug.holderSession, 3)])) ∧
    (List.length (leBytes 4 0 ++ leBytes 1 1 ++ leBytes 3 0) = 8 ∧
      (spanned 2 []).rst.recovery = false ∧
      bit (fld (leBytes 4 0 ++ leBytes 1 1 ++ leBytes 3 0) 5 1) 0 = false ∧
      State.nat (spanned 2 []) Obj.PowerControl.powerState ≠ fld (leBytes 4 0 ++ leBytes 1 1 ++ leBytes 3 0) 4 1) ∧
    (List.length (leBytes 20 0) = 20) ∧
    (List.length (leBytes 8 0) ≠ 20) := by
  refine ⟨⟨?_, ?_, ?_, ?_, ?_⟩, ⟨?_, ?_, ?_⟩, ⟨?_, ?_, ?_, ?_, ?_, ?_, ?_, ?_, ?_, ?_⟩, ⟨?_, ?_, ?_, ?_, ?_, ?_⟩, ⟨?_, ?_, ?_, ?_, ?_⟩, ⟨?_, ?_, ?_, ?_⟩, ⟨?_, ?_, ?_, ?_, ?_, ?_, ?_, ?_⟩, ⟨?_, ?_⟩, ?_, ⟨?_, ?_, ?_, ?_⟩, ?_, ?_⟩ <;>
    first | decide +kernel | exact opt_all _ (by decide +kernel) | (unfold State.fieldOn; decide +kernel) | (unfold State.hostOn; decide +kernel) | (unfold State.noEpisode; decide +kernel) | exact ⟨by decide +kernel, by decide +kernel, ok_of (by decide +kernel)⟩ | rfl
/-- The hypotheses of each clause of `SpanMessagesReachField` are met. -/
theorem witness_SpanMessagesReachField :
    (State.fieldOn noted0 ∧
      State.firewall noted0 9 (leBytes 3 0) ≠ 0) ∧
    (State.firewall noted0 1 (readReq 3158017) = 0 ∧
      fld (readReq 3158017) 3 1 = 4 ∧
      fld (readReq 3158017) 0 2 ≤ 256 ∧
      12336 = fld (readReq 3158017) 12 2 ∧
      1 = fld (readReq 3158017) 14 1 ∧
      12336 ∈ [8968, 12320, 12336, 17408, 28673, 40960] ∧
      descOf (12336 * 256 + 1) = some (def0 3158017) ∧
      (def0 3158017).ty ≠ Ty.str ∧
      (def0 3158017).ty ≠ Ty.dom ∧
      State.permit noted0 (roleOf (fld (readReq 3158017) 2 1)) (12336 * 256 + 1) false = 0) ∧
    (State.firewall noted0 5 (leBytes 8 0 ++ [7#8, 8#8]) = 0) ∧
    (State.firewall noted0 6 (bootCtl 0 1 224) = 0 ∧
      fld (bootCtl 0 1 224) 1 1 = 1 ∧
      ((if List.contains noted0.span.badBoot (fld (bootCtl 0 1 224) 0 1) = true then 3 else State.bootCheck noted0 (State.bootBytes noted0 (fld (bootCtl 0 1 224) 0 1)) (fld (bootCtl 0 1 224) 4 4)) ≠ 0)) ∧
    (State.fieldOn ({ noted0 with sec := ({ noted0.sec with armed := true }) }) ∧
      State.firewall ({ noted0 with sec := ({ noted0.sec with armed := true }) }) 6 (bootCtl 1 2 0) = 0 ∧
      fld (bootCtl 1 2 0) 1 1 = 2 ∧
      ({ noted0 with sec := ({ noted0.sec with armed := true }) }).sec.armed = true ∧
      ({ noted0 with sec := ({ noted0.sec with armed := true }) }).sec.activateAt = none ∧
      (∀ (k : Nat), k < 4 → ∀ (p : Page), p ∈ (State.plane ({ noted0 with sec := ({ noted0.sec with armed := true }) }) k).pages → p.start = none)) ∧
    (State.firewall noted0 6 (bootCtl 1 3 0) = 0 ∧
      fld (bootCtl 1 3 0) 1 1 = 3) ∧
    (State.firewall noted0 8 (leBytes 2 5 ++ leBytes 1 0 ++ leBytes 1 2 ++ leBytes 4 0) = 0 ∧
      fld (leBytes 2 5 ++ leBytes 1 0 ++ leBytes 1 2 ++ leBytes 4 0) 2 1 = 0) ∧
    (State.firewall noted0 8 (leBytes 2 0 ++ leBytes 1 1 ++ leBytes 1 0 ++ leBytes 4 0) = 0 ∧
      fld (leBytes 2 0 ++ leBytes 1 1 ++ leBytes 1 0 ++ leBytes 4 0) 2 1 = 1) ∧
    (State.firewall noted0 9 (leBytes 1 3 ++ leBytes 3 0 ++ leBytes 4 9) = 0) ∧
    (State.fieldOn (debugged 2 1) ∧
      State.firewall (debugged 2 1) 7 (debugBody 1) = 0) ∧
    (State.firewall (debugged 2 1) 7 (debugBody 2) = 0 ∧
      State.debugFull (debugged 2 1) (debugBody 2) = true) ∧
    (State.fieldOn (debugged 1 1) ∧
      State.firewall (debugged 1 1) 7 (debugBody 1) = 0 ∧
      State.debugFull (debugged 1 1) (debugBody 1) = false) ∧
    (State.firewall noted0 10 (ctl 1 0 0) = 0 ∧
      fld (ctl 1 0 0) 0 1 = 1) ∧
    (State.fieldOn (State.setN noted0 Obj.PowerControl.inTransition 1) ∧
      State.firewall (State.setN noted0 Obj.PowerControl.inTransition 1) 10 (ctl 2 1 0) = 0 ∧
      fld (ctl 2 1 0) 0 1 = 2 ∧
      State.flag (State.setN noted0 Obj.PowerControl.inTransition 1) Obj.PowerControl.inTransition = true ∧
      (State.setN noted0 Obj.PowerControl.inTransition 1).pow.held = none) ∧
    (State.fieldOn (debugged 0 0) ∧
      State.firewall (debugged 0 0) 10 (ctl 2 0 0) = 0 ∧
      fld (ctl 2 0 0) 0 1 = 2 ∧
      State.flag (debugged 0 0) Obj.PowerControl.inTransition = false ∧
      fld (ctl 2 0 0) 1 1 = 0 ∧
      (debugged 0 0).pow.state = 0) ∧
    (State.firewall (debugged 2 1) 10 (ctl 3 0 0) = 0 ∧
      fld (ctl 3 0 0) 0 1 = 3) ∧
    (State.firewall noted0 10 (ctl 4 0 50) = 0 ∧
      fld (ctl 4 0 50) 0 1 = 4 ∧
      2 ≤ fld (ctl 4 0 50) 8 4 ∧
      fld (ctl 4 0 50) 8 4 ≤ 1000) ∧
    (State.firewall noted0 10 (ctl 4 0 1) = 0 ∧
      fld (ctl 4 0 1) 0 1 = 4 ∧
      (fld (ctl 4 0 1) 8 4 < 2 ∨ 1000 < fld (ctl 4 0 1) 8 4)) := by
  refine ⟨⟨?_, ?_⟩, ⟨?_, ?_, ?_, ?_, ?_, ?_, ?_, ?_, ?_, ?_⟩, ?_, ⟨?_, ?_, ?_⟩, ⟨?_, ?_, ?_, ?_, ?_, ?_⟩, ⟨?_, ?_⟩, ⟨?_, ?_⟩, ⟨?_, ?_⟩, ?_, ⟨?_, ?_⟩, ⟨?_, ?_⟩, ⟨?_, ?_, ?_⟩, ⟨?_, ?_⟩, ⟨?_, ?_, ?_, ?_, ?_⟩, ⟨?_, ?_, ?_, ?_, ?_, ?_⟩, ⟨?_, ?_⟩, ⟨?_, ?_, ?_, ?_⟩, ⟨?_, ?_, ?_⟩⟩ <;>
    first | decide +kernel | exact opt_all _ (by decide +kernel) | (unfold State.fieldOn; decide +kernel) | (unfold State.hostOn; decide +kernel) | (unfold State.noEpisode; decide +kernel) | exact ⟨by decide +kernel, by decide +kernel, ok_of (by decide +kernel)⟩ | rfl
end Crossing

/-! ### Time bases, clocks and gates (spec/17, 18) -/

namespace Clock
def timed (l : List (Nat × Int)) : State := live (bar ++ [(Obj.HostPort.enable 1, 1)] ++ l)
def servoed : State := timed [(Obj.PtpServo.servoMode, 1)]
def steered : State := timed [(Obj.PtpServo.servoMode, 0)]
def timeMsg : Bytes := leBytes 4 3 ++ spanTimeBytes (5 * 2 ^ 32) ++ leBytes 8 (4 * 2 ^ 32)
def timedOut : State := let s := timed [(Obj.SlaveTime.state, 2)]; { s with tim := { s.tim with lastTime := some 0 } }
def ptpMsg (tx : Bool) : PtpMessage := { kind := 0, seq := 4, domain := 0, transmit := tx, origin := 100, correction := 0 }
def rec16 : CapUnit := { recs := List.replicate 16 (leBytes 20 1), seen := 16, lost := false }
def capturing (l : List Bytes) : State := let s := timed [(Obj.Capture.source 0, 1), (Obj.Capture.edge 0, 2), (Obj.Capture.source 1, 1), (Obj.Capture.edge 1, 1)]; { s with tim := { s.tim with caps := [(0, { recs := l, seen := 3, lost := false })] } }
def outs : State := timed [(Obj.TimeOutputs.ppsEnable, 1), (Obj.TimeOutputs.mode 0, 1), (Obj.TimeOutputs.start 0, 5), (Obj.TimeOutputs.period 0, 1000), (Obj.TimeOutputs.width 0, 100), (Obj.TimeOutputs.ppsWidth, 1000)]
def high : State := let s := outs; { s with tim := { s.tim with ppsHigh := true, ppsLast := some 0, evtHigh := [0], evtLast := [(0, 5)] } }
def locking (series : List Nat) : State := let s := live [(xtalState .host, 0), (xtalState .field, 0)]; { s with pow := { s.pow with xtalH := ⟨series⟩ } }
def ready3 : State := live [(Obj.DomainSwitch.ready 0, 3), (Obj.DomainSwitch.ready 3, 1), (Obj.DomainSwitch.source 3, 0)]
def muxed : State := let s := live []; { s with pow := { s.pow with muxWait := [(1, 0)] } }
def cutting : State := let s := live []; { s with pow := { s.pow with gateWait := [(1, 30)] }, groups := { s.groups with transfers := [{ sess := 4, key := 0x430001, data := [], total := 0, last := 0 }] } }
def quietGate : State := let s := live []; { s with pow := { s.pow with gateWait := [(1, 30)] } }
/-- The hypotheses of each clause of `TimeBasesStepAndFollow` are met. -/
theorem witness_TimeBasesStepAndFollow :
    (State.accepts steered svc Obj.MasterTime.increment (leBytes 8 (4 * 2 ^ 32 + 5)) (Val.num (4 * 2 ^ 32 + 5)) ∧
      State.nat steered Obj.PtpServo.servoMode ≠ 1) ∧
    (State.accepts servoed svc Obj.MasterTime.increment (leBytes 8 (4 * 2 ^ 32 + 5)) (Val.num (4 * 2 ^ 32 + 5)) ∧
      State.nat servoed Obj.PtpServo.servoMode = 1) ∧
    (State.accepts steered svc Obj.MasterTime.offsetAdjust (leBytes 8 (-7)) (Val.num (-7))) ∧
    (State.accepts steered svc Obj.MasterTime.timeSet (time80Bytes 1000000005) (Val.num 1000000005)) ∧
    (State.fieldOn (timed [(Obj.SlaveTime.state, 0)]) ∧
      State.firewall (timed [(Obj.SlaveTime.state, 0)]) 4 timeMsg = 0 ∧
      (State.nat (timed [(Obj.SlaveTime.state, 0)]) Obj.SlaveTime.state = 0 ∨ State.nat (timed [(Obj.SlaveTime.state, 0)]) Obj.SlaveTime.state = 3 ∨ Int.natAbs (spanTime timeMsg 4 + 220 * 2 ^ 32 - Option.getD (timed [(Obj.SlaveTime.state, 0)]).span.timeAt (TimeBase.fine (State.tickTo (timed [(Obj.SlaveTime.state, 0)]) 10).tim.slave (max (timed [(Obj.SlaveTime.state, 0)]).now 10)) / 2 ^ 32 * 2 ^ 32) > State.nat (timed [(Obj.SlaveTime.state, 0)]) Obj.SlaveTime.stepThreshold * 2 ^ 32)) ∧
    (State.fieldOn (timed [(Obj.SlaveTime.state, 2)]) ∧
      State.firewall (timed [(Obj.SlaveTime.state, 2)]) 4 timeMsg = 0 ∧
      (¬(State.nat (timed [(Obj.SlaveTime.state, 2)]) Obj.SlaveTime.state = 0 ∨ State.nat (timed [(Obj.SlaveTime.state, 2)]) Obj.SlaveTime.state = 3 ∨ Int.natAbs (spanTime timeMsg 4 + 220 * 2 ^ 32 - Option.getD (timed [(Obj.SlaveTime.state, 2)]).span.timeAt (TimeBase.fine (State.tickTo (timed [(Obj.SlaveTime.state, 2)]) 10).tim.slave (max (timed [(Obj.SlaveTime.state, 2)]).now 10)) / 2 ^ 32 * 2 ^ 32) > State.nat (timed [(Obj.SlaveTime.state, 2)]) Obj.SlaveTime.stepThreshold * 2 ^ 32))) ∧
    (State.fieldOn timedOut ∧
      timedOut.tim.lastTime = some 0 ∧
      0 + 3 * 10000000 ≤ max timedOut.now (10 ^ 9) ∧
      (State.nat timedOut Obj.SlaveTime.state = 1 ∨ State.nat timedOut Obj.SlaveTime.state = 2)) ∧
    (State.hostUp steered = true ∧
      State.portOn steered 1 = true ∧
      (State.nat steered Obj.PtpServo.servoMode ≠ 1 ∨ State.nat steered Obj.PtpServo.ptpPort ≠ 1 ∨ (ptpMsg true).domain ≠ State.nat steered Obj.PtpServo.ptpDomain)) ∧
    ((State.nat steered Obj.PtpServo.servoMode ≠ 1 ∨ State.nat steered Obj.PtpServo.ptpPort ≠ 1 ∨ (ptpMsg false).domain ≠ State.nat steered Obj.PtpServo.ptpDomain)) := by
  refine ⟨⟨?_, ?_⟩, ⟨?_, ?_⟩, ?_, ?_, ⟨?_, ?_, ?_⟩, ⟨?_, ?_, ?_⟩, ⟨?_, ?_, ?_, ?_⟩, ⟨?_, ?_, ?_⟩, ?_⟩ <;>
    first | decide +kernel | exact opt_all _ (by decide +kernel) | (unfold State.fieldOn; decide +kernel) | (unfold State.hostOn; decide +kernel) | (unfold State.noEpisode; decide +kernel) | exact ⟨by decide +kernel, by decide +kernel, ok_of (by decide +kernel)⟩ | rfl
/-- The hypotheses of each clause of `CapturesAndTimeOutputs` are met. -/
theorem witness_CapturesAndTimeOutputs :
    (State.hostOn (capturing []) ∧
      0 < 4 ∧
      State.nat (capturing []) (Obj.Capture.source 0) = 1 ∧
      (State.nat (capturing []) (Obj.Capture.edge 0) = 2 ∨ (State.nat (capturing []) (Obj.Capture.edge 0) = 1 ↔ false = true)) ∧
      List.length (State.cap (capturing []) 0).recs < 16) ∧
    (1 < 4 ∧
      State.nat (capturing []) (Obj.Capture.source 1) = 1 ∧
      (State.nat (capturing []) (Obj.Capture.edge 1) = 2 ∨ (State.nat (capturing []) (Obj.Capture.edge 1) = 1 ↔ true = true)) ∧
      List.length (State.cap (capturing []) 1).recs < 16) ∧
    (State.hostOn (capturing (List.replicate 16 (leBytes 20 1))) ∧
      State.nat (capturing (List.replicate 16 (leBytes 20 1))) (Obj.Capture.source 0) = 1 ∧
      (State.nat (capturing (List.replicate 16 (leBytes 20 1))) (Obj.Capture.edge 0) = 2 ∨ (State.nat (capturing (List.replicate 16 (leBytes 20 1))) (Obj.Capture.edge 0) = 1 ↔ true = true)) ∧
      16 ≤ List.length (State.cap (capturing (List.replicate 16 (leBytes 20 1))) 0).recs) ∧
    (0 < 8 ∧
      State.hostUp (capturing [leBytes 20 1]) = true ∧
      ope.sess ≤ 256 ∧
      State.permit (capturing [leBytes 20 1]) ope.role (Obj.Capture.records 0) false = 0) ∧
    (State.hostOn outs ∧
      State.flag outs Obj.TimeOutputs.ppsEnable = true ∧
      (∀ (p : Int), outs.tim.ppsLast = some p → p < TimeBase.ns (State.tickTo outs 10).tim.master / 1000000000 * 1000000000)) ∧
    (0 < 2 ∧
      evtTarget (State.nat outs (Obj.TimeOutputs.mode 0)) (State.num outs (Obj.TimeOutputs.start 0)) (State.num outs (Obj.TimeOutputs.period 0)) (TimeBase.ns (State.tickTo outs 100).tim.master) = some 5 ∧
      (smGet (fun x => -1) outs.tim.evtLast 0 < 5)) ∧
    (State.hostOn high ∧
      high.tim.ppsHigh = true ∧
      Option.getD high.tim.ppsLast 0 + State.num high Obj.TimeOutputs.ppsWidth ≤ TimeBase.ns (State.tickTo high 1000000).tim.master) ∧
    (0 ∈ high.tim.evtHigh ∧
      (smGet (fun x => -1) high.tim.evtLast 0 + State.num high (Obj.TimeOutputs.width 0) ≤ TimeBase.ns (State.tickTo high 1000000).tim.master)) := by
  refine ⟨⟨?_, ?_, ?_, ?_, ?_⟩, ⟨?_, ?_, ?_, ?_⟩, ⟨?_, ?_, ?_, ?_⟩, ⟨?_, ?_, ?_, ?_⟩, ⟨?_, ?_, ?_⟩, ⟨?_, ?_, ?_⟩, ⟨?_, ?_, ?_⟩, ⟨?_, ?_⟩⟩ <;>
    first | decide +kernel | exact opt_all _ (by decide +kernel) | (unfold State.fieldOn; decide +kernel) | (unfold State.hostOn; decide +kernel) | (unfold State.noEpisode; decide +kernel) | exact ⟨by decide +kernel, by decide +kernel, ok_of (by decide +kernel)⟩ | rfl
/-- The hypotheses of each clause of `ClocksAndGatesSwitch` are met. -/
theorem witness_ClocksAndGatesSwitch :
    (State.hostOn (locking (List.replicate 15 25000)) ∧
      State.nat (locking (List.replicate 15 25000)) (xtalState Side.host) = 0 ∧
      (24250 ≤ 25001 ∧ 25001 ≤ 25750 ∧ consistent (State.xtal (locking (List.replicate 15 25000)) Side.host).series 25001 = true) ∧
      List.length (State.xtal (locking (List.replicate 15 25000)) Side.host).series = 15) ∧
    (State.hostOn (locking (List.replicate 3 25000)) ∧
      State.nat (locking (List.replicate 3 25000)) (xtalState Side.host) = 0 ∧
      (24250 ≤ 25001 ∧ 25001 ≤ 25750 ∧ consistent (State.xtal (locking (List.replicate 3 25000)) Side.host).series 25001 = true) ∧
      List.length (State.xtal (locking (List.replicate 3 25000)) Side.host).series < 15) ∧
    (State.fieldOn (locking (List.replicate 3 25000)) ∧
      State.nat (locking (List.replicate 3 25000)) (xtalState Side.field) = 0 ∧
      (¬(24250 ≤ 30000 ∧ 30000 ≤ 25750 ∧ consistent (State.xtal (locking (List.replicate 3 25000)) Side.field).series 30000 = true))) ∧
    (State.hostOn (locking []) ∧
      State.nat (locking []) (xtalState Side.host) = 0 ∧
      (State.episode (locking []) Side.host).released + State.nat (locking []) (Obj.Clocks.xtalTimeout (sideIx Side.host)) * 10000000 ≤ max (locking []).now (10 ^ 12)) ∧
    (State.fieldOn (locking []) ∧
      State.nat (locking []) (xtalState Side.field) = 0 ∧
      (State.episode (locking []) Side.field).released + State.nat (locking []) (Obj.Clocks.xtalTimeout (sideIx Side.field)) * 10000000 ≤ max (locking []).now (10 ^ 12)) ∧
    (State.fieldOn (live [(xtalState Side.field, 1), (Obj.DomainSwitch.inUse 2, 1)]) ∧
      State.nat (live [(xtalState Side.field, 1), (Obj.DomainSwitch.inUse 2, 1)]) (xtalState Side.field) = 1) ∧
    (0 < 4 ∧
      State.accepts ready3 svc (Obj.DomainSwitch.source 0) [1#8] (Val.num 1) ∧
      bit (State.nat ready3 (Obj.DomainSwitch.ready 0)) 1 = true ∧
      (0 < 2 ∨ State.anyPlane ready3 = false ∧ State.anyCamera ready3 = false)) ∧
    (3 < 4 ∧
      State.accepts ready3 svc (Obj.DomainSwitch.source 3) [1#8] (Val.num 1) ∧
      bit (State.nat ready3 (Obj.DomainSwitch.ready 3)) 1 = false) ∧
    (1 < 4 ∧
      State.hostOn muxed ∧
      (List.find? (fun w => w.fst == 1) muxed.pow.muxWait = some (1, 0))) ∧
    (State.accepts (live [(Obj.HostPort.linkState 2, 1)]) svc Obj.HostGates.enable (leBytes 4 59) (Val.num 59) ∧
      (5 ∈ closing (State.nat (live [(Obj.HostPort.linkState 2, 1)]) Obj.HostGates.enable) 59 6 → (live [(Obj.HostPort.linkState 2, 1)]).flash.saving = none)) ∧
    (State.accepts (live (bar ++ [(Obj.PierConfig.service 0, 1)])) svc Obj.FieldGates.enable (leBytes 8 2147483646) (Val.num 2147483646) ∧
      (∀ (b : Nat), b ∈ closing (State.nat (live (bar ++ [(Obj.PierConfig.service 0, 1)])) Obj.FieldGates.enable) 2147483646 31 → State.closeAbort (live (bar ++ [(Obj.PierConfig.service 0, 1)])) b = 0)) ∧
    (State.accepts (live (bar ++ [(Obj.PortStatus.state 0, 2)])) svc Obj.FieldGates.enable (leBytes 8 2147483646) (Val.num 2147483646) ∧
      (List.find? (fun b => State.closeAbort (live (bar ++ [(Obj.PortStatus.state 0, 2)])) b != 0) (closing (State.nat (live (bar ++ [(Obj.PortStatus.state 0, 2)])) Obj.FieldGates.enable) 2147483646 31) = some 0)) ∧
    (State.fieldOn cutting ∧
      4 < 256 ∧
      (sideIx Side.field, 30) ∈ cutting.pow.gateWait ∧
      State.portBusy cutting (Side.field == Side.host) 30 = true ∧
      ((List.any cutting.groups.transfers fun x => x.sess == 4 && gateOf (x.key / 256) == some (Side.field == Side.host, 30)) = true)) ∧
    (State.fieldOn quietGate ∧
      (sideIx Side.field, 30) ∈ quietGate.pow.gateWait ∧
      State.portBusy quietGate (Side.field == Side.host) 30 = false) ∧
    (State.accepts (live []) svc (Obj.Meter.start (sideIx Side.host)) [1#8] (Val.num 1)) ∧
    (State.accepts (live []) svc (Obj.Meter.start (sideIx Side.field)) [1#8] (Val.num 1)) ∧
    (State.hostOn (live [(Obj.Meter.busy 0, 1)]) ∧
      State.flag (live [(Obj.Meter.busy 0, 1)]) (Obj.Meter.busy (sideIx Side.host)) = true) := by
  refine ⟨⟨?_, ?_, ?_, ?_⟩, ⟨?_, ?_, ?_, ?_⟩, ⟨?_, ?_, ?_⟩, ⟨?_, ?_, ?_⟩, ⟨?_, ?_, ?_⟩, ⟨?_, ?_⟩, ⟨?_, ?_, ?_, ?_⟩, ⟨?_, ?_, ?_⟩, ⟨?_, ?_, ?_⟩, ⟨?_, ?_⟩, ⟨?_, ?_⟩, ⟨?_, ?_⟩, ⟨?_, ?_, ?_, ?_, ?_⟩, ⟨?_, ?_, ?_⟩, ?_, ?_, ⟨?_, ?_⟩⟩ <;>
    first | decide +kernel | exact opt_all _ (by decide +kernel) | (unfold State.fieldOn; decide +kernel) | (unfold State.hostOn; decide +kernel) | (unfold State.noEpisode; decide +kernel) | exact ⟨by decide +kernel, by decide +kernel, ok_of (by decide +kernel)⟩ | rfl
end Clock

/-! ### Operating points and power requests (spec/18) -/

namespace Power
def pow (d : Dvfs) (op : Nat) (later : List (Nat × Nat × Val)) : State := let s := live (bar ++ [(Obj.Dvfs.opInForce, (op : Int))] ++ (List.range 4).map (fun n => (Obj.OperatingPoint.frequency n, ((n : Int) + 1) * 400))); { s with pow := { s.pow with dvfs := d, state := 0, later := later } }
def idleD : Dvfs := { step := .idle, next := 0, target := 0, start := 0, settle := none, locked := false }
def dv (st : DvfsStep) (next target : Nat) : Dvfs := { idleD with step := st, next := next, target := target }
/-- The hypotheses of each clause of `OperatingPointsMove` are met. -/
theorem witness_OperatingPointsMove :
    (State.accepts (pow idleD 0 []) svc Obj.Dvfs.opTarget [2#8] (Val.num 2) ∧
      max (State.needNow (pow idleD 0 [])).fst (State.needNow (pow idleD 0 [])).snd ≤ State.opFreq (pow idleD 0 []) 2 ∧
      (pow idleD 0 []).pow.state ≠ 2 ∧
      (pow idleD 0 []).pow.dvfs.step = DvfsStep.idle ∧
      State.nat (pow idleD 0 []) Obj.Dvfs.opInForce < 2) ∧
    (State.accepts (State.setN (State.setN (pow idleD 0 []) (Obj.PlaneConfig.enable 0) 1) (Obj.OperatingPoint.frequency 0) 0) svc Obj.Dvfs.opTarget [0#8] (Val.num 0) ∧
      State.opFreq (State.setN (State.setN (pow idleD 0 []) (Obj.PlaneConfig.enable 0) 1) (Obj.OperatingPoint.frequency 0) 0) 0 < max (State.needNow (State.setN (State.setN (pow idleD 0 []) (Obj.PlaneConfig.enable 0) 1) (Obj.OperatingPoint.frequency 0) 0)).fst (State.needNow (State.setN (State.setN (pow idleD 0 []) (Obj.PlaneConfig.enable 0) 1) (Obj.OperatingPoint.frequency 0) 0)).snd) ∧
    (State.fieldOn (pow (dv DvfsStep.raiseStatus 1 2) 0 []) ∧
      (pow (dv DvfsStep.raiseStatus 1 2) 0 []).pow.dvfs.step = DvfsStep.raiseStatus) ∧
    (State.fieldOn (pow (dv DvfsStep.raiseStatus 1 2) 0 [(0, Obj.CameraSelect.inLineCamera, Val.num 1)]) ∧
      (pow (dv DvfsStep.raiseStatus 1 2) 0 [(0, Obj.CameraSelect.inLineCamera, Val.num 1)]).pow.dvfs.step = DvfsStep.raiseStatus ∧
      State.nat (pow (dv DvfsStep.raiseStatus 1 2) 0 [(0, Obj.CameraSelect.inLineCamera, Val.num 1)]) Obj.Dvfs.opInForce ≤ (pow (dv DvfsStep.raiseStatus 1 2) 0 [(0, Obj.CameraSelect.inLineCamera, Val.num 1)]).pow.dvfs.target ∧
      (pow (dv DvfsStep.raiseStatus 1 2) 0 [(0, Obj.CameraSelect.inLineCamera, Val.num 1)]).pow.held = none ∧
      (∀ (x : Nat × Nat × Val), x ∈ (pow (dv DvfsStep.raiseStatus 1 2) 0 [(0, Obj.CameraSelect.inLineCamera, Val.num 1)]).pow.later → x.snd.fst ≠ Obj.PowerControl.powerRequest)) ∧
    (State.fieldOn (pow (dv DvfsStep.lowerStatus 1 1) 1 []) ∧
      (pow (dv DvfsStep.lowerStatus 1 1) 1 []).pow.dvfs.step = DvfsStep.lowerStatus ∧
      (pow (dv DvfsStep.lowerStatus 1 1) 1 []).pow.later = [] ∧
      (pow (dv DvfsStep.lowerStatus 1 1) 1 []).pow.held = none ∧
      (pow (dv DvfsStep.lowerStatus 1 1) 1 []).pow.dvfs.target = State.nat (pow (dv DvfsStep.lowerStatus 1 1) 1 []) Obj.Dvfs.opInForce) ∧
    ((pow (dv DvfsStep.lowerStatus 1 1) 1 []).pow.dvfs.target ≤ State.nat (pow (dv DvfsStep.lowerStatus 1 1) 1 []) Obj.Dvfs.opInForce) ∧
    (State.fieldOn (pow (dv DvfsStep.raisePoll 1 2) 0 []) ∧
      (pow (dv DvfsStep.raisePoll 1 2) 0 []).pow.dvfs.step = DvfsStep.raisePoll ∧
      State.opVolt (pow (dv DvfsStep.raisePoll 1 2) 0 []) 1 ≤ State.opVolt (pow (dv DvfsStep.raisePoll 1 2) 0 []) (pow (dv DvfsStep.raisePoll 1 2) 0 []).pow.dvfs.next + 10 ∧
      State.opVolt (pow (dv DvfsStep.raisePoll 1 2) 0 []) (pow (dv DvfsStep.raisePoll 1 2) 0 []).pow.dvfs.next ≤ State.opVolt (pow (dv DvfsStep.raisePoll 1 2) 0 []) 1 + 10) ∧
    (State.fieldOn (pow (dv DvfsStep.lowerLock 1 1) 2 []) ∧
      (pow (dv DvfsStep.lowerLock 1 1) 2 []).pow.dvfs.step = DvfsStep.lowerLock) ∧
    (((pow (dv DvfsStep.raisePoll 1 2) 0 []).pow.dvfs.step = DvfsStep.raiseStatus ∨ (pow (dv DvfsStep.raisePoll 1 2) 0 []).pow.dvfs.step = DvfsStep.raisePoll)) ∧
    (State.fieldOn (pow ({ dv DvfsStep.raiseSettle 1 1 with settle := some 5, locked := true }) 0 []) ∧
      (pow ({ dv DvfsStep.raiseSettle 1 1 with settle := some 5, locked := true }) 0 []).pow.dvfs.step = DvfsStep.raiseSettle ∧
      (pow ({ dv DvfsStep.raiseSettle 1 1 with settle := some 5, locked := true }) 0 []).pow.dvfs.settle = some 5 ∧
      5 ≤ max (pow ({ dv DvfsStep.raiseSettle 1 1 with settle := some 5, locked := true }) 0 []).now 10 ∧
      (pow ({ dv DvfsStep.raiseSettle 1 1 with settle := some 5, locked := true }) 0 []).pow.dvfs.locked = true ∧
      (pow ({ dv DvfsStep.raiseSettle 1 1 with settle := some 5, locked := true }) 0 []).pow.later = [] ∧
      (pow ({ dv DvfsStep.raiseSettle 1 1 with settle := some 5, locked := true }) 0 []).pow.held = none ∧
      (pow ({ dv DvfsStep.raiseSettle 1 1 with settle := some 5, locked := true }) 0 []).pow.dvfs.target = (pow ({ dv DvfsStep.raiseSettle 1 1 with settle := some 5, locked := true }) 0 []).pow.dvfs.next) ∧
    ((pow (dv DvfsStep.raisePoll 1 2) 0 []).pow.dvfs.step ≠ DvfsStep.idle ∧
      (pow (dv DvfsStep.raisePoll 1 2) 0 []).pow.dvfs.start + DvfsStep.bound (pow (dv DvfsStep.raisePoll 1 2) 0 []).pow.dvfs.step ≤ max (pow (dv DvfsStep.raisePoll 1 2) 0 []).now (10 ^ 12) ∧
      (pow (dv DvfsStep.raisePoll 1 2) 0 []).pow.later = [] ∧
      (pow (dv DvfsStep.raisePoll 1 2) 0 []).pow.held = none) := by
  refine ⟨⟨?_, ?_, ?_, ?_, ?_⟩, ⟨?_, ?_⟩, ⟨?_, ?_⟩, ⟨?_, ?_, ?_, ?_, ?_⟩, ⟨?_, ?_, ?_, ?_, ?_⟩, ?_, ⟨?_, ?_, ?_, ?_⟩, ⟨?_, ?_⟩, ?_, ⟨?_, ?_, ?_, ?_, ?_, ?_, ?_, ?_⟩, ⟨?_, ?_, ?_, ?_⟩⟩ <;>
    first | decide +kernel | exact opt_all _ (by decide +kernel) | (unfold State.fieldOn; decide +kernel) | (unfold State.hostOn; decide +kernel) | (unfold State.noEpisode; decide +kernel) | exact ⟨by decide +kernel, by decide +kernel, ok_of (by decide +kernel)⟩ | rfl
/-- The hypotheses of each clause of `PowerRequestsCross` are met. -/
theorem witness_PowerRequestsCross :
    (State.accepts (pow idleD 0 []) ope Obj.PowerControl.powerRequest [0#8] (Val.num 0) ∧
      0 ≤ 3 ∧
      (State.nat (pow idleD 0 []) Obj.PowerControl.powerState < 3 ∨ 0 = 3) ∧
      (0 = 0 → State.flag (pow idleD 0 []) Obj.FaultControl.overrunLatched = false ∧ (State.nat (pow idleD 0 []) Obj.PowerControl.powerState = 0 ∨ State.dramFailed (pow idleD 0 []) = false ∧ State.debugBarsRun (pow idleD 0 []) = false))) ∧
    (State.accepts (pow idleD 0 []) ope Obj.PowerControl.powerRequest [1#8] (Val.num 1) ∧
      1 ≤ 3 ∧
      (State.nat (pow idleD 0 []) Obj.PowerControl.powerState < 3 ∨ 1 = 3) ∧
      (1 = 0 → State.flag (pow idleD 0 []) Obj.FaultControl.overrunLatched = false ∧ (State.nat (pow idleD 0 []) Obj.PowerControl.powerState = 0 ∨ State.dramFailed (pow idleD 0 []) = false ∧ State.debugBarsRun (pow idleD 0 []) = false))) ∧
    (State.accepts (pow idleD 0 []) ope Obj.PowerControl.powerRequest [2#8] (Val.num 2) ∧
      2 ≤ 3 ∧
      (State.nat (pow idleD 0 []) Obj.PowerControl.powerState < 3 ∨ 2 = 3) ∧
      (2 = 0 → State.flag (pow idleD 0 []) Obj.FaultControl.overrunLatched = false ∧ (State.nat (pow idleD 0 []) Obj.PowerControl.powerState = 0 ∨ State.dramFailed (pow idleD 0 []) = false ∧ State.debugBarsRun (pow idleD 0 []) = false))) ∧
    (State.accepts (pow idleD 0 []) svc Obj.PowerControl.powerRequest [3#8] (Val.num 3) ∧
      3 ≤ 3 ∧
      (State.nat (pow idleD 0 []) Obj.PowerControl.powerState < 3 ∨ 3 = 3) ∧
      (3 = 0 → State.flag (pow idleD 0 []) Obj.FaultControl.overrunLatched = false ∧ (State.nat (pow idleD 0 []) Obj.PowerControl.powerState = 0 ∨ State.dramFailed (pow idleD 0 []) = false ∧ State.debugBarsRun (pow idleD 0 []) = false))) ∧
    (State.accepts (State.setN (pow idleD 0 []) Obj.PowerControl.powerState 3) ope Obj.PowerControl.powerRequest [0#8] (Val.num 0) ∧
      3 ≤ State.nat (State.setN (pow idleD 0 []) Obj.PowerControl.powerState 3) Obj.PowerControl.powerState ∧
      0 < State.nat (State.setN (pow idleD 0 []) Obj.PowerControl.powerState 3) Obj.PowerControl.powerState) ∧
    (State.accepts (State.setN (pow idleD 0 []) Obj.FaultControl.overrunLatched 1) ope Obj.PowerControl.powerRequest [0#8] (Val.num 0) ∧
      State.nat (State.setN (pow idleD 0 []) Obj.FaultControl.overrunLatched 1) Obj.PowerControl.powerState < 3 ∧
      State.flag (State.setN (pow idleD 0 []) Obj.FaultControl.overrunLatched 1) Obj.FaultControl.overrunLatched = true) ∧
    (State.accepts (State.setN (State.setN (pow idleD 0 []) Obj.PowerControl.powerState 1) (Obj.DramStatus.state 0) 5) ope Obj.PowerControl.powerRequest [0#8] (Val.num 0) ∧
      State.nat (State.setN (State.setN (pow idleD 0 []) Obj.PowerControl.powerState 1) (Obj.DramStatus.state 0) 5) Obj.PowerControl.powerState < 3 ∧
      0 < State.nat (State.setN (State.setN (pow idleD 0 []) Obj.PowerControl.powerState 1) (Obj.DramStatus.state 0) 5) Obj.PowerControl.powerState ∧
      State.flag (State.setN (State.setN (pow idleD 0 []) Obj.PowerControl.powerState 1) (Obj.DramStatus.state 0) 5) Obj.FaultControl.overrunLatched = false ∧
      (State.dramFailed (State.setN (State.setN (pow idleD 0 []) Obj.PowerControl.powerState 1) (Obj.DramStatus.state 0) 5) = true ∨ State.debugBarsRun (State.setN (State.setN (pow idleD 0 []) Obj.PowerControl.powerState 1) (Obj.DramStatus.state 0) 5) = true)) ∧
    (State.accepts (State.setN (pow idleD 0 []) Obj.PowerControl.powerState 3) ope Obj.PowerControl.powerRequest [1#8] (Val.num 1)) ∧
    (State.accepts (State.setN (pow idleD 0 []) Obj.PowerControl.powerState 4) ope Obj.PowerControl.powerRequest [2#8] (Val.num 2) ∧
      3 ≤ State.nat (State.setN (pow idleD 0 []) Obj.PowerControl.powerState 4) Obj.PowerControl.powerState) := by
  refine ⟨⟨?_, ?_, ?_, ?_⟩, ⟨?_, ?_, ?_, ?_⟩, ⟨?_, ?_, ?_, ?_⟩, ⟨?_, ?_, ?_, ?_⟩, ⟨?_, ?_, ?_⟩, ⟨?_, ?_, ?_⟩, ⟨?_, ?_, ?_, ?_, ?_⟩, ?_, ⟨?_, ?_⟩⟩ <;>
    first | decide +kernel | exact opt_all _ (by decide +kernel) | (unfold State.fieldOn; decide +kernel) | (unfold State.hostOn; decide +kernel) | (unfold State.noEpisode; decide +kernel) | exact ⟨by decide +kernel, by decide +kernel, ok_of (by decide +kernel)⟩ | rfl
end Power

/-! ### Resets and start-up (spec/19) -/

namespace Restart
def up2 : State := live bar
def ep (e : Episode) (s : State) : State := { s with rst := { s.rst with field := e } }
def eph (e : Episode) (s : State) : State := { s with rst := { s.rst with host := e } }
def inRst (src reach asserted : Nat) : Episode := { active := true, asserted := asserted, seen := 2 ^ src, reach := reach, loading := false, failed := 0, released := 0, pulseEnd := 0, run := false }
def watched : State := { up2 with rst := { up2.rst with watchdog := some 0 } }
def loadingE (n : Nat) : Episode := { inRst 0 0 0 with loading := true, failed := n }
def recovered (n : Nat) : State := let s := (up2.setN Obj.StartControl.recoveryCause n).setN Obj.PowerControl.powerState 3; { s with rst := { s.rst with recovery := true } }
/-- A signed image with 1 byte of payload. -/
def fwImage (kind ver : Nat) : Bytes := leBytes 4 0x57465A41 ++ leBytes 1 kind ++ leBytes 1 ver ++ leBytes 2 0 ++ leBytes 4 5 ++ leBytes 4 1 ++ List.replicate 112 0#8 ++ [1#8] ++ List.replicate 96 0#8
def booting (s : State) : State := { s with rst := { s.rst with host := { s.rst.host with run := false } }, flash := { s.flash with slots := [(0, fwImage 0 1), (2, fwImage 1 1)] } } |>.setN (xtalState .host) 1
def fieldBooting (run : Nat) : State := let s := ((live (bar ++ [(xtalState .field, 1)])).setN (Obj.SpanChannel.state 0) 2).setN (Obj.SpanChannel.state 6) 2; { s with rst := { s.rst with field := { s.rst.field with run := false } }, flash := { s.flash with slots := [(2, fwImage 1 1)] }, sec := { s.sec with fieldRun := run } }
def atStep (n : Nat) (l : List (Nat × Int)) : State := let s := live (bar ++ l); { s with rst := { s.rst with fieldStep := n } }
def blockWaits (b : BlockKind) (i : Nat) : State := { up2 with rst := { up2.rst with waiting := [(b, i, 0)] } }
def activating : State := { up2 with sec := { up2.sec with armed := true, activateAt := some 0 } }
/-- The hypotheses of each clause of `ResetSourcesAssert` are met. -/
theorem witness_ResetSourcesAssert :
    (State.noEpisode up2 Side.host ∧
      2000 < 3000) ∧
    (State.noEpisode up2 Side.field) ∧
    (2000 ≤ 2000) ∧
    (bit (State.episode (ep (inRst 0 0 1) up2) Side.field).asserted 0 = true) ∧
    (bit (State.episode (eph (inRst 1 2 2) up2) Side.host).asserted 1 = true) ∧
    ((State.episode up2 Side.host).active = false ∧
      (State.episode up2 Side.host).run = true ∧
      (Side.host = Side.host ∨ State.role up2 ≠ 1)) ∧
    ((State.episode up2 Side.field).active = false ∧
      (State.episode up2 Side.field).run = true ∧
      (Side.field = Side.host ∨ State.role up2 ≠ 1)) ∧
    (State.noEpisode watched Side.host ∧
      State.noEpisode watched Side.field ∧
      watched.rst.watchdog = some 0 ∧
      watched.rst.recovery = false ∧
      0 + State.nat watched Obj.StartControl.bootWatchdog * 10000000 ≤ max watched.now (10 ^ 13)) ∧
    (125 ≤ 125) ∧
    (114 < 115 ∧
      bit (ep (inRst 6 1 64) (eph (inRst 6 1 64) up2)).rst.host.asserted 6 = true ∧
      bit (ep (inRst 6 1 64) (eph (inRst 6 1 64) up2)).rst.field.asserted 6 = true) ∧
    (State.accepts up2 svc Obj.StartControl.warmReset [1#8] (Val.num 1)) ∧
    (State.accepts up2 svc Obj.StartControl.warmReset [2#8] (Val.num 2)) ∧
    (State.accepts up2 svc Obj.StartControl.warmReset [3#8] (Val.num 3)) := by
  refine ⟨⟨?_, ?_⟩, ?_, ?_, ?_, ?_, ⟨?_, ?_, ?_⟩, ⟨?_, ?_, ?_⟩, ⟨?_, ?_, ?_, ?_, ?_⟩, ?_, ⟨?_, ?_, ?_⟩, ?_, ?_, ?_⟩ <;>
    first | decide +kernel | exact opt_all _ (by decide +kernel) | (unfold State.fieldOn; decide +kernel) | (unfold State.hostOn; decide +kernel) | (unfold State.noEpisode; decide +kernel) | exact ⟨by decide +kernel, by decide +kernel, ok_of (by decide +kernel)⟩ | rfl
/-- The hypotheses of each clause of `ResetsReleaseOrRecover` are met. -/
theorem witness_ResetsReleaseOrRecover :
    ((State.episode (ep (inRst 0 0 0) up2) Side.field).active = true ∧
      (State.episode (ep (inRst 0 0 0) up2) Side.field).seen ≠ 0 ∧
      (State.episode (ep (inRst 0 0 0) up2) Side.field).loading = false ∧
      (State.episode (ep (inRst 0 0 0) up2) Side.field).asserted = 0 ∧
      (State.episode (ep (inRst 0 0 0) up2) Side.field).pulseEnd ≤ max (ep (inRst 0 0 0) up2).now 10 ∧
      (State.episode (ep (inRst 0 0 0) up2) Side.field).reach = 0) ∧
    ((State.episode (ep (inRst 5 2 0) up2) Side.field).active = true ∧
      (State.episode (ep (inRst 5 2 0) up2) Side.field).seen ≠ 0 ∧
      (State.episode (ep (inRst 5 2 0) up2) Side.field).loading = false ∧
      (State.episode (ep (inRst 5 2 0) up2) Side.field).asserted = 0 ∧
      (State.episode (ep (inRst 5 2 0) up2) Side.field).pulseEnd ≤ max (ep (inRst 5 2 0) up2).now 10 ∧
      (State.episode (ep (inRst 5 2 0) up2) Side.field).reach ≠ 0 ∧
      (ep (inRst 5 2 0) up2).rst.recovery = false ∧
      State.lifecycle (ep (inRst 5 2 0) up2) ≠ 4 ∧
      (Side.field = Side.field ∨ State.fuseFault (ep (inRst 5 2 0) up2) = false ∧ State.nat (ep (inRst 5 2 0) up2) Obj.StartControl.bootAttempts < 3)) ∧
    ((State.episode (eph (inRst 5 2 0) up2) Side.host).active = true ∧
      (State.episode (eph (inRst 5 2 0) up2) Side.host).seen ≠ 0 ∧
      (State.episode (eph (inRst 5 2 0) up2) Side.host).loading = false ∧
      (State.episode (eph (inRst 5 2 0) up2) Side.host).asserted = 0 ∧
      (State.episode (eph (inRst 5 2 0) up2) Side.host).pulseEnd ≤ max (eph (inRst 5 2 0) up2).now 10 ∧
      (State.episode (eph (inRst 5 2 0) up2) Side.host).reach ≠ 0 ∧
      (eph (inRst 5 2 0) up2).rst.recovery = false ∧
      State.lifecycle (eph (inRst 5 2 0) up2) ≠ 4 ∧
      (Side.host = Side.field ∨ State.fuseFault (eph (inRst 5 2 0) up2) = false ∧ State.nat (eph (inRst 5 2 0) up2) Obj.StartControl.bootAttempts < 3)) ∧
    ((State.episode (State.setN (eph (inRst 5 2 0) up2) Obj.StartControl.bootAttempts 3) Side.host).active = true ∧
      (State.episode (State.setN (eph (inRst 5 2 0) up2) Obj.StartControl.bootAttempts 3) Side.host).seen ≠ 0 ∧
      (State.episode (State.setN (eph (inRst 5 2 0) up2) Obj.StartControl.bootAttempts 3) Side.host).loading = false ∧
      (State.episode (State.setN (eph (inRst 5 2 0) up2) Obj.StartControl.bootAttempts 3) Side.host).asserted = 0 ∧
      (State.episode (State.setN (eph (inRst 5 2 0) up2) Obj.StartControl.bootAttempts 3) Side.host).pulseEnd ≤ max (State.setN (eph (inRst 5 2 0) up2) Obj.StartControl.bootAttempts 3).now 10 ∧
      (State.episode (State.setN (eph (inRst 5 2 0) up2) Obj.StartControl.bootAttempts 3) Side.host).reach ≠ 0 ∧
      (State.setN (eph (inRst 5 2 0) up2) Obj.StartControl.bootAttempts 3).rst.recovery = false ∧
      State.lifecycle (State.setN (eph (inRst 5 2 0) up2) Obj.StartControl.bootAttempts 3) ≠ 4 ∧
      (State.fuseFault (State.setN (eph (inRst 5 2 0) up2) Obj.StartControl.bootAttempts 3) = true ∨ 3 ≤ State.nat (State.setN (eph (inRst 5 2 0) up2) Obj.StartControl.bootAttempts 3) Obj.StartControl.bootAttempts)) ∧
    ((State.episode (ep (loadingE 0) up2) Side.field).active = true ∧
      (State.episode (ep (loadingE 0) up2) Side.field).seen ≠ 0 ∧
      (State.episode (ep (loadingE 0) up2) Side.field).loading = true ∧
      (State.episode (ep (loadingE 0) up2) Side.field).released + 400000 * ((State.episode (ep (loadingE 0) up2) Side.field).failed + 1) ≤ max (ep (loadingE 0) up2).now (10 ^ 9) ∧
      (¬true ∈ List.take (match Side.field with | Side.host => 3 | Side.field => 2) [false, false]) ∧
      (State.episode (ep (loadingE 0) up2) Side.field).reach = 0 ∧
      (ep (loadingE 0) up2).rst.recovery = false ∧
      (Side.field = Side.field ∨ State.lifecycle (ep (loadingE 0) up2) ≠ 4 ∧ State.nat (ep (loadingE 0) up2) (Obj.FuseStatus.bankState 1) = 0 ∧ State.nat (ep (loadingE 0) up2) Obj.StartControl.bootAttempts < 3)) ∧
    ((State.episode (eph (loadingE 1) up2) Side.host).active = true ∧
      (State.episode (eph (loadingE 1) up2) Side.host).seen ≠ 0 ∧
      (State.episode (eph (loadingE 1) up2) Side.host).loading = true ∧
      (State.episode (eph (loadingE 1) up2) Side.host).released + 400000 * ((State.episode (eph (loadingE 1) up2) Side.host).failed + 1) ≤ max (eph (loadingE 1) up2).now (10 ^ 9) ∧
      (true ∈ List.take (match Side.host with | Side.host => 3 | Side.field => 2) [false, true, false]) ∧
      (State.episode (eph (loadingE 1) up2) Side.host).failed < 2) ∧
    ((State.episode (eph (loadingE 2) up2) Side.host).active = true ∧
      (State.episode (eph (loadingE 2) up2) Side.host).seen ≠ 0 ∧
      (State.episode (eph (loadingE 2) up2) Side.host).loading = true ∧
      (State.episode (eph (loadingE 2) up2) Side.host).released + 400000 * ((State.episode (eph (loadingE 2) up2) Side.host).failed + 1) ≤ max (eph (loadingE 2) up2).now (10 ^ 9) ∧
      2 ≤ (State.episode (eph (loadingE 2) up2) Side.host).failed) ∧
    (State.accepts (recovered 2) svc Obj.StartControl.recoveryExit [1#8] (Val.num 1) ∧
      (recovered 2).rst.recovery = true ∧
      State.nat (recovered 2) Obj.StartControl.recoveryCause = 2) ∧
    (State.accepts (recovered 1) svc Obj.StartControl.recoveryExit [1#8] (Val.num 1) ∧
      (recovered 1).rst.recovery = true ∧
      State.nat (recovered 1) Obj.StartControl.recoveryCause ≠ 2 ∧
      State.noEpisode (recovered 1) Side.field) := by
  refine ⟨⟨?_, ?_, ?_, ?_, ?_, ?_⟩, ⟨?_, ?_, ?_, ?_, ?_, ?_, ?_, ?_, ?_⟩, ⟨?_, ?_, ?_, ?_, ?_, ?_, ?_, ?_, ?_⟩, ⟨?_, ?_, ?_, ?_, ?_, ?_, ?_, ?_, ?_⟩, ⟨?_, ?_, ?_, ?_, ?_, ?_, ?_, ?_⟩, ⟨?_, ?_, ?_, ?_, ?_, ?_⟩, ⟨?_, ?_, ?_, ?_, ?_⟩, ⟨?_, ?_, ?_⟩, ⟨?_, ?_, ?_, ?_⟩⟩ <;>
    first | decide +kernel | exact opt_all _ (by decide +kernel) | (unfold State.fieldOn; decide +kernel) | (unfold State.hostOn; decide +kernel) | (unfold State.noEpisode; decide +kernel) | exact ⟨by decide +kernel, by decide +kernel, ok_of (by decide +kernel)⟩ | rfl
/-- The key that the images carry is the root key of the part. -/
def Keyed : Prop := ∀ kind, Config.sha384 (sub (fwImage kind 1) 16 97) = Config.partBytes Obj.Security.rootKeyHash
/-- The signature of the images verifies under that key. -/
def Signed : Prop := ∀ kind, Config.ecdsaVerify (sub (fwImage kind 1) 16 97) (Config.sha384 ((fwImage kind 1).take (128 + fld (fwImage kind 1) 12 4)))
  (sub (fwImage kind 1) (128 + fld (fwImage kind 1) 12 4) 96) = true

/-- An image whose header is right, with its key and signature, is a signed image. -/
theorem signed_of {s : State} {kind : Nat} {b : Bytes}
    (h : (s.keysOk && fld b 0 4 == 0x57465A41 && fld b 4 1 == kind && decide (fld b 12 4 ≤ if kind = 0 then 2 * 2 ^ 20 - 224 else 24 * 2 ^ 20 - 224)
      && decide (128 + fld b 12 4 + 96 ≤ b.length)) = true)
    (e1 : Config.sha384 (sub b 16 97) = Config.partBytes Obj.Security.rootKeyHash)
    (e2 : Config.ecdsaVerify (sub b 16 97) (Config.sha384 (b.take (128 + fld b 12 4))) (sub b (128 + fld b 12 4) 96) = true) :
    s.signedImage kind b = true := by
  unfold State.signedImage
  simp only [h, e1, e2, beq_self_eq_true, Bool.and_self]

/-- A part whose slot A of a Kind holds the image takes it, when slot B holds none. -/
theorem slot_taken (hkey : Keyed) (hsig : Signed) {s : State} {kind : Nat} (hb : s.slotBytes (2 * kind) = fwImage kind 1)
    (h : (s.keysOk && kind < 2 && s.rollback kind ≤ 1 && !bit s.flash.marked (2 * kind)) = true) (h0 : s.slotState (2 * kind + 1) = 0) :
    s.chooseSlot kind = some (2 * kind) := by
  have hk : kind = 0 ∨ kind = 1 := by simp at h; omega
  have h1 : s.slotState (2 * kind) = 1 := by
    have hd : 2 * kind / 2 = kind := by omega
    unfold State.slotState
    rw [hb, hd]
    have hs : s.signedImage kind (fwImage kind 1) = true := by
      have e1 := hkey kind
      have e2 := hsig kind
      simp only [Bool.and_eq_true] at h
      rcases hk with rfl | rfl
      all_goals
        exact signed_of (by rw [h.1.1.1]; decide) e1 e2
    have hv : fld (fwImage kind 1) 5 1 = 1 := by rcases hk with rfl | rfl <;> decide
    have he : (fwImage kind 1).isEmpty = false := by rcases hk with rfl | rfl <;> decide
    simp only [Bool.and_eq_true, decide_eq_true_eq, Bool.not_eq_true'] at h
    simp [hs, hv, he, h.2, h.1.2]
  simp [State.chooseSlot, h1, h0]

/-- The hypotheses of each clause of `StartUpRunsItsSteps` are met (for the encoder and the verifier that the premises name). -/
theorem witness_StartUpRunsItsSteps (hkey : Keyed) (hsig : Signed) :
    (State.hostOn (booting up2) ∧
      (booting up2).rst.host.run = false ∧
      State.nat (booting up2) (xtalState Side.host) = 1 ∧
      State.chooseSlot (booting up2) 0 = some 0 ∧
      (booting up2).rst.recovery = false ∧
      (booting up2).flash.copyA = [] ∧
      (booting up2).flash.copyB = []) ∧
    (State.hostOn (booting (recovered 1)) ∧
      (booting (recovered 1)).rst.host.run = false ∧
      State.nat (booting (recovered 1)) (xtalState Side.host) = 1 ∧
      State.chooseSlot (booting (recovered 1)) 0 = some 0 ∧
      (booting (recovered 1)).rst.recovery = true) ∧
    (State.fieldOn (fieldBooting 0) ∧
      State.hostUp (fieldBooting 0) = true ∧
      (fieldBooting 0).rst.recovery = false ∧
      (fieldBooting 0).rst.field.run = false ∧
      State.nat (fieldBooting 0) (xtalState Side.field) = 1 ∧
      State.inUseOf (fieldBooting 0) 0 ≠ [] ∧
      State.inUseOf (fieldBooting 0) 6 ≠ [] ∧
      State.chooseSlot (fieldBooting 0) 1 = some 2 ∧
      (fieldBooting 0).sec.fieldRun ≤ fld (State.slotBytes (fieldBooting 0) 2) 5 1) ∧
    (State.fieldOn (fieldBooting 9) ∧
      State.hostUp (fieldBooting 9) = true ∧
      (fieldBooting 9).rst.recovery = false ∧
      (fieldBooting 9).rst.field.run = false ∧
      State.nat (fieldBooting 9) (xtalState Side.field) = 1 ∧
      State.inUseOf (fieldBooting 9) 0 ≠ [] ∧
      State.inUseOf (fieldBooting 9) 6 ≠ [] ∧
      State.chooseSlot (fieldBooting 9) 1 = some 2 ∧
      fld (State.slotBytes (fieldBooting 9) 2) 5 1 < (fieldBooting 9).sec.fieldRun) ∧
    (State.fieldOn (atStep 8 []) ∧
      (atStep 8 []).rst.fieldStep = 8 ∧
      (atStep 8 []).rst.field.run = true ∧
      State.portsSettled (atStep 8 []) = true ∧
      State.hostUp (atStep 8 []) = true ∧
      (State.nat (atStep 8 []) Obj.StartControl.startConfirmMode = 0 ∨ (atStep 8 []).rst.confirmed = true)) ∧
    (State.fieldOn (atStep 8 [(Obj.StartControl.startConfirmMode, 1)]) ∧
      (atStep 8 [(Obj.StartControl.startConfirmMode, 1)]).rst.fieldStep = 8 ∧
      (atStep 8 [(Obj.StartControl.startConfirmMode, 1)]).rst.field.run = true ∧
      State.portsSettled (atStep 8 [(Obj.StartControl.startConfirmMode, 1)]) = true ∧
      State.hostUp (atStep 8 [(Obj.StartControl.startConfirmMode, 1)]) = true ∧
      State.nat (atStep 8 [(Obj.StartControl.startConfirmMode, 1)]) Obj.StartControl.startConfirmMode ≠ 0 ∧
      (atStep 8 [(Obj.StartControl.startConfirmMode, 1)]).rst.confirmed = false) ∧
    (State.accepts (atStep 10 [(Obj.StartControl.startStage, 10)]) svc Obj.StartControl.confirmStart [1#8] (Val.num 1) ∧
      State.nat (atStep 10 [(Obj.StartControl.startStage, 10)]) Obj.StartControl.startStage = 10 ∧
      State.flag (atStep 10 [(Obj.StartControl.startStage, 10)]) Obj.StartControl.startComplete = false) ∧
    (State.accepts (atStep 8 [(Obj.StartControl.startStage, 8)]) svc Obj.StartControl.confirmStart [1#8] (Val.num 1) ∧
      State.nat (atStep 8 [(Obj.StartControl.startStage, 8)]) Obj.StartControl.startStage ≠ 10) := by
  refine ⟨⟨?_, ?_, ?_, ?_, ?_, ?_, ?_⟩, ⟨?_, ?_, ?_, ?_, ?_⟩, ⟨?_, ?_, ?_, ?_, ?_, ?_, ?_, ?_, ?_⟩, ⟨?_, ?_, ?_, ?_, ?_, ?_, ?_, ?_, ?_⟩, ⟨?_, ?_, ?_, ?_, ?_, ?_⟩, ⟨?_, ?_, ?_, ?_, ?_, ?_, ?_⟩, ⟨?_, ?_, ?_⟩, ⟨?_, ?_⟩⟩ <;>
    first | decide +kernel | exact opt_all _ (by decide +kernel) | (unfold State.fieldOn; decide +kernel) | (unfold State.hostOn; decide +kernel) | (unfold State.noEpisode; decide +kernel) | exact ⟨by decide +kernel, by decide +kernel, ok_of (by decide +kernel)⟩ | rfl | exact slot_taken hkey hsig rfl (by decide +kernel) (by decide +kernel)
/-- The hypotheses of each clause of `TimeoutsResetAndActivate` are met. -/
theorem witness_TimeoutsResetAndActivate :
    (3 < 64 ∧
      (List.find? (fun w => w.fst == BlockKind.pier && w.snd.fst == 3) (blockWaits BlockKind.pier 3).rst.waiting = some (BlockKind.pier, 3, 0)) ∧
      (BlockKind.pier, 3, 0).snd.snd + State.nat (blockWaits BlockKind.pier 3) (Obj.BlockReset.pierIdleTimeout + blockIx BlockKind.pier) * 10000 ≤ max (blockWaits BlockKind.pier 3).now (10 ^ 12)) ∧
    (63 < 64 ∧
      (List.find? (fun w => w.fst == BlockKind.ring && w.snd.fst == 63) (blockWaits BlockKind.ring 63).rst.waiting = some (BlockKind.ring, 63, 0)) ∧
      (BlockKind.ring, 63, 0).snd.snd + State.nat (blockWaits BlockKind.ring 63) (Obj.BlockReset.pierIdleTimeout + blockIx BlockKind.ring) * 10000 ≤ max (blockWaits BlockKind.ring 63).now (10 ^ 12)) ∧
    (0 < 64 ∧
      (List.find? (fun w => w.fst == BlockKind.camera && w.snd.fst == 0) (blockWaits BlockKind.camera 0).rst.waiting = some (BlockKind.camera, 0, 0)) ∧
      (BlockKind.camera, 0, 0).snd.snd + State.nat (blockWaits BlockKind.camera 0) (Obj.BlockReset.pierIdleTimeout + blockIx BlockKind.camera) * 10000 ≤ max (blockWaits BlockKind.camera 0).now (10 ^ 12)) ∧
    (2 < 64 ∧
      (List.find? (fun w => w.fst == BlockKind.channel && w.snd.fst == 2) (blockWaits BlockKind.channel 2).rst.waiting = some (BlockKind.channel, 2, 0)) ∧
      (BlockKind.channel, 2, 0).snd.snd + State.nat (blockWaits BlockKind.channel 2) (Obj.BlockReset.pierIdleTimeout + blockIx BlockKind.channel) * 10000 ≤ max (blockWaits BlockKind.channel 2).now (10 ^ 12)) ∧
    (15 < 64 ∧
      (List.find? (fun w => w.fst == BlockKind.engine && w.snd.fst == 15) (blockWaits BlockKind.engine 15).rst.waiting = some (BlockKind.engine, 15, 0)) ∧
      (BlockKind.engine, 15, 0).snd.snd + State.nat (blockWaits BlockKind.engine 15) (Obj.BlockReset.pierIdleTimeout + blockIx BlockKind.engine) * 10000 ≤ max (blockWaits BlockKind.engine 15).now (10 ^ 12)) ∧
    (State.accepts up2 svc Obj.Ageing.arm [1#8] (Val.num 1)) ∧
    (State.fieldOn activating ∧
      activating.sec.activateAt = some 0 ∧
      max activating.now 1000 ≤ 0 + 4000000000) ∧
    (max activating.now 4000000000 ≤ 0 + 4000000000 ∧
      0 + 4000000000 ≤ max activating.now 4000000000) ∧
    (State.fieldOn ({ activating with flash := ({ activating.flash with slots := [(2, fwImage 1 1)] }) }) ∧
      ({ activating with flash := ({ activating.flash with slots := [(2, fwImage 1 1)] }) }).sec.activateAt = some 0 ∧
      0 + 4000000000 ≤ max ({ activating with flash := ({ activating.flash with slots := [(2, fwImage 1 1)] }) }).now 5000000000) := by
  refine ⟨⟨?_, ?_, ?_⟩, ⟨?_, ?_, ?_⟩, ⟨?_, ?_, ?_⟩, ⟨?_, ?_, ?_⟩, ⟨?_, ?_, ?_⟩, ?_, ⟨?_, ?_, ?_⟩, ⟨?_, ?_⟩, ⟨?_, ?_, ?_⟩⟩ <;>
    first | decide +kernel | exact opt_all _ (by decide +kernel) | (unfold State.fieldOn; decide +kernel) | (unfold State.hostOn; decide +kernel) | (unfold State.noEpisode; decide +kernel) | exact ⟨by decide +kernel, by decide +kernel, ok_of (by decide +kernel)⟩ | rfl
end Restart

/-! ### Calibration and the control cycle (spec/20) -/

namespace Calib
def cal0 : State := (live (bar ++ [(Obj.PortStatus.state 0, 2), (Obj.PortStatus.stage 0, 8), (Obj.HeadThermal.state 0, 0), (Obj.HeadThermal.mode 0, 1)])).setPort 0 { Port.init with locked := true, claim := some 7 }
def calDue (subj inst : Nat) : State := { cal0 with cal := { cal0.cal with due := [{ subj := subj, inst := inst, since := 0, warned := false }] } }
def held : State := { live bar with pow := { Pow.init with state := 1 } }
def margins : List PathMargin := (List.range 4).map (fun n => { mv := held.nat (Obj.OperatingPoint.nominalVoltage n) + held.nat (Obj.OperatingPoint.guardband n), mhz := held.nat (Obj.OperatingPoint.frequency n), ps := 500 })
/-- The first cycle falls due as the slave reaches 25,000 ns. -/
def halted : State := { cal0 with rst := { cal0.rst with field := { cal0.rst.field with run := false } } }
def idle7 : List IdleCount := [{ lane := .span 7, ins := 3, del := 2 }]
def cycled : State := { cal0 with tim := { cal0.tim with cycleNext := some 25000 } }
def entry0 : SchedEntry := { seq := 1, key := 1000, lineKey := false, plane := 0, phase := 0, notify := false, action := 3, order := 0, tag := 5, param := 0 }
def armed0 (pos : Int) : State := let s := live bar; { s with sched := { s.sched with table := [entry0] }, web := { s.web with lineVN := 1000000, lineVD := 1, lineFwd := true, pos := pos * 2 ^ 48 } }
/-- The hypotheses of each clause of `CalibrationRuns` are met. -/
theorem witness_CalibrationRuns :
    (State.accepts cal0 ope (Obj.CalSubject.runNow 3) [0#8] (Val.num 0) ∧
      0 < State.calInstances cal0 3) ∧
    (State.accepts cal0 ope (Obj.CalSubject.runNow 1) [0#8] (Val.num 0) ∧
      0 < State.calInstances cal0 1) ∧
    (State.accepts cal0 ope (Obj.CalSubject.runNow 4) [0#8] (Val.num 0) ∧
      0 < State.calInstances cal0 4) ∧
    (State.accepts cal0 ope (Obj.CalSubject.runNow 5) [9#8] (Val.num 9) ∧
      State.calInstances cal0 5 ≤ 9) ∧
    (State.fieldOn (calDue 1 0) ∧
      0 < 64 ∧
      State.isDue (calDue 1 0) 1 (List.headD (State.link (calDue 1 0) 0) 0) = true ∧
      List.length [40] = List.length (State.link (calDue 1 0) 0) ∧
      (∀ (p : Nat), p ∈ State.link (calDue 1 0) 0 → (State.portUp (calDue 1 0) p = true ∨ State.owner (calDue 1 0) = false ∧ State.portState (calDue 1 0) p = 4) ∧ (State.meas_ (calDue 1 0) p).chunk = none ∧ (State.owner (calDue 1 0) = false ∨ inUse (calDue 1 0).dict p = false ∨ State.headIdle (State.tickTo (calDue 1 0) 10) p (2000000 * List.length (State.link (calDue 1 0) 0)) = true)) ∧
      (eyeCheck (State.nat (calDue 1 0) Obj.CalLimits.pierMinEye) (List.map (fun x => ((State.port (calDue 1 0) x.fst).eye, x.snd)) (List.zip (State.link (calDue 1 0) 0) [40])) = none)) ∧
    (List.length [0] = List.length (State.link (calDue 1 0) 0) ∧
      (eyeCheck (State.nat (calDue 1 0) Obj.CalLimits.pierMinEye) (List.map (fun x => ((State.port (calDue 1 0) x.fst).eye, x.snd)) (List.zip (State.link (calDue 1 0) 0) [0])) = some 1)) ∧
    (List.length ([] : List Nat) < List.length (State.link (calDue 1 0) 0)) ∧
    (State.fieldOn (calDue 4 0) ∧
      (List.find? (fun d => d.subj == 4 && d.inst == 0) (calDue 4 0).cal.due = some (⟨4, 0, 0, false⟩ : CalDue)) ∧
      (⟨4, 0, 0, false⟩ : CalDue).warned = false ∧
      (⟨4, 0, 0, false⟩ : CalDue).since + 1000000000 * State.num (calDue 4 0) Obj.CalLimits.deferWarn ≤ TimeBase.ns (State.tickTo (calDue 4 0) (10 ^ 16)).tim.slave) ∧
    (State.fieldOn cal0 ∧
      (∀ (a : Nat), cal0.cal.roAt = some a → a + 10000000000 ≤ max cal0.now 10)) ∧
    (State.accepts held svc Obj.Ageing.replanNow [1#8] (Val.num 1) ∧
      State.anyPlane held = false ∧
      (∀ (c : Nat), c < 4 → State.flag held (Obj.CameraPort.enable c) = false) ∧
      held.pow.state = 1 ∧
      (∃ n, n < 4 ∧ State.num held Obj.Dvfs.opTarget = ↑n) ∧
      State.nat held Obj.Dvfs.opInForce < 4 ∧
      (∀ (n : Nat), n < 4 → ∃ ps, leastMargin margins (State.nat held (Obj.OperatingPoint.nominalVoltage n) + State.nat held (Obj.OperatingPoint.guardband n)) (State.nat held (Obj.OperatingPoint.frequency n)) = some ps ∧ ↑(State.nat held Obj.Ageing.marginTarget) ≤ ps)) ∧
    (State.accepts (State.setN held (Obj.PlaneConfig.enable 2) 1) svc Obj.Ageing.replanNow [1#8] (Val.num 1) ∧
      State.anyPlane (State.setN held (Obj.PlaneConfig.enable 2) 1) = true) ∧
    (State.accepts (State.setN held (Obj.CameraPort.enable 0) 1) svc Obj.Ageing.replanNow [1#8] (Val.num 1) ∧
      State.anyPlane (State.setN held (Obj.CameraPort.enable 0) 1) = false ∧
      (∃ c, c < 4 ∧ State.flag (State.setN held (Obj.CameraPort.enable 0) 1) (Obj.CameraPort.enable c) = true)) := by
  refine ⟨⟨?_, ?_⟩, ⟨?_, ?_⟩, ⟨?_, ?_⟩, ⟨?_, ?_⟩, ⟨?_, ?_, ?_, ?_, ?_, ?_⟩, ⟨?_, ?_⟩, ?_, ⟨?_, ?_, ?_, ?_⟩, ⟨?_, ?_⟩, ⟨?_, ?_, ?_, ?_, ?_, ?_, ?_⟩, ⟨?_, ?_⟩, ⟨?_, ?_, ?_⟩⟩ <;>
    first | decide +kernel | exact opt_all _ (by decide +kernel) | (unfold State.fieldOn; decide +kernel) | (unfold State.hostOn; decide +kernel) | (unfold State.noEpisode; decide +kernel) | exact ⟨by decide +kernel, by decide +kernel, ok_of (by decide +kernel)⟩ | rfl | exact ⟨0, by decide +kernel⟩ | exact ⟨1, by decide +kernel⟩ | exact ⟨2, by decide +kernel⟩ | exact ⟨3, by decide +kernel⟩
/-- The hypotheses of each clause of `CyclesRunAndTriggersCommit` are met. -/
theorem witness_CyclesRunAndTriggersCommit :
    (State.fieldOn cal0 ∧
      State.cycleDue (State.tickTo cal0 250000) = true ∧
      cal0.rst.field.run = true ∧
      cal0.flt.fieldLog.overflow = false ∧
      cal0.flt.todo = [] ∧
      cal0.rst.waiting = [] ∧
      cal0.span.lostF = false ∧
      cal0.health.res = [] ∧
      cal0.health.reports = [] ∧
      cal0.health.probes = [] ∧
      cal0.health.dirty = [] ∧
      (∀ (k : Nat), k < 4 → State.flag cal0 (Obj.PlaneConfig.enable k) = false) ∧
      State.disagrees (State.tickTo cal0 250000) = false ∧
      State.owner cal0 = true ∧
      [4000, 4100] ≠ []) ∧
    (State.fieldOn halted ∧
      State.cycleDue (State.tickTo halted 250000) = true ∧
      halted.rst.field.run = false) ∧
    (State.fieldOn cycled ∧
      State.cycleDue (State.tickTo cycled 10) = false) ∧
    (State.fieldOn (armed0 1000) ∧
      (List.find? (fun e => e.seq == 1 && e.action == 3) (armed0 1000).sched.table = some entry0) ∧
      State.predictKey (State.tickTo (armed0 1000) 10) entry0 = some 0 ∧
      0 ≤ max (armed0 1000).now 10 + 20000) ∧
    (State.fieldOn (armed0 900) ∧
      (List.find? (fun e => e.seq == 1 && e.action == 3) (armed0 900).sched.table = some entry0) ∧
      State.predictKey (State.tickTo (armed0 900) 10) entry0 = some 1000000 ∧
      max (armed0 900).now 10 + 20000 < 1000000) := by
  refine ⟨⟨?_, ?_, ?_, ?_, ?_, ?_, ?_, ?_, ?_, ?_, ?_, ?_, ?_, ?_, ?_⟩, ⟨?_, ?_, ?_⟩, ⟨?_, ?_⟩, ⟨?_, ?_, ?_, ?_⟩, ⟨?_, ?_, ?_, ?_⟩⟩ <;>
    first | decide +kernel | exact opt_all _ (by decide +kernel) | (unfold State.fieldOn; decide +kernel) | (unfold State.hostOn; decide +kernel) | (unfold State.noEpisode; decide +kernel) | exact ⟨by decide +kernel, by decide +kernel, ok_of (by decide +kernel)⟩ | rfl
end Calib

/-! ### The pair (spec/21) -/

namespace Pair
/-- A part in a role with DuplexMode `m`, port 0 in state `st`. -/
def pair (role m st : Nat) (l : List (Nat × Int)) : State := (live (bar ++ [(Obj.DuplexStatus.role, (role : Int)), (Obj.DuplexControl.duplexMode, (m : Int)), (Obj.PortStatus.state 0, (st : Int)), (Obj.PortStatus.stage 0, if st = 2 then 8 else 0)] ++ l)).setPort 0 { Port.init with locked := true, claim := if st = 2 then some 6 else none }
def heard (s : State) (role at_ : Nat) : State := { s with dux := { s.dux with statusAt := some at_ } } |>.setN Obj.DuplexStatus.peerRole role
def probing : State := let s := pair 2 1 0 []; { s with dux := { s.dux with probes := [(5, 0)] } }
def statusOf (role sync ack : Nat) : Bytes := leBytes 1 role ++ leBytes 1 sync ++ leBytes 1 1 ++ leBytes 1 0 ++ leBytes 4 ack ++ leBytes 8 0
def tailing : State := let s := pair 1 1 2 []; { s with dux := { s.dux with tail := [(leBytes 16 1, some (3, 3))], journal := [] } }
def outdone : State := pair 1 1 2 [(Obj.DuplexControl.faultedPierLimit, 1), (Obj.PierConfig.faulted 1, 1), (Obj.PierConfig.faulted 2, 1)]
/-- A mirror record with a Position section. -/
def recordOf (cyc : Nat) : Bytes :=
  let sec := leBytes 1 1 ++ leBytes 1 0 ++ leBytes 2 24 ++ leBytes 24 5
  let b := leBytes 4 0x524D5A41 ++ leBytes 4 cyc ++ leBytes 4 6 ++ leBytes 1 0 ++ leBytes 1 1 ++ leBytes 2 (32 + 28 + 4) ++ leBytes 16 0 ++ sec
  b ++ leBytes 4 (crc32 b)
def following : State := let s := pair 2 1 0 []; { s with dux := { s.dux with got := some 4, dAdopted := some 0 } }
def silent (l : Nat) : State := let s := pair 2 1 0 [(Obj.DuplexStatus.synced, 1)]; { s with dux := { s.dux with mirrorAt := some 0, lastLineAt := l } }
def alone : State := let s := pair 2 1 0 [(Obj.DuplexControl.aloneStart, 1)]; { s with dux := { s.dux with since := some 0 } }
/-- The hypotheses of each clause of `PairRolesChange` are met. -/
theorem witness_PairRolesChange :
    (State.accepts (pair 0 0 0 [(Obj.PlaneConfig.enable 1, 1)]) svc Obj.DuplexControl.duplexMode [1#8] (Val.num 1) ∧
      State.anyPlane (pair 0 0 0 [(Obj.PlaneConfig.enable 1, 1)]) = true) ∧
    (State.accepts (pair 0 0 0 []) svc Obj.DuplexControl.duplexMode [1#8] (Val.num 1) ∧
      State.anyPlane (pair 0 0 0 []) = false ∧
      State.role (pair 0 0 0 []) ≠ 3 ∧
      State.num (pair 0 0 0 []) Obj.DuplexControl.duplexMode ≠ 1 ∧
      (∀ (h : Nat), h < 64 → State.portUp (pair 0 0 0 []) h = false)) ∧
    (State.accepts (pair 0 0 2 []) svc Obj.DuplexControl.duplexMode [1#8] (Val.num 1) ∧
      State.anyPlane (pair 0 0 2 []) = false ∧
      State.role (pair 0 0 2 []) ≠ 3 ∧
      State.num (pair 0 0 2 []) Obj.DuplexControl.duplexMode ≠ 1 ∧
      (∃ h, h < 64 ∧ State.portUp (pair 0 0 2 []) h = true) ∧
      ((fun s => nextEpoch (max s.dux.maxEpoch (max s.dux.peerEpoch (State.nat s Obj.DuplexStatus.epoch))) (State.nat s Obj.DuplexControl.pairSide)) (pair 0 0 2 []) < 2 ^ 32)) ∧
    (State.accepts (pair 1 1 2 [(Obj.PlaneConfig.enable 1, 1)]) svc Obj.DuplexControl.duplexMode [0#8] (Val.num 0) ∧
      State.anyPlane (pair 1 1 2 [(Obj.PlaneConfig.enable 1, 1)]) = true) ∧
    (State.accepts (heard (pair 2 1 0 []) 1 0) svc Obj.DuplexControl.duplexMode [0#8] (Val.num 0) ∧
      State.anyPlane (heard (pair 2 1 0 []) 1 0) = false ∧
      State.num (heard (pair 2 1 0 []) 1 0) Obj.DuplexControl.duplexMode ≠ 0 ∧
      State.role (heard (pair 2 1 0 []) 1 0) = 2 ∧
      State.peerActive (State.tickTo (heard (pair 2 1 0 []) 1 0) 10) = true) ∧
    (State.accepts (pair 1 1 2 []) svc Obj.DuplexControl.duplexMode [0#8] (Val.num 0) ∧
      State.anyPlane (pair 1 1 2 []) = false ∧
      State.num (pair 1 1 2 []) Obj.DuplexControl.duplexMode ≠ 0 ∧
      (State.role (pair 1 1 2 []) = 1 ∨ State.role (pair 1 1 2 []) = 2 ∧ State.peerActive (State.tickTo (pair 1 1 2 []) 10) = false) ∧
      State.role (pair 1 1 2 []) = 1) ∧
    (State.accepts (pair 2 1 0 []) svc Obj.DuplexControl.duplexMode [0#8] (Val.num 0) ∧
      State.anyPlane (pair 2 1 0 []) = false ∧
      State.num (pair 2 1 0 []) Obj.DuplexControl.duplexMode ≠ 0 ∧
      State.role (pair 2 1 0 []) = 2 ∧
      (State.role (pair 2 1 0 []) = 1 ∨ State.role (pair 2 1 0 []) = 2 ∧ State.peerActive (State.tickTo (pair 2 1 0 []) 10) = false)) ∧
    (State.accepts (heard (pair 2 1 0 []) 1 0) svc Obj.DuplexControl.forceActive [1#8] (Val.num 1) ∧
      (State.peerActive (State.tickTo (heard (pair 2 1 0 []) 1 0) 10) = true ∨ State.role (heard (pair 2 1 0 []) 1 0) = 3)) ∧
    (State.accepts (pair 2 1 0 []) svc Obj.DuplexControl.forceActive [1#8] (Val.num 1) ∧
      State.peerActive (State.tickTo (pair 2 1 0 []) 10) = false ∧
      ((fun s => nextEpoch (max s.dux.maxEpoch (max s.dux.peerEpoch (State.nat s Obj.DuplexStatus.epoch))) (State.nat s Obj.DuplexControl.pairSide)) (pair 2 1 0 []) < 2 ^ 32)) ∧
    (State.accepts (pair 1 1 2 [(Obj.DuplexStatus.peerSynced, 1)]) ope Obj.DuplexControl.switchOver [1#8] (Val.num 1) ∧
      State.role (pair 1 1 2 [(Obj.DuplexStatus.peerSynced, 1)]) = 1 ∧
      State.flag (pair 1 1 2 [(Obj.DuplexStatus.peerSynced, 1)]) Obj.DuplexStatus.peerSynced = true) ∧
    (State.accepts (pair 1 1 2 []) ope Obj.DuplexControl.switchOver [1#8] (Val.num 1) ∧
      (State.role (pair 1 1 2 []) ≠ 1 ∨ State.flag (pair 1 1 2 []) Obj.DuplexStatus.peerSynced = false)) ∧
    (State.fieldOn (pair 1 1 2 [])) ∧
    (State.fieldOn ({ pair 2 1 0 [] with pow := ({ Pow.init with state := 1 }) }) ∧
      State.role ({ pair 2 1 0 [] with pow := ({ Pow.init with state := 1 }) }) = 2 ∧
      ({ pair 2 1 0 [] with pow := ({ Pow.init with state := 1 }) }).pow.state ≠ 0 ∧
      (∀ (x : Nat × Nat × Val), x ∈ ({ pair 2 1 0 [] with pow := ({ Pow.init with state := 1 }) }).pow.later → x.snd.fst ≠ Obj.PowerControl.powerRequest)) := by
  refine ⟨⟨?_, ?_⟩, ⟨?_, ?_, ?_, ?_, ?_⟩, ⟨?_, ?_, ?_, ?_, ?_, ?_⟩, ⟨?_, ?_⟩, ⟨?_, ?_, ?_, ?_, ?_⟩, ⟨?_, ?_, ?_, ?_, ?_⟩, ⟨?_, ?_, ?_, ?_, ?_⟩, ⟨?_, ?_⟩, ⟨?_, ?_, ?_⟩, ⟨?_, ?_, ?_⟩, ⟨?_, ?_⟩, ?_, ⟨?_, ?_, ?_, ?_⟩⟩ <;>
    first | decide +kernel | exact opt_all _ (by decide +kernel) | (unfold State.fieldOn; decide +kernel) | (unfold State.hostOn; decide +kernel) | (unfold State.noEpisode; decide +kernel) | exact ⟨by decide +kernel, by decide +kernel, ok_of (by decide +kernel)⟩ | rfl
/-- The hypotheses of each clause of `PairMessagesAct` are met. -/
theorem witness_PairMessagesAct :
    ((State.fieldOn (pair 2 1 0 []) ∧ State.hasStay (pair 2 1 0 []) = true ∧ (pair 2 1 0 []).rst.field.run = true) ∧
      1 < 2 ∧
      State.nat (pair 2 1 0 []) (Obj.StayLane.state 1) ≠ 2 ∧
      State.role (pair 2 1 0 []) ≠ 0) ∧
    ((State.fieldOn (pair 2 1 0 [(Obj.StayLane.state 0, 2)]) ∧ State.hasStay (pair 2 1 0 [(Obj.StayLane.state 0, 2)]) = true ∧ (pair 2 1 0 [(Obj.StayLane.state 0, 2)]).rst.field.run = true) ∧
      0 < 2 ∧
      State.nat (pair 2 1 0 [(Obj.StayLane.state 0, 2)]) (Obj.StayLane.state 0) = 2) ∧
    (List.length (leBytes 8 5) = 8) ∧
    ((State.fieldOn probing ∧ State.hasStay probing = true ∧ probing.rst.field.run = true) ∧
      List.length (leBytes 4 5 ++ leBytes 4 100) = 8 ∧
      (List.find? (fun p => p.fst == fld (leBytes 4 5 ++ leBytes 4 100) 0 4) probing.dux.probes = some (5, 0))) ∧
    ((State.fieldOn tailing ∧ State.hasStay tailing = true ∧ tailing.rst.field.run = true) ∧
      List.length (statusOf 2 1 7) = 16 ∧
      State.role tailing = 1 ∧
      fld (statusOf 2 1 7) 0 1 = 2 ∧
      fld (statusOf 2 1 7) 1 1 ≠ 0 ∧
      (State.piersFail tailing = false ∨ State.faultedPiers tailing ≤ fld (statusOf 2 1 7) 3 1)) ∧
    ((State.fieldOn outdone ∧ State.hasStay outdone = true ∧ outdone.rst.field.run = true) ∧
      State.role outdone = 1 ∧
      State.piersFail outdone = true ∧
      fld (statusOf 2 1 7) 3 1 < State.faultedPiers outdone) ∧
    ((State.fieldOn (pair 2 1 0 [(Obj.DuplexStatus.synced, 1)]) ∧ State.hasStay (pair 2 1 0 [(Obj.DuplexStatus.synced, 1)]) = true ∧ (pair 2 1 0 [(Obj.DuplexStatus.synced, 1)]).rst.field.run = true) ∧
      List.length (statusOf 0 0 0) = 16 ∧
      State.role (pair 2 1 0 [(Obj.DuplexStatus.synced, 1)]) = 2 ∧
      fld (statusOf 0 0 0) 0 1 = 0) ∧
    ((State.fieldOn following ∧ State.hasStay following = true ∧ following.rst.field.run = true) ∧
      State.role following = 2 ∧
      mirrorRecord (leBytes 40 1) = none) ∧
    (mirrorRecord (recordOf 7) = some (Option.getD (mirrorRecord (recordOf 7)) []) ∧
      sectionOf (Option.getD (mirrorRecord (recordOf 7)) []) 2 = [] ∧
      sectionOf (Option.getD (mirrorRecord (recordOf 7)) []) 4 = [] ∧
      sectionOf (Option.getD (mirrorRecord (recordOf 7)) []) 5 = [] ∧
      following.sched.table = [] ∧
      (∀ (k : Nat), k < 4 → State.flag following (Obj.PlaneConfig.enable k) = false)) ∧
    (List.length (leBytes 12 7) = 12 ∧
      State.flag (pair 2 1 0 [(Obj.DuplexStatus.synced, 1)]) Obj.DuplexStatus.synced = true ∧
      ((fun s pe => nextEpoch (max (max s.dux.maxEpoch pe) (max pe (State.nat s Obj.DuplexStatus.epoch))) (State.nat s Obj.DuplexControl.pairSide)) (pair 2 1 0 [(Obj.DuplexStatus.synced, 1)]) (fld (leBytes 12 7) 4 4) < 2 ^ 32)) ∧
    (State.role (pair 2 1 0 []) = 2 ∧
      State.flag (pair 2 1 0 []) Obj.DuplexStatus.synced = false) ∧
    ((State.fieldOn (silent 0) ∧ State.hasStay (silent 0) = true ∧ (silent 0).rst.field.run = true) ∧
      State.role (silent 0) = 2 ∧
      State.flag (silent 0) Obj.DuplexStatus.synced = true ∧
      (silent 0).dux.peerSolo = false ∧
      (silent 0).dux.mirrorAt = some 0 ∧
      0 + 750000 ≤ max (silent 0).now 1000000 ∧
      (silent 0).dux.lastLineAt + 750000 ≤ max (silent 0).now 1000000 ∧
      ((fun s pe => nextEpoch (max (max s.dux.maxEpoch pe) (max pe (State.nat s Obj.DuplexStatus.epoch))) (State.nat s Obj.DuplexControl.pairSide)) (silent 0) (silent 0).dux.peerEpoch < 2 ^ 32)) ∧
    ((State.fieldOn (silent 900000) ∧ State.hasStay (silent 900000) = true ∧ (silent 900000).rst.field.run = true) ∧
      State.role (silent 900000) = 2 ∧
      State.flag (silent 900000) Obj.DuplexStatus.synced = true ∧
      (silent 900000).dux.peerSolo = false ∧
      (silent 900000).dux.mirrorAt = some 0 ∧
      0 + 750000 ≤ max (silent 900000).now 1000000 ∧
      max (silent 900000).now 1000000 < (silent 900000).dux.lastLineAt + 750000) ∧
    ((State.fieldOn alone ∧ State.hasStay alone = true ∧ alone.rst.field.run = true) ∧
      State.role alone = 2 ∧
      alone.dux.since = some 0 ∧
      0 + State.nat alone Obj.DuplexControl.pairTimeout * 10000000 ≤ max alone.now (10 ^ 13) ∧
      (∀ (x : Nat), alone.dux.statusAt = some x → x < 0) ∧
      State.flag alone Obj.DuplexControl.aloneStart = true ∧
      State.ownedElsewhere alone = false ∧
      ((fun s pe => nextEpoch (max (max s.dux.maxEpoch pe) (max pe (State.nat s Obj.DuplexStatus.epoch))) (State.nat s Obj.DuplexControl.pairSide)) alone alone.dux.peerEpoch < 2 ^ 32)) := by
  refine ⟨⟨?_, ?_, ?_, ?_⟩, ⟨?_, ?_, ?_⟩, ?_, ⟨?_, ?_, ?_⟩, ⟨?_, ?_, ?_, ?_, ?_, ?_⟩, ⟨?_, ?_, ?_, ?_⟩, ⟨?_, ?_, ?_, ?_⟩, ⟨?_, ?_, ?_⟩, ⟨?_, ?_, ?_, ?_, ?_, ?_⟩, ⟨?_, ?_, ?_⟩, ⟨?_, ?_⟩, ⟨?_, ?_, ?_, ?_, ?_, ?_, ?_, ?_⟩, ⟨?_, ?_, ?_, ?_, ?_, ?_, ?_⟩, ⟨?_, ?_, ?_, ?_, ?_, ?_, ?_, ?_⟩⟩ <;>
    first | decide +kernel | exact opt_all _ (by decide +kernel) | (unfold State.fieldOn; decide +kernel) | (unfold State.hostOn; decide +kernel) | (unfold State.noEpisode; decide +kernel) | exact ⟨by decide +kernel, by decide +kernel, ok_of (by decide +kernel)⟩ | rfl
end Pair

/-! ### Security, faults and the whole block (spec/22, 23) -/

namespace Secure
def secure (lc : Nat) (l : List (Nat × Int)) : State := live (bar ++ [(Obj.Security.lifecycle, (lc : Int))] ++ l)
def issued (iss : Nat) (s : State) : State := { s with sec := { s.sec with creds := [(0, iss)] } }
def keyed : State := issued 0 ((secure 0 []).setVal Obj.Security.ownerKeyHash (.bytes (List.replicate 48 7#8)))
def advancing (n : Nat) (s : State) : State := { s with sec := { s.sec with advance := some n } }
def challenged0 : State := let s := secure 2 []; { s with sec := { s.sec with challenge := some (List.replicate 48 0#8, 0) } }
def response0 : Bytes := leBytes 1 1 ++ leBytes 1 0 ++ leBytes 2 0 ++ leBytes 4 60 ++ leBytes 4 0 ++ leBytes 4 0 ++ List.replicate 96 0#8
def granted : State := let s := secure 2 [(Obj.Debug.level, 1)]; { s with sec := { s.sec with grantEnd := some 1000 } }
def image0 : Bytes := leBytes 4 0x57465A41 ++ leBytes 1 0 ++ leBytes 1 3 ++ leBytes 2 0 ++ leBytes 4 5 ++ leBytes 4 1 ++ List.replicate 112 0#8 ++ [1#8] ++ List.replicate 96 0#8
def running0 : State := let s := secure 2 [(Obj.FirmwareSlot.inUse 0, 1), (Obj.FirmwareSlot.securityVersion 0, 3)]; { s with flash := { s.flash with slots := [(0, image0)] } }
def ev0 : EventRec := { side := .field, inst := 0, code := Ev.spanLost.1, cls := 3, stamp := 0, line := 0, plane := 0xFF, flags := 0, seq := 1, w0 := 0, w1 := 0, w2 := 0 }
def logging (g : Bool) : State := let s := live bar; { s with flt := { s.flt with fieldLog := { s.flt.fieldLog with queue := [ev0], gap := g } } }
def handling0 : State := let s := live bar; { s with flt := { s.flt with handling := [{ side := .field, subsys := 0x50, inst := 2, step := 0, held := false, start := 0, last := 0 }] } }
def cycling : State := let s := live bar; { s with flt := { s.flt with powerCycle := true } }
def noEyes : State := live (bar ++ [(Obj.Identity.cameraPorts, 0)])
def rd (key flags off total n : Nat) : Bytes := leBytes 2 (key / 256 : Nat) ++ leBytes 1 (key % 256 : Nat) ++ leBytes 1 flags ++ leBytes 4 off ++ leBytes 4 total ++ leBytes 2 n ++ leBytes 2 0
def standby (r : Nat) : State := live (bar ++ [(Obj.DuplexStatus.role, (r : Int))])
def inReset (h f : Bool) : State := let s := live bar; { s with rst := { s.rst with host := { s.rst.host with active := h }, field := { s.rst.field with active := f } } }
/-- The hypotheses of each clause of `LifecycleAdvances` are met. -/
theorem witness_LifecycleAdvances :
    (State.accepts keyed boss Obj.Security.lifecycleAdvance [1#8] (Val.num 1) ∧
      keyed.sec.advance = none) ∧
    (State.accepts (issued 0 (secure 0 [])) boss Obj.Security.lifecycleAdvance [1#8] (Val.num 1) ∧
      (issued 0 (secure 0 [])).sec.advance = none) ∧
    (State.accepts (issued 1 (secure 1 [])) svc Obj.Security.lifecycleAdvance [2#8] (Val.num 2) ∧
      (issued 1 (secure 1 [])).sec.advance = none) ∧
    (State.accepts (issued 0 (secure 2 [])) boss Obj.Security.lifecycleAdvance [3#8] (Val.num 3) ∧
      (issued 0 (secure 2 [])).sec.advance = none) ∧
    (State.accepts (issued 0 (secure 2 [])) boss Obj.Security.lifecycleAdvance [4#8] (Val.num 4)) ∧
    (State.hostOn (advancing 1 keyed) ∧
      (advancing 1 keyed).sec.advance = some 1 ∧
      1 ≠ 3) ∧
    (State.hostOn (advancing 3 (secure 2 [])) ∧
      (advancing 3 (secure 2 [])).sec.advance = some 3 ∧
      3 ≤ 3) ∧
    (State.hostOn (advancing 4 (live (bar ++ [(Obj.Session.state 0, 2)]))) ∧
      (advancing 4 (live (bar ++ [(Obj.Session.state 0, 2)]))).sec.advance = some 4 ∧
      4 ≠ 3 ∧
      3 ≤ 4) := by
  refine ⟨⟨?_, ?_⟩, ⟨?_, ?_⟩, ⟨?_, ?_⟩, ⟨?_, ?_⟩, ?_, ⟨?_, ?_, ?_⟩, ⟨?_, ?_, ?_⟩, ⟨?_, ?_, ?_, ?_⟩⟩ <;>
    first | decide +kernel | exact opt_all _ (by decide +kernel) | (unfold State.fieldOn; decide +kernel) | (unfold State.hostOn; decide +kernel) | (unfold State.noEpisode; decide +kernel) | exact ⟨by decide +kernel, by decide +kernel, ok_of (by decide +kernel)⟩ | rfl
/-- A response whose signature verifies is good. -/
theorem debug_ok (hsig : ∀ k, Config.ecdsaVerify k (Config.sha384 (List.replicate 48 0#8 ++ response0.take 16)) (sub response0 16 96) = true) :
    (challenged0.tickTo 10).responseOk response0 = true := by
  unfold State.responseOk
  have hc : (challenged0.tickTo 10).sec.challenge = some (List.replicate 48 0#8, 0) := by decide +kernel
  have hi : fld response0 1 1 = 0 := by decide +kernel
  have hk : (challenged0.tickTo 10).issuerKey 0 = some (Config.partBytes Obj.Security.rootKeyHash) := rfl
  have hl : (response0.length == 112 && (signerOk (challenged0.tickTo 10).lifecycle (fld response0 0 1) 0 && fld response0 2 2 == 0 && fld response0 12 4 == 0)
    && decide ((challenged0.tickTo 10).now ≤ 0 + 60 * oneSec) && fld response0 8 4 == fld (List.replicate 48 0#8) 44 4) = true := by decide +kernel
  simp only [Bool.and_eq_true] at hl
  rw [hc, hi]
  dsimp only
  rw [hk]
  simp only [hsig, hl.1.1.1, hl.1.1.2.1.1, hl.1.1.2.1.2, hl.1.1.2.2, hl.1.2, hl.2, Bool.and_self, Bool.or_true]

/-- The hypotheses of each clause of `DebugUnlocks` are met (for the encoder and the verifier that the premises name). -/
theorem witness_DebugUnlocks (hsig : ∀ k, Config.ecdsaVerify k (Config.sha384 (List.replicate 48 0#8 ++ response0.take 16)) (sub response0 16 96) = true) :
    (State.hostOn (secure 2 []) ∧
      State.scrapped (secure 2 []) = false) ∧
    (State.hostOn ({ secure 4 [] with rst := ({ (secure 4 []).rst with host := ({ (secure 4 []).rst.host with run := false }) }) }) ∧
      State.scrapped ({ secure 4 [] with rst := ({ (secure 4 []).rst with host := ({ (secure 4 []).rst.host with run := false }) }) }) = true) ∧
    (State.hostUp (secure 2 []) = true ∧
      ope.sess ≤ 256 ∧
      State.permit (secure 2 []) ope.role Obj.Debug.debugChallenge false = 0) ∧
    ((if true = true then State.hostOn (secure 2 [(Obj.Debug.failedUnlocks, 8)]) ∧ State.scrapped (secure 2 [(Obj.Debug.failedUnlocks, 8)]) = false ∧ List.replicate 112 0#8 = List.replicate 112 0#8 else State.accepts (secure 2 [(Obj.Debug.failedUnlocks, 8)]) svc Obj.Debug.debugResponse (List.replicate 112 0#8) (Val.bytes (List.replicate 112 0#8))) ∧
      8 ≤ State.nat (secure 2 [(Obj.Debug.failedUnlocks, 8)]) Obj.Debug.failedUnlocks) ∧
    ((if true = true then State.hostOn (secure 2 [(Obj.Debug.failedUnlocks, 7)]) ∧ State.scrapped (secure 2 [(Obj.Debug.failedUnlocks, 7)]) = false ∧ List.replicate 112 0#8 = List.replicate 112 0#8 else State.accepts (secure 2 [(Obj.Debug.failedUnlocks, 7)]) svc Obj.Debug.debugResponse (List.replicate 112 0#8) (Val.bytes (List.replicate 112 0#8))) ∧
      State.nat (secure 2 [(Obj.Debug.failedUnlocks, 7)]) Obj.Debug.failedUnlocks < 8 ∧
      State.responseOk (State.tickTo (secure 2 [(Obj.Debug.failedUnlocks, 7)]) 10) (List.replicate 112 0#8) = false) ∧
    ((if false = true then State.hostOn challenged0 ∧ State.scrapped challenged0 = false ∧ response0 = response0 else State.accepts challenged0 svc Obj.Debug.debugResponse response0 (Val.bytes response0)) ∧
      State.nat challenged0 Obj.Debug.failedUnlocks < 8 ∧
      State.responseOk (State.tickTo challenged0 10) response0 = true ∧
      fld response0 0 1 ≠ 2 ∧
      State.ownerGrant challenged0 = false ∧
      openObserve (State.lifecycle challenged0) (fld response0 0 1) = false) ∧
    (State.rejects (secure 2 [(Obj.Debug.failedUnlocks, 8)]) svc Obj.Debug.debugResponse (List.replicate 112 0#8) 83951617) ∧
    (State.accepts (secure 2 []) ope Obj.Debug.debugLock [1#8] (Val.num 1) ∧
      State.ownerGrant (secure 2 []) = false) ∧
    (State.hostOn granted ∧
      granted.sec.grantEnd = some 1000 ∧
      State.ownerGrant granted = false ∧
      1000 ≤ max granted.now 1000) ∧
    (max granted.now 999 < 1000) := by
  refine ⟨⟨?_, ?_⟩, ⟨?_, ?_⟩, ⟨?_, ?_, ?_⟩, ⟨?_, ?_⟩, ⟨?_, ?_, ?_⟩, ⟨?_, ?_, ?_, ?_, ?_, ?_⟩, ?_, ⟨?_, ?_⟩, ⟨?_, ?_, ?_, ?_⟩, ?_⟩ <;>
    first | decide +kernel | exact opt_all _ (by decide +kernel) | (unfold State.fieldOn; decide +kernel) | (unfold State.hostOn; decide +kernel) | (unfold State.noEpisode; decide +kernel) | exact ⟨by decide +kernel, by decide +kernel, ok_of (by decide +kernel)⟩ | rfl | exact ⟨by decide +kernel, by decide +kernel, err_of (by decide +kernel)⟩ | exact debug_ok hsig | (rw [if_pos rfl]; exact ⟨by (unfold State.hostOn; decide +kernel), by decide +kernel, rfl⟩) | (rw [if_neg (by decide)]; exact ⟨by decide +kernel, by decide +kernel, ok_of (by decide +kernel)⟩)
/-- The hypotheses of each clause of `FirmwareIsKept` are met. -/
theorem witness_FirmwareIsKept :
    (1 < 4 ∧
      State.accepts (secure 2 []) svc (Obj.FirmwareSlot.image 1) image0 (Val.bytes image0) ∧
      State.flag (secure 2 []) (Obj.FirmwareSlot.inUse 1) = false) ∧
    (State.accepts (secure 2 [(Obj.FirmwareSlot.inUse 1, 1)]) svc (Obj.FirmwareSlot.image 1) image0 (Val.bytes image0) ∧
      State.flag (secure 2 [(Obj.FirmwareSlot.inUse 1, 1)]) (Obj.FirmwareSlot.inUse 1) = true) ∧
    (0 < 2 ∧
      State.accepts running0 svc Obj.Security.rollbackCommit [1#8] (Val.num ↑(0 + 1)) ∧
      State.runningVersion running0 0 = some 3 ∧
      State.rollback running0 0 < 3) ∧
    (State.accepts (State.setN running0 Obj.Security.rollbackHost 3) svc Obj.Security.rollbackCommit [1#8] (Val.num ↑(0 + 1)) ∧
      State.runningVersion (State.setN running0 Obj.Security.rollbackHost 3) 0 = some 3 ∧
      3 ≤ State.rollback (State.setN running0 Obj.Security.rollbackHost 3) 0) := by
  refine ⟨⟨?_, ?_, ?_⟩, ⟨?_, ?_⟩, ⟨?_, ?_, ?_, ?_⟩, ⟨?_, ?_, ?_⟩⟩ <;>
    first | decide +kernel | exact opt_all _ (by decide +kernel) | (unfold State.fieldOn; decide +kernel) | (unfold State.hostOn; decide +kernel) | (unfold State.noEpisode; decide +kernel) | exact ⟨by decide +kernel, by decide +kernel, ok_of (by decide +kernel)⟩ | rfl
/-- The hypotheses of each clause of `FaultMachineryWorks` are met. -/
theorem witness_FaultMachineryWorks :
    ((State.log (logging true) Side.field).queue = [ev0] ∧
      (State.log (logging true) Side.field).begun + 2560 ≤ max (logging true).now 2570 ∧
      bit (State.nat (logging true) Obj.FaultControl.faultNMask) ev0.cls = true) ∧
    (max (logging true).now 10 < (State.log (logging true) Side.field).begun + 2560) ∧
    (State.stepPending handling0 80 2 = false ∧
      (∀ (h : Handling), h ∈ handling0.flt.handling → h.subsys = 80 → h.inst = 2 → h.last + State.nat handling0 Obj.FaultControl.quietTime * 10000000 ≤ max handling0.now (10 ^ 12))) ∧
    (State.hostOn (live bar) ∧
      State.flag (live bar) Obj.FaultControl.overrunLatched = false) ∧
    (State.fieldOn ({ live bar with pow := ({ Pow.init with state := 0 }) }) ∧
      State.flag ({ live bar with pow := ({ Pow.init with state := 0 }) }) Obj.FaultControl.overrunLatched = false ∧
      ({ live bar with pow := ({ Pow.init with state := 0 }) }).pow.state = 0) ∧
    (State.fieldOn (live [(Obj.FaultControl.overrunLatched, 1)]) ∧
      State.flag (live [(Obj.FaultControl.overrunLatched, 1)]) Obj.FaultControl.overrunLatched = true) ∧
    (State.accepts (live [(Obj.FaultControl.overrunLatched, 1)]) ope Obj.FaultControl.faultAck [1#8] (Val.num 1) ∧
      (live [(Obj.FaultControl.overrunLatched, 1)]).flt.powerCycle = false) ∧
    (State.accepts cycling ope Obj.FaultControl.faultAck [1#8] (Val.num 1) ∧
      cycling.flt.powerCycle = true) ∧
    (State.accepts ({ live bar with pow := ({ Pow.init with state := 0 }) }) svc Obj.FaultControl.powerCycleRequest [1#8] (Val.num 1)) ∧
    (State.accepts (logging false) svc Obj.FaultControl.logClear [1#8] (Val.num 1)) ∧
    (State.accepts (logging false) svc Obj.FaultControl.logClear [2#8] (Val.num 2)) ∧
    (State.accepts (logging false) svc Obj.FaultControl.logClear [3#8] (Val.num 3)) := by
  refine ⟨⟨?_, ?_, ?_⟩, ?_, ⟨?_, ?_⟩, ⟨?_, ?_⟩, ⟨?_, ?_, ?_⟩, ⟨?_, ?_⟩, ⟨?_, ?_⟩, ⟨?_, ?_⟩, ?_, ?_, ?_, ?_⟩ <;>
    first | decide +kernel | exact opt_all _ (by decide +kernel) | (unfold State.fieldOn; decide +kernel) | (unfold State.hostOn; decide +kernel) | (unfold State.noEpisode; decide +kernel) | exact ⟨by decide +kernel, by decide +kernel, ok_of (by decide +kernel)⟩ | rfl
/-- The hypotheses of each clause of `AbsentWritesAreRefused` are met. -/
theorem witness_AbsentWritesAreRefused :
    (State.hostUp noEyes = true ∧
      ope.sess ≤ 256 ∧
      vendorAccess ope.role 24576 = false ∧
      descOf (24576 * 256 + 1) = some (def0 6291457) ∧
      State.absent noEyes (24576 * 256 + 1) = true) ∧
    (vendorAccess ope.role (fld (rd (Obj.flatField 0) 3 0 4 4 ++ leBytes 4 0) 0 2) = false ∧
      descOf (blockKey (rd (Obj.flatField 0) 3 0 4 4 ++ leBytes 4 0)) = some (def0 (Obj.flatField 0)) ∧
      State.absent noEyes (blockKey (rd (Obj.flatField 0) 3 0 4 4 ++ leBytes 4 0)) = true) := by
  refine ⟨⟨?_, ?_, ?_, ?_, ?_⟩, ⟨?_, ?_, ?_⟩⟩ <;>
    first | decide +kernel | exact opt_all _ (by decide +kernel) | (unfold State.fieldOn; decide +kernel) | (unfold State.hostOn; decide +kernel) | (unfold State.noEpisode; decide +kernel) | exact ⟨by decide +kernel, by decide +kernel, ok_of (by decide +kernel)⟩ | rfl
/-- The hypotheses of each clause of `MirroredObjectsCloseOnStandby` are met. -/
theorem witness_MirroredObjectsCloseOnStandby :
    (State.hostUp (standby 2) = true ∧
      svc.sess ≤ 256 ∧
      (State.nat (standby 2) Obj.DuplexStatus.role = 2 ∨ State.nat (standby 2) Obj.DuplexStatus.role = 3) ∧
      (mirrored 16384 = true ∨ 16384 = 17410) ∧
      1 < 256 ∧
      descOf (16384 * 256 + 1) = some (def0 4194305) ∧
      State.absent (standby 2) (16384 * 256 + 1) = false ∧
      vendorAccess svc.role 16384 = false) ∧
    (State.hostUp (standby 3) = true ∧
      (State.nat (standby 3) Obj.DuplexStatus.role = 2 ∨ State.nat (standby 3) Obj.DuplexStatus.role = 3) ∧
      8 < 256 ∧
      descOf (16384 * 256 + 8) = some (def0 4194312) ∧
      State.absent (standby 3) (16384 * 256 + 8) = false) ∧
    ((mirrored (Obj.toneCurve 0 / 256) = true ∨ Obj.toneCurve 0 / 256 = 17410) ∧
      Obj.toneCurve 0 % 256 < 256 ∧
      descOf (Obj.toneCurve 0 / 256 * 256 + Obj.toneCurve 0 % 256) = some (def0 (Obj.toneCurve 0)) ∧
      State.absent (standby 3) (Obj.toneCurve 0 / 256 * 256 + Obj.toneCurve 0 % 256) = false ∧
      blockKey (rd (Obj.toneCurve 0) 3 0 4 4 ++ leBytes 4 0) = Obj.toneCurve 0 / 256 * 256 + Obj.toneCurve 0 % 256 ∧
      vendorAccess svc.role (fld (rd (Obj.toneCurve 0) 3 0 4 4 ++ leBytes 4 0) 0 2) = false) ∧
    (State.permit (standby 2) svc.role (16384 * 256 + 1) false = 0 ∧
      (def0 4194305).ty ≠ Ty.str ∧
      (def0 4194305).ty ≠ Ty.dom) := by
  refine ⟨⟨?_, ?_, ?_, ?_, ?_, ?_, ?_, ?_⟩, ⟨?_, ?_, ?_, ?_, ?_⟩, ⟨?_, ?_, ?_, ?_, ?_, ?_⟩, ⟨?_, ?_, ?_⟩⟩ <;>
    first | decide +kernel | exact opt_all _ (by decide +kernel) | (unfold State.fieldOn; decide +kernel) | (unfold State.hostOn; decide +kernel) | (unfold State.noEpisode; decide +kernel) | exact ⟨by decide +kernel, by decide +kernel, ok_of (by decide +kernel)⟩ | rfl
/-- The hypotheses of each clause of `IslandsInResetDoNothing` are met. -/
theorem witness_IslandsInResetDoNothing :
    ((inReset false true).rst.field.active = true) ∧
    ((inReset true false).rst.host.active = true) ∧
    (State.hostUp (inReset true false) = false ∧
      vendorAccess ope.role 12336 = false) := by
  refine ⟨?_, ?_, ⟨?_, ?_⟩⟩ <;>
    first | decide +kernel | exact opt_all _ (by decide +kernel) | (unfold State.fieldOn; decide +kernel) | (unfold State.hostOn; decide +kernel) | (unfold State.noEpisode; decide +kernel) | exact ⟨by decide +kernel, by decide +kernel, ok_of (by decide +kernel)⟩ | rfl
end Secure

/-! ### Ill-formed commands, and values that the spec states -/

/-- A list of commands that WellFormed refuses. -/
abbrev Refused (l : List Instr) : Prop := ∀ i ∈ l, i.wf = false

/-- Each command here has one operand out of the range of its kind. -/
theorem test_ill_formed_1 : Refused [
    .objectWrite 0 ⟨256, .o⟩ 0 0 0 [],
    .objectWrite 0 ⟨0, .o⟩ 65536 0 0 [],
    .objectWrite 0 ⟨0, .o⟩ 0 256 0 [],
    .objectWrite 0 ⟨0, .o⟩ 0 0 256 [],
    .rwlWrite 0 ⟨256, .o⟩ 0 0 0 [],
    .rwlWrite 0 ⟨0, .o⟩ 65536 0 0 [],
    .rwlWrite 0 ⟨0, .o⟩ 0 256 0 [],
    .rwlWrite 0 ⟨0, .o⟩ 0 0 256 [],
    .encoderEdge 0 2 false false false,
    .standstill 0 2,
    .controlCycle 0 ⟨[], [⟨.pier 64, 0, 0⟩]⟩,
    .controlCycle 0 ⟨[], [⟨.span 12, 0, 0⟩]⟩,
    .controlCycle 0 ⟨[], [⟨.stay 2, 0, 0⟩]⟩,
    .counterPreset 0 ⟨256, .o⟩ 0 [],
    .counterPreset 0 ⟨0, .o⟩ 2 [],
    .loadFromSps 0 ⟨256, .o⟩ [],
    .indexArm 0 ⟨256, .o⟩ 0 [],
    .indexArm 0 ⟨0, .o⟩ 2 [],
    .checkReset 0 ⟨256, .o⟩ [],
    .uncertainClear 0 ⟨256, .o⟩ [],
    .lineLoad 0 ⟨256, .o⟩ 0 [],
    .lineLoad 0 ⟨0, .o⟩ 4 [],
    .primarySourceWrite 0 ⟨256, .o⟩ [],
    .scheduleInsert 0 ⟨256, .o⟩ [],
    .cancelTag 0 ⟨256, .o⟩ [],
    .cancelAll 0 ⟨256, .o⟩ [],
    .cameraTriggerPulse 0 4,
    .triggerPulseEnd 0 4,
    .planeEnable 0 ⟨256, .o⟩ 0 [],
    .planeEnable 0 ⟨0, .o⟩ 4 [],
    .planeDisable 0 ⟨256, .o⟩ 0 [],
    .planeDisable 0 ⟨0, .o⟩ 4 [],
    .checkPlane 0 ⟨256, .o⟩ [],
    .pageAppend 0 ⟨256, .o⟩ 0 [],
    .pageAppend 0 ⟨0, .o⟩ 4 [],
    .pageAbortAtLine 0 ⟨256, .o⟩ 0 [],
    .pageAbortAtLine 0 ⟨0, .o⟩ 4 [],
    .pageAbortNow 0 ⟨256, .o⟩ 0 [],
    .pageAbortNow 0 ⟨0, .o⟩ 4 [],
    .flushJob 0 ⟨256, .o⟩ [],
    .flushOrphans 0 ⟨256, .o⟩ [],
    .pageQueueResume 0 ⟨256, .o⟩ 0 [],
    .pageQueueResume 0 ⟨0, .o⟩ 4 [],
    .inflateComplete 0 16] := by decide +kernel
/-- Each command here has one operand out of the range of its kind. -/
theorem test_ill_formed_2 : Refused [
    .inflateEngineReset 0 ⟨256, .o⟩ 0 [],
    .inflateEngineReset 0 ⟨0, .o⟩ 16 [],
    .inflateEngineFault 0 16,
    .screenLine 0 4,
    .nozzleWrite 0 ⟨256, .o⟩ [],
    .lineStat 0 64 0,
    .measureStat 0 64 0,
    .identityStat 0 64 0,
    .ownerStat 0 64 0,
    .linkStat 0 64 0,
    .controlBlockDiscard 0 64 0,
    .bringUpAttempt 0 64,
    .hrxLock 0 64 false,
    .bringUpStageTimeout 0 64,
    .retryInterval 0 64,
    .lossOfSignal 0 64,
    .lossOfLock 0 64,
    .statTimeout 0 64,
    .markDue 0 64,
    .pierReset 0 ⟨256, .o⟩ 0 [],
    .pierReset 0 ⟨0, .o⟩ 16 [],
    .pierOutOfService 0 ⟨256, .o⟩ 0 [],
    .pierOutOfService 0 ⟨0, .o⟩ 16 [],
    .pierInService 0 ⟨256, .o⟩ 0 [],
    .pierInService 0 ⟨0, .o⟩ 16 [],
    .strobeCommit 0 64,
    .strobe 0 64,
    .strobeEnd 0 64,
    .frameWindowOpen 0 64,
    .frameSend 0 64,
    .frameDeadline 0 64,
    .lineWithheldResolved 0 64,
    .confirmationWindowEnd 0 64,
    .measureChunkStart 0 64,
    .sweepStart 0 64,
    .sweepNow 0 ⟨256, .o⟩ 0 [],
    .sweepNow 0 ⟨0, .o⟩ 64 [],
    .probeHoldoff 0 131072,
    .pendingTimeout 0 131072,
    .defectConfirm 0 ⟨256, .o⟩ [],
    .defectRemove 0 ⟨256, .o⟩ [],
    .defectWrite 0 ⟨256, .o⟩ [],
    .frameStart 0 4 ⟨0, 0, 0, 0, 0⟩ 0,
    .frameStart 0 0 ⟨0, 4, 0, 0, 0⟩ 0] := by decide +kernel
/-- Each command here has one operand out of the range of its kind. -/
theorem test_ill_formed_3 : Refused [
    .frameStart 0 0 ⟨0, 0, 2, 0, 0⟩ 0,
    .frameStart 0 0 ⟨0, 0, 0, 0, 0⟩ 1,
    .imageLine 0 4 ⟨0, 0, 0, 0, 0⟩ [] false,
    .imageLine 0 0 ⟨4, 0, 0, 0, 0⟩ [] false,
    .imageLine 0 0 ⟨0, 4, 0, 0, 0⟩ [] false,
    .imageLine 0 0 ⟨0, 0, 0, 65536, 0⟩ [] false,
    .imageLine 0 0 ⟨0, 0, 0, 0, 3⟩ [] false,
    .imageLine 0 0 ⟨0, 0, 64, 0, 0⟩ [] false,
    .packetDiscard 0 4 ⟨0, 0, 0, 0, 0⟩,
    .packetDiscard 0 0 ⟨0, 4, 0, 0, 0⟩,
    .frameEnd 0 ⟨4, ⟨0, 0, 1, 0, 0⟩⟩,
    .frameEnd 0 ⟨0, ⟨0, 4, 1, 0, 0⟩⟩,
    .frameEnd 0 ⟨0, ⟨0, 0, 2, 0, 0⟩⟩,
    .frameTimeout 0 4,
    .triggerMissed 0 4,
    .generationWrite 0 ⟨256, .o⟩ 0 [],
    .generationWrite 0 ⟨0, .o⟩ 4 [],
    .generationRecord 0 4 0 ⟨false, false, 0, 0⟩ [],
    .cameraEnable 0 ⟨256, .o⟩ 0 [],
    .cameraEnable 0 ⟨0, .o⟩ 4 [],
    .cameraDisable 0 ⟨256, .o⟩ 0 [],
    .cameraDisable 0 ⟨0, .o⟩ 4 [],
    .cameraReset 0 ⟨256, .o⟩ 0 [],
    .cameraReset 0 ⟨0, .o⟩ 4 [],
    .inLineCamera 0 ⟨256, .o⟩ [],
    .windowClose 0 4 0,
    .windowClose 0 0 4,
    .planeMask 0 ⟨256, .o⟩ [],
    .refabDue 0 16 0,
    .owedRefresh 0 16 0,
    .tempPoll 0 16 ⟨[], 0⟩,
    .rowActivate 0 16 0 0 0,
    .correctedRead 0 16 ⟨0, false⟩,
    .uncorrectableRead 0 16 0 .training,
    .dramRetrain 0 16 0,
    .dramRetrainDone 0 16 [],
    .compressionSubmit 0 ⟨256, .o⟩ 0 [],
    .compressionSubmit 0 ⟨0, .o⟩ 8 [],
    .jobStart 0 8,
    .inputBlock 0 8 .uncorrectable,
    .compressionResume 0 ⟨256, .o⟩ [],
    .resumeTimeout 0 8,
    .compressionCancel 0 ⟨256, .o⟩ [],
    .channelReset 0 ⟨256, .o⟩ 0 []] := by decide +kernel
/-- Each command here has one operand out of the range of its kind. -/
theorem test_ill_formed_4 : Refused [
    .channelReset 0 ⟨0, .o⟩ 8 [],
    .stagingWrite 0 ⟨256, .o⟩ 0 0 0 [],
    .stagingWrite 0 ⟨0, .o⟩ 65536 0 0 [],
    .stagingWrite 0 ⟨0, .o⟩ 0 256 0 [],
    .stagingWrite 0 ⟨0, .o⟩ 0 0 256 [],
    .groupCommit 0 ⟨256, .o⟩ 0 [],
    .groupCommit 0 ⟨0, .o⟩ 16 [],
    .groupDiscard 0 ⟨256, .o⟩ 0 [],
    .groupDiscard 0 ⟨0, .o⟩ 16 [],
    .bindingWrite 0 ⟨256, .o⟩ 0 [],
    .bindingWrite 0 ⟨0, .o⟩ 16 [],
    .domainWriteBlock 0 ⟨256, .o⟩ [],
    .domainReadBlock 0 ⟨256, .o⟩ [],
    .domainTransferTimeout 0 256 0 0,
    .domainTransferTimeout 0 0 65536 0,
    .domainTransferTimeout 0 0 0 256,
    .imageSave 0 ⟨256, .o⟩ [],
    .imageInvalidate 0 ⟨256, .o⟩ [],
    .datagram 0 5 ⟨0, false, false, false, 0, 0, 0, true⟩ [] [],
    .reassemblyTimeout 0 256 0,
    .hello 0 5 [] [],
    .keyx 0 256 0 [],
    .openSession 0 256 0 [],
    .handshakeTimeout 0 256,
    .read 0 ⟨256, .o⟩ 0 0,
    .read 0 ⟨0, .o⟩ 65536 0,
    .read 0 ⟨0, .o⟩ 0 256,
    .accessPassed 0 256,
    .strip 0 256 0 [],
    .ping 0 256 0 [],
    .heartbeat 0 256,
    .sessionTimeout 0 256,
    .close 0 256 [],
    .sessionClose 0 ⟨256, .o⟩ 0 [],
    .sessionClose 0 ⟨0, .o⟩ 256 [],
    .ringReset 0 ⟨256, .o⟩ 0 [],
    .ringReset 0 ⟨0, .o⟩ 64 [],
    .descriptorLaunch 0 64 0,
    .descriptorLaunch 0 0 5,
    .hostLinkChange 0 5 false 0 0,
    .spanCell 0 12 0 [] 0,
    .spanChannelLockLoss 0 12,
    .spanChannelRetest 0 12,
    .incrementWrite 0 ⟨256, .o⟩ []] := by decide +kernel
/-- Each command here has one operand out of the range of its kind. -/
theorem test_ill_formed_5 : Refused [
    .offsetAdjust 0 ⟨256, .o⟩ [],
    .timeSet 0 ⟨256, .o⟩ [],
    .ptpEventMessage 0 5 ⟨0, false, 0, 0, 0, 0⟩,
    .captureEvent 0 8 false,
    .captureRecordsRead 0 ⟨256, .o⟩ 0,
    .captureRecordsRead 0 ⟨0, .o⟩ 8,
    .evtOut 0 2,
    .timeOutputEnd 0 3,
    .domainSourceSwitch 0 ⟨256, .o⟩ 0 [],
    .domainSourceSwitch 0 ⟨0, .o⟩ 6 [],
    .clockSwitchForced 0 6,
    .gateWrite 0 ⟨256, .o⟩ .host [],
    .gateForced 0 .host 0 256,
    .meterStart 0 ⟨256, .o⟩ .host [],
    .opTarget 0 ⟨256, .o⟩ [],
    .powerRequestRun 0 ⟨256, .o⟩ [],
    .powerRequestHold 0 ⟨256, .o⟩ [],
    .powerRequestStandby 0 ⟨256, .o⟩ [],
    .powerRequestOff 0 ⟨256, .o⟩ [],
    .warmReset 0 ⟨256, .o⟩ [],
    .hostIslandReset 0 ⟨256, .o⟩ [],
    .fieldIslandReset 0 ⟨256, .o⟩ [],
    .confirmStart 0 ⟨256, .o⟩ [],
    .recoveryExit 0 ⟨256, .o⟩ [],
    .calRunNow 0 ⟨256, .o⟩ 0 [],
    .calRunNow 0 ⟨0, .o⟩ 8 [],
    .laneAdaptation 0 64 [],
    .flatFieldTimeout 0 4,
    .calibrationOverdue 0 8 0,
    .replanNow 0 ⟨256, .o⟩ [] [],
    .activationArm 0 ⟨256, .o⟩ [],
    .stayLaneLockLoss 0 8,
    .duplexModePair 0 ⟨256, .o⟩ [],
    .duplexModeSolo 0 ⟨256, .o⟩ [],
    .forceActive 0 ⟨256, .o⟩ [],
    .switchOver 0 ⟨256, .o⟩ [],
    .lifecycleProvisioned 0 ⟨256, .o⟩ [],
    .lifecycleField 0 ⟨256, .o⟩ [],
    .lifecycleReturn 0 ⟨256, .o⟩ [],
    .lifecycleScrapped 0 ⟨256, .o⟩ [],
    .debugChallenge 0 ⟨256, .o⟩ false,
    .debugResponse 0 ⟨256, .o⟩ [] false,
    .debugLock 0 ⟨256, .o⟩ [],
    .rollbackCommit 0 ⟨256, .o⟩ []] := by decide +kernel
/-- Each command here has one operand out of the range of its kind. -/
theorem test_ill_formed_6 : Refused [
    .firmwareImageWrite 0 ⟨256, .o⟩ 0 [],
    .firmwareImageWrite 0 ⟨0, .o⟩ 4 [],
    .faultAck 0 ⟨256, .o⟩ [],
    .powerCycleRequest 0 ⟨256, .o⟩ [],
    .logClear 0 ⟨256, .o⟩ [],
    .spanBlockLock 0 12,
    .stayLaneLock 0 8] := by decide +kernel

/-- R124: the CRC-32 of the ASCII bytes 123456789. -/
theorem test_crc32 : crc32 [0x31, 0x32, 0x33, 0x34, 0x35, 0x36, 0x37, 0x38, 0x39] = 0xCBF43926 := by decide +kernel

/-- R175: the Check of the same bytes. -/
theorem test_crc8 : crc8 [0x31, 0x32, 0x33, 0x34, 0x35, 0x36, 0x37, 0x38, 0x39] = 0xF4#8 := by decide +kernel

/-- The joint example of spec/04: the operator-side weights of a linear joint of 64 columns. -/
theorem test_joint_weights : (wOp [] 0 64 0, wOp [] 0 64 31, wOp [] 0 64 32, wOp [] 0 64 63) = (16256, 8320, 8064, 128) := by decide +kernel

/-- The example of spec/07: the payload blocks of a head of 4,224 nozzles with 3-bit codes. -/
theorem test_payload_blocks : payloadCount [(Obj.HeadRecord.plane 0, .num 0), (Obj.HeadRecord.nozzleCount 0, .num 4224)] 0 = 202 := by decide +kernel

/-- A well-formed command is accepted. -/
theorem test_wf_good : (Instr.encoderEdge 0 1 true false true).wf = true := by decide

end Sys2Proof.Tests
end

section
/-! SUPPORT. Accesses that are answered with an abort and change nothing (R13, R333): what such an answer leaves, and the writes to
absent objects among them. -/

namespace Sys2Proof.Machine

/-! ### A command that only answers -/

/-- The objects that neither events nor the answer to session `i` count in are not written by an answer. -/
theorem notAnswer_of_keys {s : State} {i k : Nat} (he : eventKey k = false) (ha : answerKey s i k = false) : notAnswer s i k := by
  simp only [eventKey, Bool.or_eq_false_iff, List.any_eq_false, List.mem_range, beq_eq_false_iff_ne, beq_iff_eq] at he
  simp only [answerKey, Bool.or_eq_false_iff, beq_eq_false_iff_ne] at ha
  obtain ⟨-, hring⟩ := he
  obtain ⟨hmsg, hframe⟩ := ha
  exact ⟨hmsg, hframe, hring⟩

/-- A command that answers session `i` keeps every object, but those in which events and the answer are counted. -/
theorem objectsKeptFor_answer (s : State) (t i c : Nat) : objectsKeptFor i s (((s.tickTo t).answer i c).finish s t) [] := by
  intro k _ he ha
  have hk : notAnswer (s.tickTo t) i k := notAnswer_of_keys he ha
  have ⟨_, _, hring⟩ := hk
  rw [State.val_finish _ _ _ hring, State.val_answer _ _ _ _ hk, State.val_tickTo]

/-- A command that answers a session changes of the parts the network alone. -/
theorem partsKept_answer (s : State) (t i c : Nat) : partsKept (s.tickTo t) (((s.tickTo t).answer i c).finish s t) [.net] := by
  intro p hp
  cases p with
  | net => simp at hp
  | span =>
    obtain ⟨m, hm⟩ := ((s.tickTo t).answer i c).finish_span s t
    simp [Part.same, hm]
  | _ => simp [Part.same]

/-- The outcome of a command at instant `t` that answers session `i` with abort `c` and does nothing else. -/
def OnlyAnswers (s : State) (t i c : Nat) (o : Host.Outcome State Fault Refusal) : Prop :=
  ∃ u, o = .next u ∧ answered u i c ∧ u.groups = s.groups ∧ objectsKeptFor i s u [] ∧ partsKept (s.tickTo t) u [.net]

/-- An access whose effect is an answer does nothing else. -/
theorem onlyAnswers_access {s : State} {t i c : Nat} {f : State → State} (hup : s.hostUp = true) (hi : i ≤ 256)
    (hf : f (s.tickTo t) = (s.tickTo t).answer i c) : OnlyAnswers s t i c (access t s f) := by
  refine ⟨((s.tickTo t).answer i c).finish s t, ?_, ?_, ?_, objectsKeptFor_answer s t i c, partsKept_answer s t i c⟩
  · rw [access_run t f hup, cmd, hf]
  · exact ⟨[], State.finish_out _ _ _ (State.answer_mem _ i c [] hi)⟩
  · rw [State.finish_groups, State.answer_groups]
    rfl

/-! ### Writes that steps 1 to 7 of R333 refuse -/

section
variable {s : State} {a : Caller} {key c : Nat}

/-- A write that may not be made is answered with its abort, whatever type it names. -/
theorem State.putTyped_denied (ty : Nat) (v : Bytes) (hc : s.permit a.role key true = c) (h0 : c ≠ 0) :
    s.putTyped a key ty v = s.answer a.sess c := by
  subst hc
  unfold State.putTyped
  split
  · next h _ => exact absurd h h0
  · rfl

/-- A block of a write that may not be made is answered with the abort. -/
theorem State.putBlock_denied {b : Bytes} (hc : s.permit a.role (blockKey b) true = c) (h0 : c ≠ 0) :
    s.putBlock a b = s.answer a.sess c := by
  subst hc
  unfold State.putBlock
  dsimp only
  split
  · next h _ => exact absurd h h0
  · rfl

end

section
variable {s : State} {a : Caller} {ix sub c : Nat} (hup : s.hostUp = true) (hi : a.sess ≤ 256) (h0 : c ≠ 0)
include hup hi h0

/-- `OBJECT_WRITE` of an object that the caller may not write. -/
theorem execObjectWrite_denied (t ty : Nat) (v : Bytes) (hv : vendorAccess a.role ix = false)
    (hc : s.permit a.role (ix * 256 + sub) true = c) : OnlyAnswers s t a.sess c (execObjectWrite t a ix sub ty v s) := by
  simp only [execObjectWrite, hv, Bool.false_eq_true, if_false]
  exact onlyAnswers_access hup hi (State.putTyped_denied ty v hc h0)

/-- `STAGING_WRITE` of an object that the caller may not write: nothing is staged. -/
theorem execStagingWrite_denied (t ty : Nat) (v : Bytes) (hv : vendorAccess a.role ix = false)
    (hc : s.permit a.role (ix * 256 + sub) true = c) : OnlyAnswers s t a.sess c (execStagingWrite t a ix sub ty v s) := by
  have hct : (s.tickTo t).permit a.role (ix * 256 + sub) true = c := hc
  simp only [execStagingWrite, hv, Bool.false_eq_true, if_false]
  apply onlyAnswers_access hup hi
  rw [← State.putTyped_denied ty v hct h0]
  split
  · rw [if_pos (Or.inr (hct ▸ h0))]
  · rfl

/-- `RWL_WRITE` of an object that the caller may not write. -/
theorem execRwlWrite_denied (t ty : Nat) (v : Bytes) (hv : vendorAccess a.role ix = false)
    (hc : s.permit a.role (ix * 256 + sub) true = c) : OnlyAnswers s t a.sess c (execRwlWrite t a ix sub ty v s) := by
  subst hc
  simp only [execRwlWrite, hv, Bool.false_eq_true, if_false]
  apply onlyAnswers_access hup hi
  split
  · next h _ => exact absurd h h0
  · rfl

/-- `DOMAIN_WRITE_BLOCK` of an object that the caller may not write: the transfer aborts on its block. -/
theorem execDomainWriteBlock_denied (t : Nat) {b : Bytes} (hv : vendorAccess a.role (fld b 0 2) = false)
    (hc : s.permit a.role (blockKey b) true = c) : OnlyAnswers s t a.sess c (execDomainWriteBlock t a b s) := by
  simp only [execDomainWriteBlock, hv, Bool.false_eq_true, if_false]
  exact onlyAnswers_access hup hi (State.putBlock_denied hc h0)

end

/-! ### Writes to absent objects (R13) -/

/-- The first check of a write that finds an object of the dictionary absent answers "feature absent on this variant". -/
theorem State.permit_absent {s : State} {key : Nat} {d : Desc} (role : Role) (hd : descOf key = some d) (ha : s.absent key = true) :
    s.permit role key true = 0x07010001 := by
  simp [State.permit, hd, ha]

/-- Settles O54: absence is the first check of R333 that an object of the dictionary meets, whatever the caller's role, and each of the
four messages answers the abort of a failed check and does nothing else. -/
theorem absentWritesAreRefused : Obligations.AbsentWritesAreRefused := by
  unfold Obligations.AbsentWritesAreRefused
  intro s t ix sub ty a v b d hup hi
  refine ⟨fun hv hd ha => ?_, fun hv hd ha => ?_⟩
  · have hc := State.permit_absent a.role hd ha
    exact ⟨execObjectWrite_denied hup hi (by decide) t ty v hv hc, execStagingWrite_denied hup hi (by decide) t ty v hv hc,
      execRwlWrite_denied hup hi (by decide) t ty v hv hc⟩
  · exact execDomainWriteBlock_denied hup hi (by decide) t hv (State.permit_absent a.role hd ha)

end Sys2Proof.Machine
end

section
/-! SUPPORT. The web position unit: what its operations on an encoder channel that is not the source change (R43, R44, R47, R49, R58), and
what the evaluation of overspeed keeps (R73). -/

namespace Sys2Proof.Machine

/-! ### Bits and keys -/

/-- The bit just set is read. -/
@[simp] theorem bit_setBit_self (n i : Nat) (v : Bool) : bit (setBit n i v) i = v := by
  unfold setBit
  split
  · assumption
  · next h =>
    have hpos : 0 < 2 ^ i := Nat.two_pow_pos i
    cases v with
    | true =>
      have hn : n / 2 ^ i % 2 ≠ 1 := by simpa [bit] using h
      simp only [if_true, bit, Nat.add_div_right n hpos, beq_iff_eq]
      omega
    | false =>
      have hn : n / 2 ^ i % 2 = 1 := by simpa [bit] using h
      have hle : 2 ^ i ≤ n := (Nat.div_pos_iff.1 (Nat.pos_of_ne_zero fun h0 => by simp [h0] at hn)).2
      obtain ⟨m, rfl⟩ := Nat.exists_eq_add_of_le' hle
      rw [Nat.add_div_right m hpos] at hn
      simp only [Bool.false_eq_true, if_false, Nat.add_sub_cancel, bit, beq_eq_false_iff_ne]
      omega

/-- An object in which no event is counted is no ring's `Occupancy`. -/
theorem notOccupancy_of_eventKey {k : Nat} (h : eventKey k = false) : notOccupancy k := by
  simp only [eventKey, Bool.or_eq_false_iff, List.any_eq_false, List.mem_range, beq_iff_eq] at h
  exact h.2

/-! ### Changes of the web position unit and its objects alone -/

/-- `u` differs from `s` in the web position unit and in the objects of `l` alone. -/
def webOnly (l : List Nat) (s u : State) : Prop :=
  (∃ w d, u = { s with web := w, dict := d }) ∧ ∀ k, k ∉ l → u.val k = s.val k

section
variable {l : List Nat} {s u v : State}

theorem webOnly.trans (h : webOnly l s u) (h' : webOnly l u v) : webOnly l s v := by
  obtain ⟨⟨_, _, rfl⟩, hu⟩ := h
  obtain ⟨⟨w, d, rfl⟩, hv⟩ := h'
  exact ⟨⟨w, d, rfl⟩, fun k hk => (hv k hk).trans (hu k hk)⟩

theorem webOnly_refl : webOnly l s s := ⟨⟨_, _, rfl⟩, fun _ _ => rfl⟩

theorem webOnly_setWeb (x : Web) : webOnly l s (s.setWeb x) := ⟨⟨_, _, rfl⟩, fun _ _ => rfl⟩

theorem webOnly_setEnc (e : Nat) (x : Enc) : webOnly l s (s.setEnc e x) := ⟨⟨_, _, rfl⟩, fun _ _ => rfl⟩

theorem webOnly_setVal {k : Nat} (n : Int) (h : k ∈ l) : webOnly l s (s.setVal k (.num n)) :=
  ⟨⟨_, _, rfl⟩, fun _ hj => s.val_setVal_ne _ (fun he => hj (he ▸ h))⟩

theorem webOnly.mono {l' : List Nat} (h : webOnly l s u) (hl : l ⊆ l') : webOnly l' s u :=
  ⟨h.1, fun k hk => h.2 k (fun hm => hk (hl hm))⟩

theorem webOnly.num (h : webOnly l s u) {k : Nat} (hk : k ∉ l) : u.num k = s.num k := State.num_congr (h.2 k hk)
theorem webOnly.nat (h : webOnly l s u) {k : Nat} (hk : k ∉ l) : u.nat k = s.nat k := State.nat_congr (h.2 k hk)
theorem webOnly.flag (h : webOnly l s u) {k : Nat} (hk : k ∉ l) : u.flag k = s.flag k := State.flag_congr (h.2 k hk)

theorem webOnly.edgeStamp (h : webOnly l s u) : u.edgeStamp = s.edgeStamp := by
  obtain ⟨⟨_, _, rfl⟩, -⟩ := h
  rfl

theorem webOnly.ns (h : webOnly l s u) : u.ns = s.ns := by
  obtain ⟨⟨_, _, rfl⟩, -⟩ := h
  rfl

/-- A command that changes the web position unit alone keeps every object outside `l`, those of events apart. -/
theorem webOnly.objectsKept_finish {t : Nat} (h : webOnly l (s.tickTo t) u) : objectsKept s (u.finish s t) l :=
  fun k hk he => (u.val_finish s t (notOccupancy_of_eventKey he)).trans ((h.2 k hk).trans (s.val_tickTo t k))

/-- A command that changes the web position unit alone keeps every other part but the network. -/
theorem webOnly.partsKept_finish {t : Nat} (h : webOnly l (s.tickTo t) u) : partsKept (s.tickTo t) (u.finish s t) [.web, .net] := by
  obtain ⟨⟨w, d, rfl⟩, -⟩ := h
  intro p hp
  cases p with
  | web => simp at hp
  | net => simp at hp
  | span =>
    obtain ⟨m, hm⟩ := State.finish_span { s.tickTo t with web := w, dict := d } s t
    exact hm.trans (by rw [hm])
  | _ => simp [Part.same]

end

/-! ### The objects of an accepted edge -/

/-- The objects that an accepted edge of encoder `e` may write where no index event happens. -/
def edgeKeys (e : Nat) : List Nat :=
  [Obj.EncoderStatus.count e, Obj.EncoderStatus.lastEdgeStamp e, Obj.EncoderStatus.flags e, Obj.EncoderStatus.direction e,
    Obj.EncoderStatus.speed e]

/-- The objects before the encoders' status are not among them. -/
theorem notEdgeKey {k : Nat} (e : Nat) (h : k < 0x301800) : k ∉ edgeKeys e := by
  simp only [edgeKeys, Obj.EncoderStatus.count, Obj.EncoderStatus.lastEdgeStamp, Obj.EncoderStatus.flags, Obj.EncoderStatus.direction,
    Obj.EncoderStatus.speed, List.mem_cons, List.not_mem_nil, or_false]
  omega

section
variable {s u : State} {e : Nat}

theorem webOnly.source (h : webOnly (edgeKeys e) s u) : u.source = s.source :=
  h.nat (notEdgeKey e (by decide))

/-- Whether Z is active rests on its level and on its polarity, which lies before the status. -/
theorem webOnly.zActive (h : webOnly (edgeKeys e) s u) (he : e < 2) (hz : (u.enc e).z = (s.enc e).z) : u.zActive e = s.zActive e := by
  rw [State.zActive, State.zActive, hz, h.flag (notEdgeKey e (by unfold Obj.EncoderConfig.indexPolarity; omega))]

/-! ### Operations of a channel -/

@[simp] theorem State.enc_setVal (s : State) (k : Nat) (v : Val) (e : Nat) : (s.setVal k v).enc e = s.enc e := rfl

/-- A 32-bit counter after it rose. -/
theorem State.nat_inc_self (s : State) (k : Nat) : (s.inc k).nat k = (s.nat k + 1) % 2 ^ 32 := by
  rw [State.inc_eq, State.nat_setVal_self, Int.toNat_natCast]

theorem webOnly_endPulse {l : List Nat} : webOnly l s (s.endPulse e) := by
  unfold State.endPulse
  split
  · exact webOnly_refl
  · exact webOnly_setEnc _ _

/-- The end of a pulse of Z changes what is counted in the pulse alone. -/
theorem State.enc_endPulse (s : State) (e : Nat) : ∃ n w, (s.endPulse e).enc e = { s.enc e with zCount := n, zWait := w } := by
  unfold State.endPulse
  split
  · exact ⟨_, _, rfl⟩
  · exact ⟨_, _, s.enc_setEnc_self _ _⟩

theorem webOnly_setSpeed {l : List Nat} (n d : Nat) (h : Obj.EncoderStatus.speed e ∈ l) : webOnly l s (s.setSpeed e n d) :=
  (webOnly_setEnc _ _).trans (webOnly_setVal _ h)

@[simp] theorem State.enc_setSpeed (s : State) (e n d : Nat) : (s.setSpeed e n d).enc e = { s.enc e with vN := n, vD := d } :=
  s.enc_setEnc_self _ _

/-- No counts in a second are 0 at any scale. -/
theorem near_noCounts (r : Int) : near ((0 : Nat) * r) ((1 : Nat) * 2 ^ 48) = 0 := by
  rw [Int.natCast_zero, Int.zero_mul]
  decide

/-- A speed of no counts is reported as 0, whatever scale and direction. -/
theorem State.num_setSpeed_zero (s : State) (e : Nat) : (s.setSpeed e 0 1).num (Obj.EncoderStatus.speed e) = 0 := by
  unfold State.setSpeed
  extract_lets x s1 scale v
  have hv : v = 0 := by
    simp only [v, near_noCounts]
    decide
  rw [hv, State.setN_eq, State.num_setVal_self, Int.neg_zero, ite_self]

/-- An accepted count edge of a channel that is not the source sets its direction, edge history and speed, and nothing else (R58). -/
theorem State.speedEdge_eq (s : State) {e : Nat} (d : Int) (he : e ≠ s.source) :
    ∃ dir h k n m, s.speedEdge e d =
      ((s.setVal (Obj.EncoderStatus.direction e) (.num dir)).setEnc e { s.enc e with hist := h, since := k }).setSpeed e n m := by
  unfold State.speedEdge
  extract_lets x dir turned s1 hist since s2 s3 k lim
  have hs : s2.source = s.source := s.nat_setVal_ne _ (by unfold Obj.WebSource.primarySource Obj.EncoderStatus.direction; omega)
  have hs3 : s3 = s2 := if_neg (fun h => he (h.2.trans hs))
  have hne : hist.getLast? ≠ none := by
    simp only [ne_eq, List.getLast?_eq_none_iff, hist]
    split <;> simp
  rw [hs3]
  split
  · next h => exact absurd h hne
  · extract_lets dt
    split
    · exact ⟨_, _, _, _, _, rfl⟩
    · split <;> exact ⟨_, _, _, _, _, rfl⟩

/-- With Z inactive the index function only counts on from its last evaluation (R49). -/
theorem State.indexEdge_idle {s : State} {e : Nat} (d : Int) (hz : s.zActive e = false) :
    s.indexEdge e d = s.setEnc e { s.enc e with idxR := (s.enc e).idxR.map (· + d) } := by
  simp [State.indexEdge, hz]

end

/-! ### An accepted edge of a channel that is not the source -/

/-- What a count edge may write of a channel that is not the source, with Z inactive. -/
def countKeys (e : Nat) : List Nat := [Obj.EncoderStatus.count e, Obj.EncoderStatus.direction e, Obj.EncoderStatus.speed e]

section
variable {s : State} {e : Nat}

theorem webOnly.ofCount {u : State} (h : webOnly (countKeys e) s u) : webOnly (edgeKeys e) s u :=
  h.mono (by simp [countKeys, edgeKeys])

/-- Speed and index at an edge of a channel that is not the source, with Z inactive, write its direction and speed alone; of the channel they
keep the levels, the stamp and Z (R49, R58). -/
theorem speedIndexEdge_secondary (d : Int) (h2 : e < 2) (he : e ≠ s.source) (hz : s.zActive e = false) :
    webOnly [Obj.EncoderStatus.direction e, Obj.EncoderStatus.speed e] s ((s.speedEdge e d).indexEdge e d) ∧
      ∃ h k n m r, ((s.speedEdge e d).indexEdge e d).enc e =
        { s.enc e with hist := h, since := k, vN := n, vD := m, idxR := r } := by
  obtain ⟨dir, h, k, n, m, heq⟩ := s.speedEdge_eq d he
  have hw : webOnly [Obj.EncoderStatus.direction e, Obj.EncoderStatus.speed e] s (s.speedEdge e d) := by
    rw [heq]
    exact ((webOnly_setVal _ (by simp)).trans (webOnly_setEnc _ _)).trans (webOnly_setSpeed _ _ (by simp))
  have henc : (s.speedEdge e d).enc e = { s.enc e with hist := h, since := k, vN := n, vD := m } := by simp [heq]
  have hz' : (s.speedEdge e d).zActive e = false :=
    ((hw.mono (by simp [edgeKeys])).zActive h2 (by rw [henc])).trans hz
  rw [State.indexEdge_idle d hz']
  exact ⟨hw.trans (webOnly_setEnc _ _), h, k, n, m, _, by rw [State.enc_setEnc_self, henc]⟩

/-- A count edge of a channel that is not the source, with Z inactive: the counter moves by its sign, and beside it only direction and speed
(R47, R49, R58). -/
theorem countEdge_secondary (d : Int) (h2 : e < 2) (he : e ≠ s.source) (hz : s.zActive e = false) :
    webOnly (countKeys e) s (s.countEdge e d) ∧
      (s.countEdge e d).num (Obj.EncoderStatus.count e) = sext 48 (s.num (Obj.EncoderStatus.count e) + d) ∧
      ∃ h k n m r, (s.countEdge e d).enc e = { s.enc e with hist := h, since := k, vN := n, vD := m, idxR := r } := by
  unfold State.countEdge
  extract_lets s1 s2 s3 w s4
  have h1 : webOnly (countKeys e) s s1 := webOnly_setVal _ (by simp [countKeys])
  have he1 : e ≠ s1.source := h1.ofCount.source ▸ he
  have hs2 : s2 = s1 := if_neg he1
  obtain ⟨h3, henc⟩ := speedIndexEdge_secondary (s := s2) d h2 (hs2 ▸ he1) (hs2 ▸ (h1.ofCount.zActive h2 rfl).trans hz)
  have h4 : webOnly (countKeys e) s s4 :=
    h1.trans (hs2 ▸ (h3.mono (by simp [countKeys])).trans (webOnly_setWeb _))
  rw [if_neg (fun h => he (h.trans h4.ofCount.source))]
  have hs2e : s2.enc e = s.enc e := by rw [hs2]; rfl
  rw [hs2e] at henc
  refine ⟨h4, ?_, henc⟩
  calc s4.num (Obj.EncoderStatus.count e)
      = s2.num (Obj.EncoderStatus.count e) :=
        h3.num (by simp [Obj.EncoderStatus.count, Obj.EncoderStatus.direction, Obj.EncoderStatus.speed])
    _ = sext 48 (s.num (Obj.EncoderStatus.count e) + d) := hs2 ▸ s.num_setVal_self _ _

/-- An edge of A taken as accepted, before it is decoded: its level and stamp, and Standstill cleared (R43, R59). -/
def State.takeA (s : State) (e : Nat) : State :=
  ((s.setEnc e { s.enc e with a := (s.enc e).ballA, last := some s.ns }).encFlag e 0 false).setN (Obj.EncoderStatus.lastEdgeStamp e) s.edgeStamp

theorem webOnly_takeA : webOnly (edgeKeys e) s (s.takeA e) :=
  ((webOnly_setEnc _ _).trans (webOnly_setVal _ (by simp [edgeKeys]))).trans (webOnly_setVal _ (by simp [edgeKeys]))

theorem State.enc_takeA (s : State) (e : Nat) : (s.takeA e).enc e = { s.enc e with a := (s.enc e).ballA, last := some s.ns } :=
  s.enc_setEnc_self _ _

theorem State.num_count_takeA (s : State) (e : Nat) :
    (s.takeA e).num (Obj.EncoderStatus.count e) = s.num (Obj.EncoderStatus.count e) := by
  simp [State.takeA, State.encFlag, Obj.EncoderStatus.count, Obj.EncoderStatus.lastEdgeStamp, Obj.EncoderStatus.flags]

theorem State.standstill_takeA (s : State) (e : Nat) : bit ((s.takeA e).nat (Obj.EncoderStatus.flags e)) 0 = false := by
  simp [State.takeA, State.encFlag, Obj.EncoderStatus.lastEdgeStamp, Obj.EncoderStatus.flags]

theorem State.stamp_takeA (s : State) (e : Nat) : (s.takeA e).nat (Obj.EncoderStatus.lastEdgeStamp e) = s.edgeStamp := by
  simp [State.takeA]

/-- The sign with which full quadrature counts an edge of A to level `la`: forward where A ≠ B (R43). -/
def State.signA (s : State) (e : Nat) (la : Bool) : Int :=
  if (la != (s.enc e).b) != s.flag (Obj.EncoderConfig.reverse e) then 1 else -1

/-- In full quadrature every accepted edge of A is counted (R43). -/
theorem State.acceptEdge_full (h2 : e < 2) (hd : s.nat (Obj.EncoderConfig.decodeMode e) = 0) :
    s.acceptEdge e true = (s.takeA e).countEdge e (s.signA e (s.enc e).ballA) := by
  have hmode : (s.takeA e).nat (Obj.EncoderConfig.decodeMode e) = 0 :=
    (webOnly_takeA.nat (notEdgeKey e (by unfold Obj.EncoderConfig.decodeMode; omega))).trans hd
  have hrev : (s.takeA e).flag (Obj.EncoderConfig.reverse e) = s.flag (Obj.EncoderConfig.reverse e) :=
    webOnly_takeA.flag (notEdgeKey e (by unfold Obj.EncoderConfig.reverse; omega))
  unfold State.acceptEdge
  extract_lets x0 x s1
  have hs1 : s1 = s.takeA e := rfl
  rw [hs1, hmode, hrev]
  rfl

/-- In `u` an edge of A to level `la` is accepted on channel `e` of `s` and counted in full quadrature (R43, R47, R59). -/
structure EdgeCounted (s u : State) (e : Nat) (la : Bool) : Prop where
  only : webOnly (edgeKeys e) s u
  count : u.num (Obj.EncoderStatus.count e) = sext 48 (s.num (Obj.EncoderStatus.count e) + s.signA e la)
  stamp : u.nat (Obj.EncoderStatus.lastEdgeStamp e) = s.edgeStamp
  standstill : bit (u.nat (Obj.EncoderStatus.flags e)) 0 = false
  level : (u.enc e).a = la
  last : (u.enc e).last = some s.ns

/-- An accepted edge of A counts in full quadrature. -/
theorem acceptEdge_secondary (h2 : e < 2) (he : e ≠ s.source) (hz : s.zActive e = false)
    (hd : s.nat (Obj.EncoderConfig.decodeMode e) = 0) : EdgeCounted s (s.acceptEdge e true) e (s.enc e).ballA := by
  have ht : webOnly (edgeKeys e) s (s.takeA e) := webOnly_takeA
  obtain ⟨hu, hn, h, k, n, m, r, henc⟩ := countEdge_secondary (s := s.takeA e) (s.signA e (s.enc e).ballA) h2 (ht.source ▸ he)
    ((ht.zActive h2 (by rw [State.enc_takeA])).trans hz)
  have hkeep : ∀ j, j = Obj.EncoderStatus.flags e ∨ j = Obj.EncoderStatus.lastEdgeStamp e → j ∉ countKeys e := by
    rintro j (rfl | rfl) <;>
      simp [countKeys, Obj.EncoderStatus.count, Obj.EncoderStatus.lastEdgeStamp, Obj.EncoderStatus.flags, Obj.EncoderStatus.direction,
        Obj.EncoderStatus.speed]
  rw [State.acceptEdge_full h2 hd]
  exact {
    only := ht.trans hu.ofCount
    count := hn.trans (by rw [State.num_count_takeA])
    stamp := (hu.nat (hkeep _ (.inr rfl))).trans (s.stamp_takeA e)
    standstill := by rw [hu.nat (hkeep _ (.inl rfl)), State.standstill_takeA]
    level := by rw [henc, State.enc_takeA]
    last := by rw [henc, State.enc_takeA] }

/-! ### Spacing -/

/-- A first or well-spaced edge is accepted (R44). -/
theorem spacedEdge_accepts (isA : Bool)
    (h : ∀ l, (s.enc e).last = some l → l + 5 * s.nat (Obj.EncoderConfig.minSpacing e) ≤ s.ns) :
    s.spacedEdge e isA = s.acceptEdge e isA := by
  unfold State.spacedEdge
  split
  · next l hl => exact if_neg (Nat.not_lt.2 (h l hl))
  · rfl

/-- An edge that comes before `MinSpacing` has passed is rejected (R44). -/
theorem spacedEdge_rejects {l : Nat} (isA : Bool) (hl : (s.enc e).last = some l)
    (h : s.ns < l + 5 * s.nat (Obj.EncoderConfig.minSpacing e)) : s.spacedEdge e isA = s.reject e := by
  simp only [State.spacedEdge, hl, if_pos h]

/-- In `u` an edge of channel `e` of `s` is rejected: the rejection is counted and the accepted level of A stays (R44). -/
structure EdgeRejected (s u : State) (e : Nat) : Prop where
  only : webOnly [Obj.EncoderStatus.rejectedEdges e] s u
  count : u.nat (Obj.EncoderStatus.rejectedEdges e) = (s.nat (Obj.EncoderStatus.rejectedEdges e) + 1) % 2 ^ 32
  level : (u.enc e).a = (s.enc e).a

/-- On a channel that is not in use no storm follows a rejection (R62). -/
theorem reject_unused (hu : s.encInUse e = false) : EdgeRejected s (s.reject e) e := by
  unfold State.reject
  extract_lets x w l s1
  have h1 : webOnly [Obj.EncoderStatus.rejectedEdges e] s s1 := (webOnly_setEnc _ _).trans (webOnly_setVal _ (by simp))
  have hlow : ∀ k < 0x301800, k ∉ [Obj.EncoderStatus.rejectedEdges e] := by
    intro k hk
    simp only [Obj.EncoderStatus.rejectedEdges, List.mem_singleton]
    omega
  have hu1 : s1.encInUse e = false := by
    rw [← hu, State.encInUse, State.encInUse, State.source, State.source, h1.nat (hlow _ (by decide)), h1.nat (hlow _ (by decide))]
  rw [if_neg (by simp [State.storms, hu1])]
  exact ⟨h1, State.nat_inc_self _ _, by simp [s1, x]⟩

/-! ### A change of A at the balls -/

/-- New levels of A and Z at the balls of a channel, before they are judged. -/
def State.ballsA (s : State) (e : Nat) (la lz : Bool) : State := (s.setEnc e { s.enc e with ballA := la, z := lz }).endPulse e

theorem webOnly_ballsA {l : List Nat} (s : State) (e : Nat) (la lz : Bool) : webOnly l s (s.ballsA e la lz) :=
  (webOnly_setEnc _ _).trans webOnly_endPulse

theorem State.enc_ballsA (s : State) (e : Nat) (la lz : Bool) :
    ∃ n w, (s.ballsA e la lz).enc e = { s.enc e with ballA := la, z := lz, zCount := n, zWait := w } := by
  obtain ⟨n, w, h⟩ := (s.setEnc e { s.enc e with ballA := la, z := lz }).enc_endPulse e
  exact ⟨n, w, by rw [State.ballsA, h, State.enc_setEnc_self]⟩

theorem State.nat_ballsA (s : State) (e : Nat) (la lz : Bool) (k : Nat) : (s.ballsA e la lz).nat k = s.nat k :=
  (webOnly_ballsA s e la lz).nat List.not_mem_nil

theorem State.flag_ballsA (s : State) (e : Nat) (la lz : Bool) (k : Nat) : (s.ballsA e la lz).flag k = s.flag k :=
  (webOnly_ballsA s e la lz).flag List.not_mem_nil

/-- In spacing mode a change of A alone, away from its last accepted level, is judged by its spacing (R44). -/
theorem inputEdge_onA {la : Bool} (lz : Bool) (hv : s.nat (Obj.EncoderConfig.validationMode e) = 0) (hb : la ≠ (s.enc e).ballA)
    (ha : la ≠ (s.enc e).a) : s.inputEdge e la (s.enc e).ballB lz = (s.ballsA e la lz).spacedEdge e true := by
  have hm : (s.ballsA e la lz).nat (Obj.EncoderConfig.validationMode e) ≠ 1 := by
    rw [State.nat_ballsA, hv]
    decide
  unfold State.inputEdge
  extract_lets x dA dB s1
  rw [if_neg (show s1.nat _ ≠ 1 from hm), if_neg (by simp [dB, x])]
  exact if_pos ⟨by simpa [dA] using hb, ha⟩

/-- An edge that counts after the new levels stand at the balls counts from the state before them. -/
theorem EdgeCounted.of_ballsA {u : State} {la lz : Bool} (h : EdgeCounted (s.ballsA e la lz) u e la) : EdgeCounted s u e la := by
  have hp : webOnly (edgeKeys e) s (s.ballsA e la lz) := webOnly_ballsA s e la lz
  obtain ⟨n, w, henc⟩ := s.enc_ballsA e la lz
  have hsign : (s.ballsA e la lz).signA e la = s.signA e la := by rw [State.signA, State.signA, henc, State.flag_ballsA]
  have hcount : (s.ballsA e la lz).num (Obj.EncoderStatus.count e) = s.num (Obj.EncoderStatus.count e) :=
    (webOnly_ballsA s e la lz).num List.not_mem_nil
  exact {
    only := hp.trans h.only
    count := by rw [h.count, hcount, hsign]
    stamp := h.stamp.trans hp.edgeStamp
    standstill := h.standstill
    level := h.level
    last := by rw [h.last, hp.ns] }

/-- With Z inactive, a first or well-spaced change of A alone on a channel that is not the source counts in full quadrature (R43, R44). -/
theorem inputEdge_counts {la lz : Bool} (h2 : e < 2) (he : e ≠ s.source) (hz : lz = s.flag (Obj.EncoderConfig.indexPolarity e))
    (hv : s.nat (Obj.EncoderConfig.validationMode e) = 0) (hd : s.nat (Obj.EncoderConfig.decodeMode e) = 0)
    (hb : la ≠ (s.enc e).ballA) (ha : la ≠ (s.enc e).a)
    (hl : ∀ l, (s.enc e).last = some l → l + 5 * s.nat (Obj.EncoderConfig.minSpacing e) ≤ s.ns) :
    EdgeCounted s (s.inputEdge e la (s.enc e).ballB lz) e la := by
  have hp : webOnly (edgeKeys e) s (s.ballsA e la lz) := webOnly_ballsA s e la lz
  obtain ⟨n, w, henc⟩ := s.enc_ballsA e la lz
  have hl' : ∀ l, ((s.ballsA e la lz).enc e).last = some l →
      l + 5 * (s.ballsA e la lz).nat (Obj.EncoderConfig.minSpacing e) ≤ (s.ballsA e la lz).ns := by
    intro l h
    rw [henc] at h
    rw [State.nat_ballsA, hp.ns]
    exact hl l h
  have hz' : (s.ballsA e la lz).zActive e = false := by
    rw [State.zActive, henc, State.flag_ballsA, ← hz, bne_self_eq_false]
  have hc := acceptEdge_secondary h2 (hp.source ▸ he) hz' ((s.nat_ballsA e la lz _).trans hd)
  rw [henc] at hc
  rw [inputEdge_onA lz hv hb ha, spacedEdge_accepts true hl']
  exact hc.of_ballsA

/-- On a channel not in use a change of A alone before `MinSpacing` has passed is rejected (R44). -/
theorem inputEdge_rejects {la lz : Bool} {l : Nat} (hu : s.encInUse e = false)
    (hv : s.nat (Obj.EncoderConfig.validationMode e) = 0) (hb : la ≠ (s.enc e).ballA) (ha : la ≠ (s.enc e).a)
    (hl : (s.enc e).last = some l) (hs : s.ns < l + 5 * s.nat (Obj.EncoderConfig.minSpacing e)) :
    EdgeRejected s (s.inputEdge e la (s.enc e).ballB lz) e := by
  have hp : webOnly [Obj.EncoderStatus.rejectedEdges e] s (s.ballsA e la lz) := webOnly_ballsA s e la lz
  obtain ⟨n, w, henc⟩ := s.enc_ballsA e la lz
  have hu' : (s.ballsA e la lz).encInUse e = false := by
    rw [← hu, State.encInUse, State.encInUse, State.source, State.source, State.nat_ballsA, State.nat_ballsA]
  have hs' : (s.ballsA e la lz).ns < l + 5 * (s.ballsA e la lz).nat (Obj.EncoderConfig.minSpacing e) := by
    rw [hp.ns, State.nat_ballsA]
    exact hs
  rw [inputEdge_onA lz hv hb ha, spacedEdge_rejects true (by rw [henc, ← hl]) hs']
  have hr := reject_unused hu'
  exact ⟨hp.trans hr.only, by rw [hr.count, State.nat_ballsA], by rw [hr.level, henc]⟩

end

/-! ### Standstill and the evaluation of overspeed -/

/-- `u` keeps of `s` the web position unit, what was emitted, and the objects before the line generator's. -/
def keepsWeb (s u : State) : Prop := u.web = s.web ∧ (∀ x ∈ s.out, x ∈ u.out) ∧ ∀ k < 0x304000, u.val k = s.val k

section
variable {s u v : State}

theorem keepsWeb_refl : keepsWeb s s := ⟨rfl, fun _ h => h, fun _ _ => rfl⟩

theorem keepsWeb.trans (h : keepsWeb s u) (h' : keepsWeb u v) : keepsWeb s v :=
  ⟨h'.1.trans h.1, fun x hx => h'.2.1 x (h.2.1 x hx), fun k hk => (h'.2.2 k hk).trans (h.2.2 k hk)⟩

theorem keepsWeb_setVal {k : Nat} (x : Val) (h : 0x304000 ≤ k) : keepsWeb s (s.setVal k x) :=
  ⟨rfl, fun _ h => h, fun _ hj => s.val_setVal_ne x (by omega)⟩

theorem keepsWeb_emit (x : Emit) : keepsWeb s (s.emit x) := ⟨rfl, fun _ h => by simp [h], fun _ _ => rfl⟩

theorem keepsWeb_ev (ev : Nat × Nat) : keepsWeb s (s.ev ev) := by
  refine ⟨s.raise_web _ _ _ _ _, fun x hx => s.raise_keeps _ _ _ _ _ hx, fun k hk => s.val_raise _ _ _ _ _ ?_ ?_ ?_⟩ <;>
    simp only [Obj.handling, Obj.HostLogStatus.hostEntriesLost, Obj.FieldLogStatus.fieldEntriesLost] <;> omega

theorem keepsWeb_driveWebSlow (l : Bool) : keepsWeb s (s.driveWebSlow l) := by
  unfold State.driveWebSlow
  split
  · exact keepsWeb_refl
  · exact ((keepsWeb_setVal _ (by decide)).trans (keepsWeb_emit _)).trans (keepsWeb_ev _)

/-- The evaluation of overspeed reports loads and drives WEB_SLOW; it leaves the encoders as they are (R73). -/
theorem keepsWeb_overspeed : keepsWeb s s.overspeed := by
  unfold State.overspeed
  extract_lets on s1
  have h1 : keepsWeb s s1 := by
    refine State.each_keeps (keepsWeb s) (fun v k hv => hv.trans ?_) on keepsWeb_refl
    exact (keepsWeb_setVal _ (by unfold Obj.LineGenerator.lineRate; omega)).trans
      (keepsWeb_setVal _ (by unfold Obj.LineGenerator.loadFraction; omega))
  split <;> exact h1.trans (keepsWeb_driveWebSlow _)

/-- A channel after `StandstillTimeout` without an accepted edge: no history, speed 0, Flags [0] set (R59). -/
def State.still (s : State) (e : Nat) : State :=
  ((s.setEnc e { s.enc e with hist := [], since := 0 }).setSpeed e 0 1).encFlag e 0 true

/-- Channel `e` is reported as standing still (R59). -/
structure StandsStill (s : State) (e : Nat) : Prop where
  speed : s.num (Obj.EncoderStatus.speed e) = 0
  hist : (s.enc e).hist = []
  flag : bit (s.nat (Obj.EncoderStatus.flags e)) 0 = true

theorem standsStill_still (s : State) (e : Nat) : StandsStill (s.still e) e where
  speed := by
    rw [← State.num_setSpeed_zero (s.setEnc e { s.enc e with hist := [], since := 0 }) e]
    exact State.num_setVal_ne _ _ (by simp [Obj.EncoderStatus.speed, Obj.EncoderStatus.flags])
  hist := by simp [State.still, State.encFlag]
  flag := by simp [State.still, State.encFlag]

/-- A channel stands still as long as its reports and its history stay. -/
theorem StandsStill.congr {e : Nat} (h : StandsStill s e) (hs : u.val (Obj.EncoderStatus.speed e) = s.val (Obj.EncoderStatus.speed e))
    (hf : u.val (Obj.EncoderStatus.flags e) = s.val (Obj.EncoderStatus.flags e)) (he : u.enc e = s.enc e) : StandsStill u e :=
  ⟨(State.num_congr hs).trans h.speed, he ▸ h.hist, State.nat_congr hf ▸ h.flag⟩

theorem State.source_still (s : State) (e : Nat) : (s.still e).source = s.source :=
  webOnly.source (e := e)
    (((webOnly_setEnc _ _).trans (webOnly_setSpeed _ _ (by simp [edgeKeys]))).trans (webOnly_setVal _ (by simp [edgeKeys])))

/-- A standstill of the source is reported, and the line generator's speed is 0 (R59, R71). -/
def State.sourceStill (s : State) : State := ((s.setWeb { s.web with lineVN := 0, lineVD := 1 }).ev Ev.standstill).overspeed

theorem sourceStill_keeps : keepsWeb (s.setWeb { s.web with lineVN := 0, lineVD := 1 }) s.sourceStill :=
  (keepsWeb_ev _).trans keepsWeb_overspeed

theorem sourceStill_raises : raised s.sourceStill Ev.standstill := by
  obtain ⟨x, hx, hcode, hcls, -⟩ := (s.setWeb { s.web with lineVN := 0, lineVD := 1 }).raise_mem .field Ev.standstill 0 none []
  exact ⟨x, keepsWeb_overspeed.2.1 _ hx, hcode, hcls⟩

/-- The standstill of the source leaves the channel's own as it was. -/
theorem StandsStill.sourceStill {e : Nat} (h2 : e < 2) (h : StandsStill s e) : StandsStill s.sourceStill e := by
  obtain ⟨hweb, -, hval⟩ := sourceStill_keeps (s := s)
  exact h.congr (hval _ (by unfold Obj.EncoderStatus.speed; omega)) (hval _ (by unfold Obj.EncoderStatus.flags; omega))
    (by rw [State.enc, hweb]; rfl)

end

/-! ### The commands -/

section
variable {s : State} {t e : Nat}

theorem execEncoderEdge_run (la lb lz : Bool) (h : s.fieldOn) (h2 : e < 2) :
    exec (.encoderEdge t e la lb lz) s = .next (((s.tickTo t).inputEdge e la lb lz).finish s t) := by
  show fieldCmd t s _ = _
  rw [fieldCmd_run t _ h, cmd, if_pos h2]

/-- The standstill of a channel whose timeout has passed and that does not stand yet (R59). -/
theorem execStandstill_run {l : Nat} (h : s.fieldOn) (h2 : e < 2) (hl : (s.enc e).last = some l)
    (hf : bit (s.nat (Obj.EncoderStatus.flags e)) 0 = false)
    (ht : l + 1000000 * s.nat Obj.PositionCertainty.standstillTimeout ≤ max s.now t / 10) :
    exec (.standstill t e) s =
      .next ((if e = s.source then ((s.tickTo t).still e).sourceStill else (s.tickTo t).still e).finish s t) := by
  have hl' : ((s.tickTo t).enc e).last = some l := hl
  have hc : e < 2 ∧ !bit ((s.tickTo t).nat (Obj.EncoderStatus.flags e)) 0 ∧
      l + 1000000 * (s.tickTo t).nat Obj.PositionCertainty.standstillTimeout ≤ (s.tickTo t).ns := ⟨h2, by simp [hf], ht⟩
  show execStandstill t e s = _
  unfold execStandstill
  rw [fieldCmd_run t _ h, cmd, hl']
  dsimp only
  rw [if_pos hc, ← show ((s.tickTo t).still e).source = s.source from (s.tickTo t).source_still e]
  rfl

/-! ### The end of a command -/

/-- The end of a command writes no object of the encoders' status. -/
theorem notOccupancy_status (e : Nat) {k : Nat} (h : k ∈ Obj.EncoderStatus.rejectedEdges e :: edgeKeys e) : notOccupancy k := by
  refine notOccupancy_of (.inr (.inr ?_))
  simp only [edgeKeys, Obj.EncoderStatus.rejectedEdges, Obj.EncoderStatus.count, Obj.EncoderStatus.lastEdgeStamp, Obj.EncoderStatus.flags,
    Obj.EncoderStatus.direction, Obj.EncoderStatus.speed, List.mem_cons, List.not_mem_nil, or_false] at h
  omega

@[simp] theorem State.enc_finish (u s : State) (t e : Nat) : (u.finish s t).enc e = u.enc e := by
  rw [State.enc, State.finish_web]
  rfl

theorem StandsStill.finish {u : State} (h : StandsStill u e) : StandsStill (u.finish s t) e :=
  h.congr (u.val_finish s t (notOccupancy_status e (by simp [edgeKeys]))) (u.val_finish s t (notOccupancy_status e (by simp [edgeKeys])))
    (u.enc_finish s t e)

end

/-- Settles O2: the operations of a channel that is not the source change the web position unit and named objects alone, so an edge of A
leaves what its acceptance or its rejection writes; a standstill of the source keeps, in its event and the evaluation of overspeed, what
the standstill of the channel wrote. -/
theorem encoderEdgesCountOrAreRejected : Obligations.EncoderEdgesCountOrAreRejected := by
  unfold Obligations.EncoderEdgesCountOrAreRejected
  refine ⟨?_, ?_, ?_⟩
  · intro s t e la hon h2 he hv hd hb ha hl
    have hu := inputEdge_counts (s := s.tickTo t) (lz := s.flag (Obj.EncoderConfig.indexPolarity e)) h2 he rfl hv hd hb ha hl
    refine ⟨_, execEncoderEdge_run la _ _ hon h2, ?_, ?_, ?_, ?_, ?_, hu.only.objectsKept_finish, hu.only.partsKept_finish⟩
    · exact (State.num_finish _ s t (notOccupancy_status e (by simp [edgeKeys]))).trans hu.count
    · exact (State.nat_finish _ s t (notOccupancy_status e (by simp [edgeKeys]))).trans hu.stamp
    · exact (congrArg (bit · 0) (State.nat_finish _ s t (notOccupancy_status e (by simp [edgeKeys])))).trans hu.standstill
    · exact (congrArg Enc.a (State.enc_finish _ s t e)).trans hu.level
    · exact (congrArg Enc.last (State.enc_finish _ s t e)).trans hu.last
  · intro s t e l la hon h2 hu hv hb ha hl hs
    have hr := inputEdge_rejects (s := s.tickTo t) (lz := (s.enc e).z) hu hv hb ha hl hs
    refine ⟨_, execEncoderEdge_run la _ _ hon h2, ?_, ?_, hr.only.objectsKept_finish, hr.only.partsKept_finish⟩
    · exact (State.nat_finish _ s t (notOccupancy_status e (by simp))).trans hr.count
    · exact (congrArg Enc.a (State.enc_finish _ s t e)).trans hr.level
  · intro s t e l hon h2 hl hf ht
    have hstill := standsStill_still (s.tickTo t) e
    refine ⟨_, execStandstill_run hon h2 hl hf ht, ?_⟩
    split
    · obtain ⟨hspeed, hhist, hflag⟩ := (hstill.sourceStill h2).finish (s := s) (t := t)
      obtain ⟨x, hx, hev⟩ := sourceStill_raises (s := (s.tickTo t).still e)
      exact ⟨hspeed, hhist, hflag, fun _ => ⟨⟨x, State.finish_out _ s t hx, hev⟩, by rw [State.finish_web, sourceStill_keeps.1]; rfl⟩⟩
    · next hs =>
      obtain ⟨hspeed, hhist, hflag⟩ := hstill.finish (s := s) (t := t)
      exact ⟨hspeed, hhist, hflag, fun h => absurd h hs⟩

end Sys2Proof.Machine
end

section
/-! SUPPORT. The mirrored objects on a STANDBY or FAILED part (R483): the check that closes them to writes, and what a read of a number
answers (R329, R366). -/

namespace Sys2Proof.Machine

section
variable {s : State} {a : Caller} {role : Role} {ix sub key : Nat} {d : Desc}

/-! ### The check of a write -/

/-- On a STANDBY or FAILED part the mirrored objects and the record 0x4402 are closed. -/
theorem State.mirrorClosed_of_role (hr : s.nat Obj.DuplexStatus.role = 2 ∨ s.nat Obj.DuplexStatus.role = 3)
    (hm : mirrored ix = true ∨ ix = 0x4402) : s.mirrorClosed ix = true := by
  have h2 : 2 ≤ s.nat Obj.DuplexStatus.role := by omega
  simp [State.mirrorClosed, h2, hm]

/-- A write to a present object that the mirror closes is refused as one to a read-only object, whatever the caller's role. -/
theorem State.permit_mirrorClosed (role : Role) (hd : descOf key = some d) (ha : s.absent key = false)
    (hm : s.mirrorClosed (key / 256) = true) : s.permit role key true = 0x01010001 := by
  simp [State.permit, hd, ha, hm]

/-! ### What a read answers -/

/-- A read of a number whose read neither draws a challenge nor samples the balls answers the number, whatever it clears besides. -/
theorem State.readObject_number (hch : key ≠ Obj.Debug.debugChallenge) (hin : key ≠ Obj.Gpio.input) (hs : d.ty ≠ .str) (hdom : d.ty ≠ .dom) :
    (s.readObject a key d.ty).1 = encodeVal d.ty (.num (s.number a.sess key)) := by
  unfold State.readObject
  rw [if_neg hch, if_neg hin]
  -- every branch answers the same bytes; `hs` and `hdom` select the number among them
  simp only [apply_ite Prod.fst, ite_self]

/-- A read that passes its checks answers the object's bytes. -/
theorem State.get_out (hp : s.permit a.role key false = 0) (hd : descOf key = some d) (ha : s.absent key = false) (hi : a.sess ≤ 256) :
    Emit.reply a.sess 0 (readBody d.ty.code (s.readObject a key d.ty).1) ∈ (s.get a key).out := by
  simp only [State.get, hp, hd, ha, Bool.false_eq_true, if_false]
  exact State.answer_mem _ _ _ _ hi

/-- `READ` of an object that the caller may read emits its bytes as of the instant of the command. -/
theorem execRead_out (t : Nat) (hup : s.hostUp = true) (hi : a.sess ≤ 256) (hv : vendorAccess a.role ix = false)
    (hp : s.permit a.role (ix * 256 + sub) false = 0) (hd : descOf (ix * 256 + sub) = some d) (ha : s.absent (ix * 256 + sub) = false) :
    ∃ u, execRead t a ix sub s = .next u ∧
      Emit.reply a.sess 0 (readBody d.ty.code ((s.tickTo t).readObject a (ix * 256 + sub) d.ty).1) ∈ u.out := by
  simp only [execRead, hv, Bool.false_eq_true, if_false, access_run t _ hup, cmd]
  exact ⟨_, rfl, State.finish_out _ _ _ (State.get_out (s := s.tickTo t) hp hd ha hi)⟩

/-! ### The objects concerned -/

/-- The mirrored indexes and 0x4402 lie from 0x3000 to 0x52FF. -/
theorem mirrored_range (hm : mirrored ix = true ∨ ix = 0x4402) : 0x3000 ≤ ix ∧ ix ≤ 0x52FF := by
  rcases hm with hm | rfl
  · simp only [mirrored, Bool.and_eq_true, Bool.or_eq_true, decide_eq_true_eq] at hm
    omega
  · decide

/-- No mirrored object, and none of 0x4402, is `DebugChallenge` or the input of the GPIO balls. -/
theorem mirrored_ne_challenge_input (hm : mirrored ix = true ∨ ix = 0x4402) (hsub : sub < 256) :
    ix * 256 + sub ≠ Obj.Debug.debugChallenge ∧ ix * 256 + sub ≠ Obj.Gpio.input := by
  have ⟨_, _⟩ := mirrored_range hm
  unfold Obj.Debug.debugChallenge Obj.Gpio.input
  omega

/-- A command that only answers, without the clause of the commit groups: they are a part that is kept besides. -/
theorem OnlyAnswers.keepsObjects {t i c : Nat} {o : Host.Outcome State Fault Refusal} (h : OnlyAnswers s t i c o) :
    ∃ u, o = .next u ∧ answered u i c ∧ objectsKeptFor i s u [] ∧ partsKept (s.tickTo t) u [.net] := by
  obtain ⟨u, ho, hans, -, hobj, hparts⟩ := h
  exact ⟨u, ho, hans, hobj, hparts⟩

end

/-- Settles O55: on a STANDBY or FAILED part the mirror's closing is the first check that a write to a present object of these meets, so
each of the four messages answers its abort and does nothing else; the two reads that answer something other than their object's number,
of `DebugChallenge` and of the GPIO balls, are of objects outside the mirrored range. -/
theorem mirroredObjectsCloseOnStandby : Obligations.MirroredObjectsCloseOnStandby := by
  unfold Obligations.MirroredObjectsCloseOnStandby
  intro s t ix sub ty a v b d hup hi hr hm hsub hd
  refine ⟨fun ha => ?_, fun hp hv ha hs hdom => ?_⟩
  · have hix : (ix * 256 + sub) / 256 = ix := by omega
    have hc : s.permit a.role (ix * 256 + sub) true = 0x01010001 :=
      State.permit_mirrorClosed a.role hd ha (hix.symm ▸ State.mirrorClosed_of_role hr hm)
    exact ⟨fun hv => ⟨(execObjectWrite_denied hup hi (by decide) t ty v hv hc).keepsObjects,
        (execStagingWrite_denied hup hi (by decide) t ty v hv hc).keepsObjects, (execRwlWrite_denied hup hi (by decide) t ty v hv hc).keepsObjects⟩,
      fun hb hv => (execDomainWriteBlock_denied hup hi (by decide) t hv (hb.symm ▸ hc)).keepsObjects⟩
  · have ⟨hch, hin⟩ := mirrored_ne_challenge_input hm hsub
    rw [← State.readObject_number hch hin hs hdom]
    exact execRead_out t hup hi hv hp hd ha

end Sys2Proof.Machine
end
